-- ==== Sys2Proof/Word.lean ====
section
/-! DEFINITION. The word types of the part: a byte, and the plain names of windows, channels and lanes. -/

namespace Sys2Proof

/-- A byte of a record, a frame or a key. -/
abbrev Byte := BitVec 8

/-- An intake window W0 to W3 (00, Main characteristics). -/
abbrev Window := Fin 4

/-- A reporting channel: 0 to 3 for W0 to W3, 4 for STORE (R52). -/
abbrev ChannelId := Fin 5

/-- A checkout lane 0 to 47. -/
abbrev LaneId := Fin 48

end Sys2Proof
end

