-- ==== Sys2Proof/Syntax.lean ====
section
/-! DEFINITION. The commands: one constructor for each row of spec/opcode_table.json, in the table's order, with the
operands the rules give it. -/

namespace Sys2Proof

/-- One 8-byte data transfer with its eight byte strobes (01, section 1.1). Bits 8i+7 to 8i of `data` are the byte at
position i of the beat, and bit i of `strobes` is its strobe (DESIGN CHOICE, log 6, safe: a choice of representation). -/
structure Beat where
  data    : BitVec 64
  strobes : BitVec 8
  deriving DecidableEq, Repr

/-- The commands of the part. The eight frame commands carry what the key-loading device clocked: the length byte, and
every whole byte clocked after it (payload, then bytes the part ignores). -/
inductive Instr where
  /-- POWER_ON (R194): the supply comes up. -/
  | powerOn
  /-- RESET_LINE (R14, R194): the reset input is asserted. -/
  | resetLine
  /-- RESET_RELEASE (R193): the reset input is released. -/
  | resetRelease
  /-- START_UP_END (R193): start-up ends. -/
  | startUpEnd
  /-- UPSTREAM_WRITE (R3): the interconnect offers a write burst of these beats from this address. -/
  | upstreamWrite (addr : BitVec 40) (beats : List Beat)
  /-- UPSTREAM_READ (R7): the interconnect offers a read burst of this many beats. -/
  | upstreamRead (addr : BitVec 40) (length : Nat)
  /-- DOWNSTREAM_GRANT (R10): the arbiter grants one burst. -/
  | downstreamGrant
  /-- DOWNSTREAM_ANSWER (R11): the DRAM controller answers the oldest burst, with the data of a read. -/
  | downstreamAnswer (okay : Bool) (data : List Byte)
  /-- RETURN_WORD (R171): the reporting unit takes the oldest return word shown to it. -/
  | returnWord
  /-- DIRECTIVE_INDEX_WORD (R178): the directive unit takes the index word shown to it. -/
  | directiveIndexWord
  /-- DIRECTIVE_SLOT_WRITE (R177): the directive unit takes the ring slot beat shown to it. -/
  | directiveSlotWrite
  /-- WRITE_BACK_ACK (R36). -/
  | writeBackAck
  /-- VOID_RECORD_ACK (R37). -/
  | voidRecordAck
  /-- STATUS_WRITE_ACK (R169). -/
  | statusWriteAck
  /-- SUMMARY_ACK (R157). -/
  | summaryAck
  /-- DIRECTIVE_RESULT_ACK (R179). -/
  | directiveResultAck
  /-- BATCH_CLOSE (R180): the directive unit takes a directive of code 1. -/
  | batchClose
  /-- LANE_SUSPEND (R69): code 2. -/
  | laneSuspend
  /-- LANE_RESUME (R69): code 3. -/
  | laneResume
  /-- LANE_FORGET (R70): code 4. -/
  | laneForget
  /-- STATUS_NOW (R181): code 5. -/
  | statusNow
  /-- UNKNOWN_CODE (R181): any other code. -/
  | unknownCode
  /-- INCOMPLETE (R179): a directive whose capture lacks one of bytes 0 to 7. -/
  | incomplete
  /-- SWEEP (R28): the sweep period expires. -/
  | sweep
  /-- HOLD_EXPIRY (R29): the first hold whose age has reached E expires. -/
  | holdExpiry
  /-- GAP_FILL (R31): a window whose gap age has reached E fills the gap. -/
  | gapFill (w : Window)
  /-- CONFIRM_TIMEOUT (R66): the confirm deadline of a lane is reached. -/
  | confirmTimeout (lane : LaneId)
  /-- LANE_SILENT (R78): the silence count of a lane has reached the threshold. -/
  | laneSilent (lane : LaneId)
  /-- COALESCE_TIME (R166): a dirty channel has reached its coalesce time. -/
  | coalesceTime (ch : ChannelId)
  /-- ENGINE_TAKE (R87 to R105): the idle engine takes an entry; with a record in work, it goes on to its next stage
  (log 22). -/
  | engineTake
  /-- WRITE_BACK_ISSUE (R106): the engine issues the built output. -/
  | writeBackIssue
  /-- VOID_RECORD_ISSUE (R9): a void record that waited for room is added. -/
  | voidRecordIssue
  /-- STATUS_WRITE_ISSUE (R166): a channel issues its status block. -/
  | statusWriteIssue (ch : ChannelId)
  /-- SUMMARY_ISSUE (R157): the totals unit issues the built summary. -/
  | summaryIssue
  /-- DIRECTIVE_RESULT_ISSUE (R179): the directive unit issues its result write. -/
  | directiveResultIssue
  /-- STORE_WRITE_BEGIN (R130): the non-volatile store begins the next waiting write. -/
  | storeWriteBegin
  /-- STORE_WRITE_END (R130): the write in progress completes or fails. -/
  | storeWriteEnd (completed : Bool)
  /-- QUERY (R186): a frame with command byte 0x01. -/
  | query (length : Byte) (clocked : List Byte)
  /-- LOAD_KEY (R132): a frame with command byte 0x02. -/
  | loadKey (length : Byte) (clocked : List Byte)
  /-- LOAD_IMAGE (R189): a frame with command byte 0x03. -/
  | loadImage (length : Byte) (clocked : List Byte)
  /-- LOCK_IMAGE (R189): a frame with command byte 0x04. -/
  | lockImage (length : Byte) (clocked : List Byte)
  /-- ERASE (R190): a frame with command byte 0x05. -/
  | erase (length : Byte) (clocked : List Byte)
  /-- EMPTY_FRAME (R182): no whole byte was clocked. -/
  | emptyFrame
  /-- BAD_COMMAND (R185): a frame with an unlisted command byte (0x01 to 0x05 are QUERY to ERASE). -/
  | badCommand (command : Byte) (length : Byte) (clocked : List Byte)
  /-- BAD_FRAME (R185): a frame cut short: these are all the bytes clocked. -/
  | badFrame (clocked : List Byte)
  deriving DecidableEq, Repr

end Sys2Proof
end

