-- ==== Sys2Proof/Config.lean ====
section
/-! DEFINITION. The free values: what the spec leaves open, as constants without a body. No proof can see what they
are, so a theorem holds for every value. -/

namespace Sys2Proof

/-- DESIGN CHOICE (log 7), safe. R130: a store write cut by a reset leaves the stored image "as it was before the
write or as the write left it, whole in either case". Applied to State.freeCount: true when it was left as written. -/
opaque Config.cutWriteLands : Nat → Bool

/-- DESIGN CHOICE (log 8), safe. R12: memory "may hold part" of an entry answered ERROR. Applied to
State.freeCount and a byte address: true when that strobed byte of the burst answered ERROR did reach memory. -/
opaque Config.errorByteLands : Nat → Nat → Bool

/-- DESIGN CHOICE (log 11), safe. R124 lets the engine form "as many further sources as it needs". Where no source of
the chain has a byte below 250 the drawing never ends, and the rule gives no shift: this free value of the last source
and the digit's index stands for it. -/
opaque Config.lateShift : List Byte → Nat → Nat

end Sys2Proof
end

