-- ==== Sys2Proof/Machine/State.lean ====
section
/-! DEFINITION. Everything the spec gives the part, as plain data: one structure for each block of 00 (Block overview),
and the state right after power-on of a part that has never been loaded. -/

namespace Sys2Proof.Machine

/-- The part never stops with a fault: every error the spec names is an answer, a count, a flag or an attention that
the state holds (INVENTORY.md, Faults). There is no constructor. -/
inductive Fault where
  deriving DecidableEq, Repr

/-- Why a command has no meaning. -/
inductive Refusal where
  /-- Raised by `exec`'s arm of a command that has no meaning yet. Safe: nothing is claimed of such a command. No arm
  raises it. -/
  | notModelled (mnemonic : String)
  deriving DecidableEq, Repr

/-! ### Supply, reset and settings (chapter 10) -/

/-- Where the part stands (R193, R194): the reset input asserted, start-up in progress, or start-up ended. -/
inductive Phase where
  | held | starting | running
  deriving DecidableEq, Repr

/-- The reset cause (R52, R194). -/
inductive ResetCause where
  | powerOn | resetLine
  deriving DecidableEq, Repr

/-- One intake window of the window map (R2). `base` is a byte address below 2^40. -/
structure IntakeWindow where
  enabled  : Bool
  base     : Nat
  slotSize : Nat
  count    : Nat
  deriving DecidableEq, Repr

/-- The window map (R2): W0 to W3 in order, and the status window. -/
structure WindowMap where
  intake        : List IntakeWindow
  statusEnabled : Bool
  statusBase    : Nat
  deriving DecidableEq, Repr

/-- A clear bit and a sealed bit: the kinds of an offer, an agreement or a lane policy (R56, R57). -/
structure Kinds where
  clear  : Bool
  sealed : Bool
  deriving DecidableEq, Repr

/-- The start-up outcome of an image group (R191; coded 0, 1, 2 in R52's table). -/
inductive GroupOutcome where
  | loaded | defaulted | checkFailed
  deriving DecidableEq, Repr

/-- What start-up takes from the stored image (R191, R192), fixed until the next reset. -/
structure Settings where
  map               : WindowMap
  storeNumber       : Nat
  priorities        : List Nat
  sweepPeriod       : Nat
  holdExpiry        : Nat
  confirmTimeout    : Nat
  silenceThreshold  : Nat
  coalesceCount     : Nat
  coalesceTime      : Nat
  storeCoalesceTime : Nat
  warnThreshold     : Nat
  policies          : List Kinds
  outcomes          : List GroupOutcome
  overlap           : List Bool
  deriving DecidableEq, Repr

/-! ### Path front (chapter 1) -/

/-- The part's own writes (R9's table). Windows, slots and channels by number. -/
inductive EntryKind where
  | writeBack (w slot : Nat)
  | voidRecord (w slot : Nat)
  | statusBlock (ch : Nat)
  | summary
  | directiveResult
  deriving DecidableEq, Repr

/-- Where a downstream burst comes from: the pass-through stream, or an entry of the internal write queue, of which it
is the last burst or not. -/
inductive Origin where
  | passThrough
  | internal (kind : EntryKind) (last : Bool)
  deriving DecidableEq, Repr

/-- What a downstream burst asks of the DRAM controller. -/
inductive BurstOp where
  | read (length : Nat)
  | write (beats : List Beat)
  deriving DecidableEq, Repr

/-- A downstream burst (R4, R7, R9). -/
structure Burst where
  origin : Origin
  addr   : Nat
  op     : BurstOp
  deriving DecidableEq, Repr

/-- An entry of the internal write queue, with the bursts not yet granted (R9). -/
structure Entry where
  kind   : EntryKind
  bursts : List Burst
  deriving DecidableEq, Repr

/-- A transaction the interconnect offers (R1). -/
inductive Offered where
  | write (addr : BitVec 40) (beats : List Beat)
  | read (addr : BitVec 40) (length : Nat)
  deriving DecidableEq, Repr

/-- An accepted transaction whose response has not been sent (R6): how many downstream bursts made from it are not
answered, whether a beat was refused or a burst answered ERROR, and the data that a read has returned. -/
structure UpTxn where
  isRead   : Bool
  awaiting : Nat
  failed   : Bool
  data     : List Byte
  deriving DecidableEq, Repr

/-- A response sent upstream (R6, R7). -/
structure UpResponse where
  isRead : Bool
  okay   : Bool
  data   : List Byte
  deriving DecidableEq, Repr

/-- An acknowledgement delivered to the producer of an internal entry (R11). -/
structure Ack where
  kind : EntryKind
  okay : Bool
  deriving DecidableEq, Repr

/-- A status beat shown to the directive unit (R8): its offset in the status window, and the beat. -/
structure ShownBeat where
  offset : Nat
  beat   : Beat
  deriving DecidableEq, Repr

/-- A return word shown to the reporting unit (R8): its channel, and the beat. -/
structure ShownReturn where
  ch   : Nat
  beat : Beat
  deriving DecidableEq, Repr

/-- The path front (chapter 1). Every list is oldest first. -/
structure PathFront where
  offered         : List Offered
  accepted        : List UpTxn
  responses       : List UpResponse
  stream          : List Burst
  queue           : List Entry
  waiting         : List Entry
  turnInternal    : Bool
  outstanding     : List Burst
  abandoned       : List Burst
  entryFailed     : Bool
  acks            : List Ack
  shownReturns    : List ShownReturn
  shownDirectives : List ShownBeat
  deriving DecidableEq, Repr

/-! ### Intake unit (chapter 2) -/

/-- The slot states (R15's table). -/
inductive SlotState where
  | free | filling | queued | working | writing | done | released
  deriving DecidableEq, Repr

/-- The three numbers and the slot table of a window (R15). The table is empty while the map does not enable it. -/
structure WindowSlots where
  slots    : List SlotState
  release  : BitVec 16
  consumed : BitVec 16
  gapAge   : Nat
  deriving DecidableEq, Repr

/-- The recorded header of a hold with its effective length (R23, R24). -/
structure Header where
  kind      : Byte
  version   : Byte
  lane      : Byte
  cls       : Nat
  declared  : Nat
  effective : Nat
  deriving DecidableEq, Repr

/-- An allocated hold (R17). A byte not yet written is `none`: the written mask is the pattern of `some`. -/
structure Hold where
  window      : Nat
  slot        : Nat
  ringIndex   : BitVec 16
  openedAt    : BitVec 32
  bytes       : List (Option Byte)
  header      : Option Header
  lengthFault : Bool
  expired     : Bool
  serial      : Option (BitVec 32)
  deriving DecidableEq, Repr

/-- The intake unit. -/
structure Intake where
  windows : List WindowSlots
  holds   : List Hold
  serial  : BitVec 32
  deriving DecidableEq, Repr

/-! ### Lane table (chapter 4) -/

/-- Enrolment states (R56; coded 0 to 4 in R52's table). -/
inductive LaneState where
  | absent | offered | confirming | enrolled | faulted
  deriving DecidableEq, Repr

/-- The condition of a lane event or an attention flag (R56, R162). -/
inductive Condition where
  | clear | pending | reported
  deriving DecidableEq, Repr

/-- A stored offer (R56). -/
structure Offer where
  kinds : Kinds
  keyId : Byte
  nonce : List Byte
  deriving DecidableEq, Repr

/-- An agreement (R56). -/
structure Agreement where
  kinds : Kinds
  keyId : Byte
  nonce : List Byte
  deriving DecidableEq, Repr

/-- A lane entry (R56). Bit i of `seen` is the mark of sequence number `high - i`. `silentDue` is the model's own: the
sweep has just raised the silence count to the threshold, and LANE_SILENT is due (log 17). -/
structure Lane where
  state       : LaneState
  suspended   : Bool
  offer       : Option Offer
  agreement   : Option Agreement
  deadline    : Option (BitVec 32)
  failures    : Nat
  high        : Nat
  seen        : BitVec 32
  lastCounter : Nat
  silence     : Nat
  latch       : Bool
  enrolment   : Condition
  fault       : Condition
  silent      : Condition
  silentDue   : Bool
  deriving DecidableEq, Repr

/-- The lane table. -/
structure LaneTable where
  entries      : List Lane
  answerSerial : BitVec 32
  deriving DecidableEq, Repr

/-! ### Key unit (chapter 7) -/

/-- States of a key slot (R129; coded 0 to 3 in R52's table). -/
inductive KeyState where
  | empty | loaded | active | spent
  deriving DecidableEq, Repr

/-- A key slot (R129). An EMPTY slot's id, key and check value are 0. -/
structure KeySlot where
  state : KeyState
  id    : Nat
  key   : List Byte
  check : List Byte
  deriving DecidableEq, Repr

/-- The part of the key store that the stored image holds (R129): the 52 slots, the marks M of ACQ_CURRENT and
ACQ_NEXT, and the highest acquirer key id ever active. -/
structure KeyStore where
  current     : KeySlot
  currentMark : Nat
  next        : KeySlot
  nextMark    : Nat
  surrogate   : KeySlot
  batch       : KeySlot
  lanes       : List KeySlot
  highestId   : Nat
  deriving DecidableEq, Repr

/-- The key unit's working state: the working key store, the next counter values C of the two acquirer slots, the
COUNTER_STORE flag, and whether a key request waits for a reservation write (R130, R131, R135). -/
structure KeyUnit where
  store        : KeyStore
  currentC     : Nat
  nextC        : Nat
  counterStore : Bool
  waiting      : Bool
  deriving DecidableEq, Repr

/-! ### Wrap engine (chapter 5) -/

/-- Dispositions (R45's table, codes 1 to 11). -/
inductive Disposition where
  | passed | wrapped | duplicate | stale | rejected | expired | skipped | noted | answered | refused | confirmed
  deriving DecidableEq, Repr

/-- Reasons (R45's table). -/
inductive Reason where
  | none | badKind | badVersion | badLength | badBody | badPan | badAmount
  | badLane | notEnrolled | laneSuspended | kindNotAgreed | badSeq
  | laneTag | laneReplay | noLaneKey | noKey | counterStore
  | noCommonKind | laneLocked | confirmMismatch | confirmUnexpected
  deriving DecidableEq, Repr

/-- Sequence verdicts (R73). -/
inductive Verdict where
  | accept | badSeq | duplicate | stale
  deriving DecidableEq, Repr

/-- The lane table's answer to an admission query (R72). -/
structure Admission where
  state       : LaneState
  suspended   : Bool
  kinds       : Kinds
  keyId       : Byte
  lastCounter : Nat
  verdict     : Verdict
  deriving DecidableEq, Repr

/-- What the key stage captures for a record (R84, R101). -/
structure Capture where
  keyId     : Nat
  counter   : Nat
  envKey    : List Byte
  tagKey    : List Byte
  surrogate : List Byte
  deriving DecidableEq, Repr

/-- The products of a record that is wrapped (R84), as far as they are formed: the batch number comes with the totals
commit (R104), the envelope tag after it (R105). -/
structure Products where
  surrogate : List Nat
  cipher    : List Byte
  batch     : Option Nat
  tag       : Option (List Byte)
  deriving DecidableEq, Repr

/-- What the engine does next with the record in work (R89 to R106): judge it up to the first request it makes, ask for
the lane working keys, unseal it, judge its body, ask for a counter value, wait for a reservation write, compute and
commit to the lane table, commit to the totals unit, conclude as WRAPPED, build an enrolment result, or write back. The
model's own field: the spec's stages of R89, cut where another event can come between (R107 to R109; log 22). -/
inductive Stage where
  | judge | laneKeys | unseal | body | keys | reservation | compute | totalsCommit | conclude | result | write
  deriving DecidableEq, Repr

/-- An entry of the engine queue: it names the slot whose hold it stands for (R27). -/
structure QueueEntry where
  window : Nat
  slot   : Nat
  deriving DecidableEq, Repr

/-- The record in work (R84's table). `agreement` is what the lane table has answered to an enrolment request (R58), and
`output` the whole slot's content once it is built. -/
structure Work where
  window    : Nat
  slot      : Nat
  stage     : Stage
  admission : Option Admission
  laneKeys  : Option (List Byte × List Byte)
  body      : Option (List Byte)
  capture   : Option Capture
  products  : Option Products
  agreement : Option Agreement
  outcome   : Option (Disposition × Reason)
  output    : Option (List Byte)
  deriving DecidableEq, Repr

/-- The wrap engine. -/
structure Engine where
  queue : List QueueEntry
  work  : Option Work
  deriving DecidableEq, Repr

/-! ### Totals unit (chapter 8) -/

/-- A total with its saturation flag (R148). -/
structure Total where
  value : Nat
  sat   : Bool
  deriving DecidableEq, Repr

/-- The four totals of a lane or of the store (R148). -/
structure TotalSet where
  count       : Total
  sum         : Total
  refundCount : Total
  refundSum   : Total
  deriving DecidableEq, Repr

/-- A transaction counter value under its key id, as the key serial range names it (R151). -/
structure KeySerial where
  keyId   : Nat
  counter : Nat
  deriving DecidableEq, Repr

/-- A batch (R148): the open batch, and the snapshot of a close. -/
structure Batch where
  lanes      : List TotalSet
  store      : TotalSet
  range      : Option (KeySerial × KeySerial)
  number     : Nat
  afterReset : Bool
  deriving DecidableEq, Repr

/-- The roll answer kept with a close (R154). -/
inductive RollAnswer where
  | notAsked
  | promoted (keyId : Nat)
  | noNextKey
  deriving DecidableEq, Repr

/-- The close in progress (R153 to R157). `numberOutcome` is the outcome of the batch number write once it has ended,
`summary` the built summary until it is issued. -/
structure Close where
  snapshot      : Batch
  roll          : RollAnswer
  numberOutcome : Option Bool
  summary       : Option (List Byte)
  deriving DecidableEq, Repr

/-- The totals unit. -/
structure Totals where
  batch        : Batch
  lastClosed   : Nat
  summaryReady : Bool
  lastSummary  : Nat
  close        : Option Close
  deriving DecidableEq, Repr

/-! ### Reporting unit (chapter 9) -/

/-- The nine counts of a window channel (R162). -/
structure Counts where
  wrapped        : Nat
  passed         : Nat
  duplicateStale : Nat
  rejected       : Nat
  expiredSkipped : Nat
  overrun        : Nat
  collision      : Nat
  exhausted      : Nat
  writeFaults    : Nat
  deriving DecidableEq, Repr

/-- Which count. -/
inductive CountId where
  | wrapped | passed | duplicateStale | rejected | expiredSkipped | overrun | collision | exhausted | writeFaults
  deriving DecidableEq, Repr

/-- A channel (R162's table). `present` says that the channel exists. -/
structure Channel where
  present        : Bool
  nextTag        : Nat
  reportedTag    : Nat
  armed          : Bool
  pending        : Bool
  dirty          : Bool
  owed           : Bool
  inFlight       : Bool
  releases       : Nat
  sweeps         : Nat
  counts         : Counts
  snapshot       : Counts
  returnIgnored  : Condition
  writeFault     : Condition
  deriving DecidableEq, Repr

/-! ### Directive unit (chapter 9) -/

/-- Results (R53's table, codes 1 to 6). -/
inductive DirectiveResult where
  | done | noNextKey | storeFault | badLane | unknownCode | incomplete
  deriving DecidableEq, Repr

/-- The directive in progress (R179): its result once known, and whether its result write has been issued. -/
structure Directive where
  result : Option DirectiveResult
  issued : Bool
  deriving DecidableEq, Repr

/-- The directive unit (R176). A capture is 32 bytes, absent ones `none`. -/
structure DirectiveUnit where
  captures   : List (List (Option Byte))
  producer   : BitVec 16
  done       : BitVec 16
  inProgress : Option Directive
  deriving DecidableEq, Repr

/-! ### Non-volatile store and provisioning port (chapters 7 and 10) -/

/-- The mark a reservation write carries, for which key id, whether a retry requested it (R130, R131, R135), and
whether no ERASE has been taken since it was requested (R145: after one its end raises no working mark; log 27). -/
structure Reservation where
  keyId : Nat
  mark  : Nat
  retry : Bool
  live  : Bool
  deriving DecidableEq, Repr

/-- A store write requested and not yet begun (R130). `forPort` marks the port's outstanding write of a LOAD_KEY. -/
inductive StoreRequest where
  | keyStore (reservation : Option Reservation) (forPort : Bool)
  | batchNumber (number : Nat)
  | imageGroup (group : Nat) (words : List (BitVec 16))
  | imageLock
  | erase
  deriving DecidableEq, Repr

/-- The store write in progress. A key store write has copied its content when it began (R130). -/
inductive StoreWrite where
  | keyStore (content : KeyStore) (reservation : Option Reservation) (forPort : Bool)
  | batchNumber (number : Nat)
  | imageGroup (group : Nat) (words : List (BitVec 16))
  | imageLock
  | erase
  deriving DecidableEq, Repr

/-- The non-volatile store (R129, R130, R152, R188). -/
structure NvStore where
  keys       : KeyStore
  control    : BitVec 16
  locked     : Bool
  groups     : List (List (BitVec 16))
  lastClosed : Nat
  requests   : List StoreRequest
  writing    : Option StoreWrite
  deriving DecidableEq, Repr

/-- The last write outcome of the port (R184). -/
inductive WriteOutcome where
  | none | completed | failed
  deriving DecidableEq, Repr

/-- The provisioning port (R183, R184). -/
structure Port where
  answer      : Option (List Byte)
  outstanding : Bool
  lastOutcome : WriteOutcome
  shiftedOut  : List Byte
  deriving DecidableEq, Repr

/-! ### The whole part -/

/-- The state of the part, block by block, with the memory it has written, the counter behind the free values, and the
queue of waiting commands. -/
structure State where
  phase      : Phase
  cause      : ResetCause
  settings   : Settings
  path       : PathFront
  intake     : Intake
  engine     : Engine
  lanes      : LaneTable
  keys       : KeyUnit
  totals     : Totals
  report     : List Channel
  directives : DirectiveUnit
  sweepCount : BitVec 32
  port       : Port
  nv         : NvStore
  dram       : List Host.Cell
  freeCount  : Nat
  pending    : List Instr
  deriving DecidableEq, Repr

/-! ### Reset values -/

/-- R2: from reset until the map is loaded, every window reads as disabled; so does one of a group 1 that is not LOADED
(R191). The spec gives such a window no base, slot size or slot count: base 0, size 256 and count 16 are a DESIGN CHOICE
(log 13). -/
def IntakeWindow.disabled : IntakeWindow := ⟨false, 0, 256, 16⟩

/-- R2, R13: every window disabled. The spec gives a disabled status window no base: base 0 is a DESIGN CHOICE (log 13). -/
def WindowMap.empty : WindowMap := ⟨List.replicate 4 IntakeWindow.disabled, false, 0⟩

/-- R191's defaults, under an empty map. They stand from reset until start-up has read the image (DESIGN CHOICE,
log 13: no rule reads them before). -/
def Settings.defaults : Settings where
  map := WindowMap.empty
  storeNumber := 0
  priorities := [0, 0, 1, 1, 2, 2, 3, 3]
  sweepPeriod := 40
  holdExpiry := 3
  confirmTimeout := 50
  silenceThreshold := 250
  coalesceCount := 8
  coalesceTime := 1
  storeCoalesceTime := 0
  warnThreshold := 1000000
  policies := List.replicate 48 ⟨true, false⟩
  outcomes := List.replicate 5 .defaulted
  overlap := List.replicate 4 false

/-- R13: the path front after reset, apart from what the interconnect and the DRAM controller still hold. -/
def PathFront.reset : PathFront where
  offered := []
  accepted := []
  responses := []
  stream := []
  queue := []
  waiting := []
  turnInternal := true
  outstanding := []
  abandoned := []
  entryFailed := false
  acks := []
  shownReturns := []
  shownDirectives := []

/-- R15: a window without a slot table. -/
def WindowSlots.none : WindowSlots := ⟨[], 0, 0, 0⟩

/-- R41. -/
def Intake.reset : Intake := ⟨List.replicate 4 WindowSlots.none, [], 0⟩

/-- R57. -/
def Lane.reset : Lane where
  state := .absent
  suspended := false
  offer := none
  agreement := none
  deadline := none
  failures := 0
  high := 0
  seen := 0
  lastCounter := 0
  silence := 0
  latch := false
  enrolment := .clear
  fault := .clear
  silent := .clear
  silentDue := false

/-- R57. -/
def LaneTable.reset : LaneTable := ⟨List.replicate 48 Lane.reset, 0⟩

/-- R129: an EMPTY slot. -/
def KeySlot.empty : KeySlot := ⟨.empty, 0, List.replicate 16 0, List.replicate 3 0⟩

/-- R129: the key store after an ERASE, or in a part that has never been loaded. -/
def KeyStore.empty : KeyStore :=
  ⟨KeySlot.empty, 0, KeySlot.empty, 0, KeySlot.empty, KeySlot.empty, List.replicate 48 KeySlot.empty, 0⟩

/-- R146: the working state is dropped; start-up rebuilds it, with COUNTER_STORE clear and no key request waiting. What
the dropped state holds until then R146 does not say: every slot EMPTY, marks, C and highest id 0 is a DESIGN CHOICE
(log 31). -/
def KeyUnit.reset : KeyUnit := ⟨KeyStore.empty, 0, 0, false, false⟩

/-- R84. -/
def Engine.reset : Engine := ⟨[], none⟩

/-- R148: four totals at 0, flags clear. -/
def TotalSet.zero : TotalSet := ⟨⟨0, false⟩, ⟨0, false⟩, ⟨0, false⟩, ⟨0, false⟩⟩

/-- R152: the batch number that follows: 1 follows 4,294,967,295. -/
def nextBatchNumber (n : Nat) : Nat := if n = 4294967295 then 1 else n + 1

/-- R148: an open batch with nothing in it. -/
def Batch.fresh (number : Nat) (afterReset : Bool) : Batch :=
  ⟨List.replicate 48 TotalSet.zero, TotalSet.zero, none, number, afterReset⟩

/-- R148, R152, R158: the totals unit after reset, from the stored last closed batch number. -/
def Totals.reset (stored : Nat) : Totals := ⟨Batch.fresh (nextBatchNumber stored) true, stored, false, 0, none⟩

/-- R162. -/
def Counts.zero : Counts := ⟨0, 0, 0, 0, 0, 0, 0, 0, 0⟩

/-- R162's table; a channel that exists or not. -/
def Channel.reset (present : Bool) : Channel where
  present := present
  nextTag := 1
  reportedTag := 0
  armed := true
  pending := false
  dirty := false
  owed := false
  inFlight := false
  releases := 0
  sweeps := 0
  counts := Counts.zero
  snapshot := Counts.zero
  returnIgnored := .clear
  writeFault := .clear

/-- R162: before start-up has ended no channel exists. -/
def reportReset : List Channel := List.replicate 5 (Channel.reset false)

/-- R176: a capture with no byte present. -/
def captureEmpty : List (Option Byte) := List.replicate 32 none

/-- R176. -/
def DirectiveUnit.reset : DirectiveUnit := ⟨List.replicate 16 captureEmpty, 0, 0, none⟩

/-- R183, R184. -/
def Port.reset : Port := ⟨none, false, .none, []⟩

/-- R188: the word counts of groups 0 to 4. -/
def groupWordCounts : List Nat := [6, 21, 9, 10, 49]

/-- R188: every group word 0. -/
def groupsZero : List (List (BitVec 16)) := groupWordCounts.map fun n => List.replicate n 0

/-- R129, R152, R188: the store of a part that has never been loaded. -/
def NvStore.neverLoaded : NvStore := ⟨KeyStore.empty, 0, false, groupsZero, 0, [], none⟩

/-- The state right after power-on of a part that has never been loaded (R194: cause POWER_ON, start-up in progress;
log 12). -/
def State.reset : State where
  phase := .starting
  cause := .powerOn
  settings := Settings.defaults
  path := PathFront.reset
  intake := Intake.reset
  engine := Engine.reset
  lanes := LaneTable.reset
  keys := KeyUnit.reset
  totals := Totals.reset 0
  report := reportReset
  directives := DirectiveUnit.reset
  sweepCount := 0
  port := Port.reset
  nv := NvStore.neverLoaded
  dram := []
  freeCount := 0
  pending := []

end Sys2Proof.Machine
end

