-- ==== Sys2Proof/Machine/Operands.lean ====
section
/-! DEFINITION. Reading operands: little-endian numbers, byte lists, beats and their addresses, list updates, and the
fields of held records and frames. -/

namespace Sys2Proof.Machine

/-! ### Bytes and lists -/

/-- The `count` low bytes of a number, least significant first (00, Conventions). -/
def leBytes : Nat → Nat → List Byte
  | 0, _ => []
  | count + 1, v => BitVec.ofNat 8 v :: leBytes count (v / 256)

/-- The little-endian number that bytes hold. -/
def leNat : List Byte → Nat
  | [] => 0
  | b :: bs => b.toNat + 256 * leNat bs

/-- `n` zero bytes. -/
def zeros (n : Nat) : List Byte := List.replicate n 0

/-- A byte holding a small number. -/
def byteOf (n : Nat) : Byte := BitVec.ofNat 8 n

/-- 1 for a set flag, 0 for a clear one. -/
def bit (b : Bool) : Nat := if b then 1 else 0

/-- `count` elements from position `start`. -/
def slice {α : Type} (l : List α) (start count : Nat) : List α := (l.drop start).take count

/-- Cut or filled up with zeros to exactly `n` bytes. -/
def padTo (n : Nat) (l : List Byte) : List Byte := (l ++ zeros n).take n

/-- Byte-by-byte XOR, as long as the shorter list. -/
def xorBytes (a b : List Byte) : List Byte := List.zipWith (· ^^^ ·) a b

/-- Apply a function at one position of a list; a position beyond its end changes nothing. -/
def updAt {α : Type} : List α → Nat → (α → α) → List α
  | [], _, _ => []
  | x :: xs, 0, f => f x :: xs
  | x :: xs, i + 1, f => x :: updAt xs i f

/-- Cut into pieces of `n`, at most `fuel` of them. -/
def chunksOf {α : Type} (n : Nat) : Nat → List α → List (List α)
  | 0, _ => []
  | fuel + 1, l => if l.isEmpty then [] else l.take n :: chunksOf n fuel (l.drop n)

/-- The first element that satisfies `p`, and the list without it. -/
def takeFirst {α : Type} (p : α → Bool) : List α → Option (α × List α)
  | [] => none
  | x :: xs => if p x then some (x, xs) else (takeFirst p xs).map fun r => (r.1, x :: r.2)

/-! ### Beats (chapter 1) -/

/-- The byte at position i of a beat. -/
def beatByte (b : Beat) (i : Nat) : Byte := b.data.extractLsb' (8 * i) 8

/-- The strobe of position i of a beat. -/
def beatStrobe (b : Beat) (i : Nat) : Bool := b.strobes.getLsbD i

/-- R3: all eight strobes clear. -/
def beatEmpty (b : Beat) : Bool := b.strobes == 0

/-- R51: all eight strobes set. -/
def beatFull (b : Beat) : Bool := b.strobes == 255

/-- The number held little-endian in `count` bytes of a beat from position `start`. -/
def beatNat (b : Beat) (start count : Nat) : Nat := leNat (slice ((List.range 8).map (beatByte b)) start count)

/-- A beat of eight bytes with every strobe set. -/
def fullBeat (bytes : List Byte) : Beat := ⟨BitVec.ofNat 64 (leNat bytes), 255⟩

/-- R3: the address of the beat at position i of a burst. -/
def beatAddr (start : BitVec 40) (i : Nat) : Nat := (start.toNat / 8 * 8 + 8 * i) % 2 ^ 40

/-- The bytes that a beat at an address writes: the strobed ones, with their addresses. -/
def beatCells (addr : Nat) (b : Beat) : List Host.Cell :=
  ((List.range 8).filter (beatStrobe b)).map fun i => (addr + i, beatByte b i)

/-- The bytes that consecutive beats from an address write. -/
def beatsCells : Nat → List Beat → List Host.Cell
  | _, [] => []
  | addr, b :: bs => beatCells addr b ++ beatsCells (addr + 8) bs

/-! ### Windows and classes (R2, R3) -/

/-- The bytes an enabled intake window covers (R2). -/
def windowSpan (w : IntakeWindow) : Nat := w.count * w.slotSize

/-- An address lies in an intake window that is enabled (R2). -/
def inWindow (w : IntakeWindow) (addr : Nat) : Bool :=
  w.enabled && decide (w.base ≤ addr) && decide (addr < w.base + windowSpan w)

/-- Which class a beat has (R3), with its place for an intake or a status beat. -/
inductive BeatClass where
  | intake (w slot offset : Nat)
  | status (offset : Nat)
  | plain
  deriving DecidableEq, Repr

/-- The first of the numbered windows that holds an address. -/
def windowOf (addr : Nat) : Nat → List IntakeWindow → Option (Nat × IntakeWindow)
  | _, [] => none
  | n, w :: ws => if inWindow w addr then some (n, w) else windowOf addr (n + 1) ws

/-- R3, R5, R8: the class of a beat by its address alone. -/
def classOf (map : WindowMap) (addr : Nat) : BeatClass :=
  match windowOf addr 0 map.intake with
  | some (n, w) => .intake n ((addr - w.base) / w.slotSize) ((addr - w.base) % w.slotSize)
  | none =>
    if map.statusEnabled && decide (map.statusBase ≤ addr) && decide (addr < map.statusBase + 4096) then
      .status (addr - map.statusBase)
    else .plain

/-- The window of a number (an unlisted number is a disabled window). -/
def windowAt (map : WindowMap) (w : Nat) : IntakeWindow := map.intake.getD w IntakeWindow.disabled

/-! ### Held records (chapters 2 and 3) -/

/-- The byte of a hold at a slot offset; rules read written bytes only (R17). -/
def heldByte (h : Hold) (i : Nat) : Byte := (h.bytes.getD i none).getD 0

/-- `count` bytes of a hold from a slot offset. -/
def heldBytes (h : Hold) (start count : Nat) : List Byte :=
  (List.range count).map fun i => heldByte h (start + i)

/-- A little-endian number in a hold. -/
def heldNat (h : Hold) (start count : Nat) : Nat := leNat (heldBytes h start count)

/-- Every byte of the first `n` of a hold is written. -/
def heldThrough (h : Hold) (n : Nat) : Bool := (h.bytes.take n).all Option.isSome && decide (n ≤ h.bytes.length)

/-- The lane sequence of a held record (bytes 8 to 11, R43). -/
def heldSequence (h : Hold) : Nat := heldNat h 8 4

/-- A kinds field (bits 0 and 1 of a byte, the others ignored: R44). -/
def kindsOf (b : Byte) : Kinds := ⟨b.getLsbD 0, b.getLsbD 1⟩

/-- A kinds field as written into an enrolment result (R49). -/
def kindsByte (k : Kinds) : Byte := byteOf (bit k.clear + 2 * bit k.sealed)

/-! ### Codes (R45, R52, R53) -/

/-- R45: disposition codes. -/
def dispositionCode : Disposition → Nat
  | .passed => 1 | .wrapped => 2 | .duplicate => 3 | .stale => 4 | .rejected => 5 | .expired => 6
  | .skipped => 7 | .noted => 8 | .answered => 9 | .refused => 10 | .confirmed => 11

/-- R45: reason codes. -/
def reasonCode : Reason → Nat
  | .none => 0 | .badKind => 1 | .badVersion => 2 | .badLength => 3 | .badBody => 4 | .badPan => 5 | .badAmount => 6
  | .badLane => 16 | .notEnrolled => 17 | .laneSuspended => 18 | .kindNotAgreed => 19 | .badSeq => 20
  | .laneTag => 32 | .laneReplay => 33 | .noLaneKey => 34 | .noKey => 48 | .counterStore => 49
  | .noCommonKind => 64 | .laneLocked => 65 | .confirmMismatch => 66 | .confirmUnexpected => 67

/-- R52: reset cause codes. -/
def causeCode : ResetCause → Nat
  | .powerOn => 1 | .resetLine => 2

/-- R52: image outcome codes. -/
def outcomeCode : GroupOutcome → Nat
  | .loaded => 0 | .defaulted => 1 | .checkFailed => 2

/-- R52: key slot state codes. -/
def keyStateCode : KeyState → Nat
  | .empty => 0 | .loaded => 1 | .active => 2 | .spent => 3

/-- R52: enrolment state codes. -/
def laneStateCode : LaneState → Nat
  | .absent => 0 | .offered => 1 | .confirming => 2 | .enrolled => 3 | .faulted => 4

/-- R53: directive result codes. -/
def resultCode : DirectiveResult → Nat
  | .done => 1 | .noNextKey => 2 | .storeFault => 3 | .badLane => 4 | .unknownCode => 5 | .incomplete => 6

/-- R186: write outcome codes. -/
def writeOutcomeCode : WriteOutcome → Nat
  | .none => 0 | .completed => 1 | .failed => 2

end Sys2Proof.Machine
end

