-- ==== Sys2Proof/Machine/Transform.lean ====
section
/-! DEFINITION. The block transform E(K, X) of R112, which is AES-128 encryption, and the chained tag of R114. The spec
names the standard and does not print it: the S-box, the round structure and the key schedule are PRESUMED from FIPS-197
(log 10). -/

namespace Sys2Proof.Machine

/-- The S-box of FIPS-197 as one number: byte x of it is the image of x. -/
def sBoxTable : Nat :=
  0x16bb54b00f2d99416842e6bf0d89a18cdf2855cee9871e9b948ed9691198f8e19e1dc186b95735610ef6034866b53e708a8bbd4b1f74dde8c6b4a61c2e2578ba08ae7a65eaf4566ca94ed58d6d37c8e779e4959162acd3c25c2406490a3a32e0db0b5ede14b8ee4688902a22dc4f816073195d643d7ea7c41744975fec130ccdd2f3ff1021dab6bcf5389d928f40a351a89f3c507f02f94585334d43fbaaefd0cf584c4a39becb6a5bb1fc20ed00d153842fe329b3d63b52a05a6e1b1a2c830975b227ebe28012079a059618c323c7041531d871f1e5a534ccf73f362693fdb7c072a49cafa2d4adf04759fa7dc982ca76abd7fe2b670130c56f6bf27b777c63

/-- One byte through the S-box. -/
def sBox (x : Byte) : Byte := BitVec.ofNat 8 (sBoxTable >>> (8 * x.toNat))

/-- Multiplication by x in the field of FIPS-197. -/
def xtime (b : Byte) : Byte := (b <<< 1) ^^^ (if b.msb then 0x1b else 0)

/-- Where each byte of a block comes from when the rows are shifted. -/
def shiftRowsFrom : List Nat := [0, 5, 10, 15, 4, 9, 14, 3, 8, 13, 2, 7, 12, 1, 6, 11]

/-- Bytes through the S-box, rows shifted. -/
def subShift (s : List Byte) : List Byte := shiftRowsFrom.map fun i => sBox (s.getD i 0)

/-- One column mixed. -/
def mixColumn (a b c d : Byte) : List Byte :=
  [xtime a ^^^ (xtime b ^^^ b) ^^^ c ^^^ d,
   a ^^^ xtime b ^^^ (xtime c ^^^ c) ^^^ d,
   a ^^^ b ^^^ xtime c ^^^ (xtime d ^^^ d),
   (xtime a ^^^ a) ^^^ b ^^^ c ^^^ xtime d]

/-- The columns mixed. -/
def mixColumns : List Byte → List Byte
  | a :: b :: c :: d :: rest => mixColumn a b c d ++ mixColumns rest
  | _ => []

/-- The round key that follows a round key. -/
def nextRoundKey (rcon : Byte) (k : List Byte) : List Byte :=
  let w := slice k 12 4
  let t := [sBox (w.getD 1 0) ^^^ rcon, sBox (w.getD 2 0), sBox (w.getD 3 0), sBox (w.getD 0 0)]
  let w0 := xorBytes (slice k 0 4) t
  let w1 := xorBytes (slice k 4 4) w0
  let w2 := xorBytes (slice k 8 4) w1
  let w3 := xorBytes w w2
  w0 ++ w1 ++ w2 ++ w3

/-- The rounds, one for each round constant; the last one does not mix. -/
def transformRounds : List Byte → List Byte → List Byte → List Byte
  | [], _, s => s
  | rcon :: rest, k, s =>
    let k' := nextRoundKey rcon k
    transformRounds rest k' (xorBytes (if rest.isEmpty then subShift s else mixColumns (subShift s)) k')

/-- The round constants. -/
def roundConstants : List Byte := [0x01, 0x02, 0x04, 0x08, 0x10, 0x20, 0x40, 0x80, 0x1b, 0x36]

/-- R112: E(K, X). -/
def transform (key block : List Byte) : List Byte := transformRounds roundConstants key (xorBytes block key)

/-- R113: the check value of a key. -/
def checkValue (key : List Byte) : List Byte := (transform key (zeros 16)).take 3

/-- R114: the last chaining value, from a chaining value over the blocks in turn. -/
def chainFrom (key : List Byte) : List Byte → List (List Byte) → List Byte
  | v, [] => v
  | v, b :: bs => chainFrom key (transform key (xorBytes v b)) bs

/-- R114: the chained tag of a sequence of blocks. -/
def chainedTag (key : List Byte) (blocks : List (List Byte)) : List Byte := (chainFrom key (zeros 16) blocks).take 8

end Sys2Proof.Machine
end

