-- ==== Sys2Proof/Machine/Computation.lean ====
section
/-! DEFINITION. The computations of chapter 6 over the blocks of section 3.7: working keys, envelope, unsealing, the
check-digit rule and the surrogate; and the judgement of a card body (R99, R100). -/

namespace Sys2Proof.Machine

/-! ### Working keys (R115, R116) -/

/-- R55: an acquirer derivation block. -/
def acquirerBlock (purpose keyId counter store : Nat) : List Byte :=
  padTo 16 ([byteOf purpose, byteOf keyId] ++ leBytes 3 counter ++ leBytes 4 store)

/-- R55: a lane derivation block: the low three bytes of the lane counter in bytes 2 to 4, its high byte in byte 9. -/
def laneBlock (purpose lane counter keyId : Nat) : List Byte :=
  padTo 16 ([byteOf purpose, byteOf lane] ++ leBytes 3 counter ++ [byteOf keyId] ++ zeros 3 ++
    [byteOf (counter / 16777216)])

/-- R115: the envelope key and the envelope tag key of a counter value. -/
def acquirerKeys (key : List Byte) (keyId counter store : Nat) : List Byte × List Byte :=
  (transform key (acquirerBlock 0x01 keyId counter store), transform key (acquirerBlock 0x02 keyId counter store))

/-- R116: the unsealing key and the lane tag key of a lane counter. -/
def laneWorkingKeys (key : List Byte) (lane counter keyId : Nat) : List Byte × List Byte :=
  (transform key (laneBlock 0x11 lane counter keyId), transform key (laneBlock 0x12 lane counter keyId))

/-! ### Bodies: 88 bytes that stand for bytes 32 to 119 of a clear card record (R44) -/

/-- The byte of a body at its position in the record. -/
def bodyByte (body : List Byte) (pos : Nat) : Byte := body.getD (pos - 32) 0

/-- A little-endian number of a body. -/
def bodyNat (body : List Byte) (pos count : Nat) : Nat := leNat (slice body (pos - 32) count)

/-- The card number length n. -/
def cardLength (body : List Byte) : Nat := (bodyByte body 32).toNat

/-- The n digits of the card number. -/
def cardDigits (body : List Byte) : List Nat := (slice body 1 (cardLength body)).map (·.toNat)

/-- The amount, 40 bits. -/
def bodyAmount (body : List Byte) : Nat := bodyNat body 64 5

/-- The currency. -/
def bodyCurrency (body : List Byte) : Nat := bodyNat body 60 2

/-- The refund bit (R44: the flags byte is taken as the refund bit alone). -/
def bodyRefund (body : List Byte) : Bool := (bodyByte body 59).getLsbD 0

/-- The remainder length r. -/
def remainderLength (body : List Byte) : Nat := (bodyByte body 72).toNat

/-! ### The check-digit rule (R122) -/

/-- What a digit adds: itself in an odd position, its double, less 9 when that is 10 or more, in an even one. -/
def digitTerm (odd : Bool) (d : Nat) : Nat := if odd then d else if 2 * d ≤ 9 then 2 * d else 2 * d - 9

/-- The check sum of digits listed from the right, the first in an odd position or not. -/
def digitSum : Bool → List Nat → Nat
  | _, [] => 0
  | odd, d :: ds => digitTerm odd d + digitSum (!odd) ds

/-- R122: the digits, listed from the left, pass the check-digit rule. -/
def passesCheck (digits : List Nat) : Bool := digitSum true digits.reverse % 10 == 0

/-! ### The body stage (R99, R100) -/

/-- Every byte of a field holds a digit. -/
def allDigits (l : List Byte) : Bool := l.all fun b => decide (b.toNat ≤ 9)

/-- R100: the expiry month, ten times byte 54 plus byte 55. -/
def expiryMonth (body : List Byte) : Nat := 10 * (bodyByte body 54).toNat + (bodyByte body 55).toNat

/-- R99, R100: the first reason a body is refused for, in the order of the rules. -/
def judgeBody (body : List Byte) : Option Reason :=
  let n := cardLength body
  if n < 12 ∨ 19 < n then some .badPan
  else if !allDigits (slice body 1 n) then some .badPan
  else if !passesCheck (cardDigits body) then some .badPan
  else if !allDigits (slice body 20 4) then some .badBody
  else if expiryMonth body < 1 ∨ 12 < expiryMonth body then some .badBody
  else if !allDigits (slice body 24 3) then some .badBody
  else if 999 < bodyCurrency body then some .badBody
  else if 47 < remainderLength body then some .badBody
  else if 9999999999 < bodyAmount body then some .badAmount
  else none

/-! ### The envelope (R117 to R119) -/

/-- R117: the 80-byte envelope plaintext; unused digit and remainder positions are 0. -/
def envelopePlaintext (body : List Byte) : List Byte :=
  [bodyByte body 32] ++ padTo 19 (slice body 1 (cardLength body)) ++ slice body 20 4 ++ slice body 24 3 ++
    [bodyByte body 72] ++ padTo 47 (slice body 41 (remainderLength body)) ++ zeros 5

/-- R55: envelope keystream block j. -/
def envelopeStreamBlock (lane sequence keyId counter j : Nat) : List Byte :=
  padTo 16 ([byteOf lane] ++ leBytes 4 sequence ++ [byteOf keyId] ++ leBytes 3 counter ++ [byteOf j])

/-- R118: the five ciphertext blocks, as 80 bytes. -/
def envelopeCipher (envKey body : List Byte) (lane sequence keyId counter : Nat) : List Byte :=
  xorBytes (envelopePlaintext body)
    ((List.range 5).flatMap fun j => transform envKey (envelopeStreamBlock lane sequence keyId counter j))

/-- R55: envelope tag block B1. -/
def envelopeTagB1 (lane sequence keyId counter batch currency : Nat) : List Byte :=
  padTo 16 ([byteOf lane] ++ leBytes 4 sequence ++ [byteOf keyId] ++ leBytes 3 counter ++ leBytes 4 batch ++
    leBytes 2 currency)

/-- R55: envelope tag block B2. -/
def envelopeTagB2 (amount : Nat) (refund : Bool) : List Byte := padTo 16 (leBytes 5 amount ++ [byteOf (bit refund)])

/-- R119: the envelope tag over B1, B2 and the ciphertext. -/
def envelopeTag (tagKey body cipher : List Byte) (lane sequence keyId counter batch : Nat) : List Byte :=
  chainedTag tagKey
    (envelopeTagB1 lane sequence keyId counter batch (bodyCurrency body) ::
     envelopeTagB2 (bodyAmount body) (bodyRefund body) :: chunksOf 16 5 cipher)

/-! ### Unsealing (R120, R121) -/

/-- R55: lane keystream block j. -/
def laneStreamBlock (lane sequence counter j : Nat) : List Byte :=
  padTo 16 ([byteOf lane] ++ leBytes 4 sequence ++ leBytes 4 counter ++ [byteOf j])

/-- R120: the 88 recovered bytes. -/
def unsealBody (unsealKey sealedBytes : List Byte) (lane sequence counter : Nat) : List Byte :=
  (xorBytes sealedBytes
    ((List.range 6).flatMap fun j => transform unsealKey (laneStreamBlock lane sequence counter j))).take 88

/-- R55: lane tag block B1. -/
def laneTagB1 (kind lane cls sequence time counter : Nat) : List Byte :=
  padTo 16 ([byteOf kind, byteOf lane, byteOf cls] ++ leBytes 4 sequence ++ leBytes 4 time ++ leBytes 4 counter)

/-- R121: the lane tag over B1 and the 88 sealed bytes filled up with 8 bytes of 0. -/
def laneTag (tagKey sealedBytes : List Byte) (kind lane cls sequence time counter : Nat) : List Byte :=
  chainedTag tagKey (laneTagB1 kind lane cls sequence time counter :: chunksOf 16 6 (padTo 96 sealedBytes))

/-! ### The surrogate (R123 to R126) -/

/-- R55: the surrogate block of a card number. -/
def surrogateBlock (digits : List Nat) : List Byte :=
  padTo 16 (byteOf digits.length :: (digits.take 6 ++ digits.drop (digits.length - 4)).map byteOf)

/-- R124: the shifts that a source yields: its bytes below 250, modulo 10. -/
def sourceShifts (source : List Byte) : List Nat :=
  (source.filter fun b => decide (b.toNat < 250)).map fun b => b.toNat % 10

/-- How many sources a surrogate may be drawn from. The transform under one key permutes the 2^128 blocks, so within
any 2^128 sources in a row every block of the chain comes by: 9 shifts that 2^132 sources do not yield never come
(log 11). -/
def sourceLimit : Nat := 2 ^ 132

/-- R124: draw `m` shifts from a source and then from the transform of it, at most `fuel` sources. -/
def drawShifts (key : List Byte) : Nat → List Byte → Nat → List Nat
  | 0, source, m => (List.range m).map (Config.lateShift source)
  | fuel + 1, source, m =>
    let found := sourceShifts source
    if m ≤ found.length then found.take m
    else found ++ drawShifts key fuel (transform key source) (m - found.length)

/-- R125: the middle digits shifted modulo 10, the first six and last four kept. -/
def shiftDigits (digits shifts : List Nat) : List Nat :=
  digits.take 6 ++ List.zipWith (fun p k => (p + k) % 10) (slice digits 6 (digits.length - 10)) shifts ++
    digits.drop (digits.length - 4)

/-- R126: digits that pass the check-digit rule have the digit at position n - 4 raised by one modulo 10. -/
def adjustDigits (digits : List Nat) : List Nat :=
  if passesCheck digits then updAt digits (digits.length - 5) (fun d => (d + 1) % 10) else digits

/-- R123 to R126: the surrogate of a card number under the SURROGATE key. -/
def surrogateDigits (key : List Byte) (digits : List Nat) : List Nat :=
  adjustDigits
    (shiftDigits digits (drawShifts key sourceLimit (transform key (surrogateBlock digits)) (digits.length - 10)))

/-! ### The answer nonce (R62) -/

/-- R55, R62: the first 8 bytes of the transform of the answer nonce block. -/
def answerNonce (key : List Byte) (lane : Nat) (nonce : List Byte) (serial : BitVec 32) : List Byte :=
  (transform key (padTo 16 (byteOf lane :: padTo 8 nonce ++ leBytes 4 serial.toNat))).take 8

end Sys2Proof.Machine
end

