-- ==== Sys2Proof/Machine/Flags.lean ====
section
/-! DEFINITION. Flags, counts and totals: conditions of events and attention flags, the counts and issue test of a
channel, the key flags and key attention, and saturating totals. -/

namespace Sys2Proof.Machine

/-! ### Conditions (R80 to R82, R164, R167, R173) -/

/-- A taken block content turns PENDING to REPORTED (R81, R167). -/
def reportCondition : Condition → Condition
  | .pending => .reported
  | c => c

/-- A matching return word turns REPORTED to CLEAR and keeps PENDING (R82, R173). -/
def acknowledgeCondition : Condition → Condition
  | .reported => .clear
  | c => c

/-- Shown as 1 in a block: PENDING or REPORTED (R81, R167). -/
def conditionShown (c : Condition) : Bool := c != .clear

/-! ### Counts (R164, R167, R173) -/

/-- R164: the greatest value of a count. -/
def countMax : Nat := 65535

/-- R164: raise one count by `n`, stopping at 65,535. -/
def bumpCount (id : CountId) (n : Nat) (c : Counts) : Counts :=
  match id with
  | .wrapped => { c with wrapped := min countMax (c.wrapped + n) }
  | .passed => { c with passed := min countMax (c.passed + n) }
  | .duplicateStale => { c with duplicateStale := min countMax (c.duplicateStale + n) }
  | .rejected => { c with rejected := min countMax (c.rejected + n) }
  | .expiredSkipped => { c with expiredSkipped := min countMax (c.expiredSkipped + n) }
  | .overrun => { c with overrun := min countMax (c.overrun + n) }
  | .collision => { c with collision := min countMax (c.collision + n) }
  | .exhausted => { c with exhausted := min countMax (c.exhausted + n) }
  | .writeFaults => { c with writeFaults := min countMax (c.writeFaults + n) }

/-- R173: each count reduced by its snapshot value. -/
def reduceCounts (c snapshot : Counts) : Counts where
  wrapped := c.wrapped - snapshot.wrapped
  passed := c.passed - snapshot.passed
  duplicateStale := c.duplicateStale - snapshot.duplicateStale
  rejected := c.rejected - snapshot.rejected
  expiredSkipped := c.expiredSkipped - snapshot.expiredSkipped
  overrun := c.overrun - snapshot.overrun
  collision := c.collision - snapshot.collision
  exhausted := c.exhausted - snapshot.exhausted
  writeFaults := c.writeFaults - snapshot.writeFaults

/-- The nine counts in the order of the window status block (R52). -/
def countsList (c : Counts) : List Nat :=
  [c.wrapped, c.passed, c.duplicateStale, c.rejected, c.expiredSkipped, c.overrun, c.collision, c.exhausted,
   c.writeFaults]

/-! ### A channel (R162 to R173). A channel that does not exist keeps nothing (R162). -/

/-- R165: a clean channel becomes dirty with its sweeps since dirty at 0. -/
def markDirty (c : Channel) : Channel := if c.dirty then c else { c with dirty := true, sweeps := 0 }

/-- R164: a count addition, which makes the channel dirty. -/
def countOn (id : CountId) (n : Nat) (c : Channel) : Channel :=
  if c.present then markDirty { c with counts := bumpCount id n c.counts } else c

/-- R38, R165: a release. -/
def releaseOn (c : Channel) : Channel :=
  if c.present then markDirty { c with releases := min 64 (c.releases + 1) } else c

/-- R166: the channel comes to owe a write. -/
def oweOn (c : Channel) : Channel := if c.present then { c with owed := true } else c

/-- R165: a cause that only makes the channel dirty. -/
def dirtyOn (c : Channel) : Channel := if c.present then markDirty c else c

/-- R164: RETURN_IGNORED raised; from CLEAR it makes the channel dirty. -/
def raiseReturnIgnored (c : Channel) : Channel :=
  if c.present then
    { (if c.returnIgnored = .clear then markDirty c else c) with returnIgnored := .pending }
  else c

/-- R164: WRITE_FAULT raised; from CLEAR it makes a window channel dirty, and STORE owe a write. -/
def raiseWriteFault (isStore : Bool) (c : Channel) : Channel :=
  if c.present then
    { (if c.writeFault = .clear then (if isStore then { c with owed := true } else markDirty c) else c)
      with writeFault := .pending }
  else c

/-- The coalesce time of a channel (R162): its own for STORE. -/
def coalesceTimeOf (cfg : Settings) (ch : Nat) : Nat := if ch = 4 then cfg.storeCoalesceTime else cfg.coalesceTime

/-- R166, third case: dirty for as many sweeps as the coalesce time. -/
def coalesceReached (cfg : Settings) (ch : Nat) (c : Channel) : Bool :=
  c.dirty && decide (coalesceTimeOf cfg ch ≤ c.sweeps)

/-- R166: the issue test. -/
def issueDue (cfg : Settings) (ch : Nat) (c : Channel) : Bool :=
  c.present && !c.inFlight &&
    (c.owed || (decide (ch ≠ 4) && decide (cfg.coalesceCount ≤ c.releases)) || coalesceReached cfg ch c)

/-- R167, R168: what the taking of a block's content does to the channel. -/
def contentTaken (c : Channel) : Channel :=
  { c with
    snapshot := c.counts
    reportedTag := c.nextTag
    returnIgnored := reportCondition c.returnIgnored
    writeFault := reportCondition c.writeFault
    dirty := false
    owed := false
    releases := 0
    sweeps := 0
    inFlight := true }

/-- R163: the tag that follows. -/
def tagAfter (t : Nat) : Nat := t % 255 + 1

/-- R169: the acknowledgement of the channel's status write: in flight is cleared, an armed channel becomes pending, the
next tag advances, and ERROR raises WRITE_FAULT. -/
def statusAcknowledged (isStore okay : Bool) (c : Channel) : Channel :=
  let c' := { c with
    inFlight := false
    pending := c.armed || c.pending
    armed := false
    nextTag := tagAfter c.nextTag }
  if okay then c' else raiseWriteFault isStore c'

/-- R173: the return word names the content that was last taken. -/
def tagMatches (tag : Nat) (c : Channel) : Bool := tag == c.reportedTag && c.reportedTag != 0

/-- R172 to R174: pending is cleared and armed set; a matching tag reduces the counts and clears REPORTED flags; a
stale tag makes a dirty channel owe a write. -/
def returnTaken (tag : Nat) (c : Channel) : Channel :=
  let c' := { c with pending := false, armed := true }
  if tagMatches tag c then
    { c' with
      counts := reduceCounts c.counts c.snapshot
      snapshot := Counts.zero
      returnIgnored := acknowledgeCondition c.returnIgnored
      writeFault := acknowledgeCondition c.writeFault }
  else if c.dirty then { c' with owed := true } else c'

/-- R165: one sweep on a channel: the sweeps since dirty of a dirty channel rise, stopping at 255. -/
def sweepOn (c : Channel) : Channel := if c.present && c.dirty then { c with sweeps := min 255 (c.sweeps + 1) } else c

/-- R170: the interrupt line is asserted exactly when a channel is pending. -/
def interruptLine (report : List Channel) : Bool := report.any (·.pending)

/-! ### Key flags and key attention (R138, R143, R144) -/

/-- R143: NO_KEY is set while SURROGATE is EMPTY or ACQ_CURRENT is not ACTIVE. -/
def noKeyFlag (k : KeyStore) : Bool := k.surrogate.state == .empty || k.current.state != .active

/-- R138: COUNTER_WARNING is set while ACQ_CURRENT is ACTIVE or SPENT with C at or above the threshold. -/
def warningFlag (cfg : Settings) (k : KeyUnit) : Bool :=
  (k.store.current.state == .active || k.store.current.state == .spent) && decide (cfg.warnThreshold ≤ k.currentC)

/-- R52: the key flags byte. -/
def keyFlags (cfg : Settings) (k : KeyUnit) : Nat :=
  bit (warningFlag cfg k) + 2 * bit (noKeyFlag k.store) + 4 * bit k.counterStore

/-- R144: what a change of the working state must do to be key attention. -/
def keyAttention (cfg : Settings) (before after : KeyUnit) : Bool :=
  before.store.current.state != after.store.current.state || before.store.current.id != after.store.current.id ||
  before.store.next.state != after.store.next.state || before.store.next.id != after.store.next.id ||
  (!warningFlag cfg before && warningFlag cfg after) ||
  noKeyFlag before.store != noKeyFlag after.store ||
  before.counterStore != after.counterStore

/-! ### Totals (R149, R150) -/

/-- R150: saturating addition; the flag is set when the maximum was exceeded, and stays. -/
def addTotal (maximum addend : Nat) (t : Total) : Total :=
  ⟨min maximum (t.value + addend), t.sat || decide (maximum < t.value + addend)⟩

/-- R149: one record of an amount added to the count and sum, or to the refund count and refund sum. -/
def addRecord (countMaximum sumMaximum amount : Nat) (refund : Bool) (t : TotalSet) : TotalSet :=
  if refund then
    { t with refundCount := addTotal countMaximum 1 t.refundCount, refundSum := addTotal sumMaximum amount t.refundSum }
  else { t with count := addTotal countMaximum 1 t.count, sum := addTotal sumMaximum amount t.sum }

/-- R148: the widths of a lane's fields. -/
def laneCountMax : Nat := 65535
/-- R148. -/
def laneSumMax : Nat := 1099511627775
/-- R148: the widths of the store's fields. -/
def storeCountMax : Nat := 16777215
/-- R148. -/
def storeSumMax : Nat := 281474976710655

/-- R151: the key serial range after a commit. -/
def extendRange (range : Option (KeySerial × KeySerial)) (k : KeySerial) : Option (KeySerial × KeySerial) :=
  match range with
  | none => some (k, k)
  | some (first, _) => some (first, k)

/-- R149: a totals commit into the open batch. -/
def commitRecord (lane amount : Nat) (refund : Bool) (k : KeySerial) (b : Batch) : Batch :=
  { b with
    lanes := updAt b.lanes lane (addRecord laneCountMax laneSumMax amount refund)
    store := addRecord storeCountMax storeSumMax amount refund b.store
    range := extendRange b.range k }

end Sys2Proof.Machine
end

