-- ==== Sys2Proof/Machine/Formats.lean ====
section
/-! DEFINITION. The layouts of chapter 3 that the part writes: output records (R46 to R50), status blocks (R52), the
batch summary (R54), and the QUERY answer of chapter 10 (R186). -/

namespace Sys2Proof.Machine

/-! ### Output records -/

/-- The part-written fields of an output header that only WRAPPED fills (R46). -/
structure WrapFields where
  keyId   : Nat
  counter : Nat
  batch   : Nat

/-- R46: the three fields of every output but WRAPPED. -/
def noWrapFields : WrapFields := ⟨0, 0, 0⟩

/-- R46: the 32-byte output header. `known` is the hold when its header is known. -/
def outputHeader (known : Option Hold) (length : Nat) (d : Disposition) (r : Reason) (f : WrapFields)
    (ring : BitVec 16) (w : Nat) : List Byte :=
  let front := match known with
    | some h => heldBytes h 0 4
    | none => [0, 0, 255, 0]
  let middle := match known with
    | some h => heldBytes h 8 8
    | none => zeros 8
  front ++ leBytes 2 length ++ [byteOf (dispositionCode d), byteOf (reasonCode r)] ++ middle ++ [byteOf f.keyId] ++
    leBytes 3 f.counter ++ leBytes 4 f.batch ++ leBytes 2 ring.toNat ++ [byteOf w] ++ zeros 5

/-- The hold, when its header is known. -/
def knownHold (h : Hold) : Option Hold := if h.header.isSome then some h else none

/-- R47: a header-only output of a hold. -/
def headerOnlyOutput (size : Nat) (h : Hold) (d : Disposition) (r : Reason) : List Byte :=
  padTo size (outputHeader (knownHold h) 32 d r noWrapFields h.ringIndex h.window)

/-- R47: a PASSED output: bytes 32 to L - 1 as held. -/
def passedOutput (size : Nat) (h : Hold) (length : Nat) : List Byte :=
  padTo size (outputHeader (knownHold h) length .passed .none noWrapFields h.ringIndex h.window ++
    heldBytes h 32 (length - 32))

/-- R48: a WRAPPED output: the counter value and batch number it was wrapped under, its surrogate digits, ciphertext and
envelope tag. -/
def wrappedOutput (size : Nat) (h : Hold) (body : List Byte) (f : WrapFields) (surrogate : List Nat)
    (cipher tag : List Byte) : List Byte :=
  padTo size
    (outputHeader (knownHold h) 168 .wrapped .none f h.ringIndex h.window ++
      [bodyByte body 32] ++ padTo 19 (surrogate.map byteOf) ++ zeros 7 ++ [byteOf (bit (bodyRefund body))] ++
      leBytes 2 (bodyCurrency body) ++ zeros 2 ++ leBytes 5 (bodyAmount body) ++ zeros 3 ++ [80] ++ zeros 7 ++
      cipher ++ tag)

/-- R49: an enrolment result. `answer` is the agreement of ANSWERED and CONFIRMED; the model word is carried from an
offer only. -/
def enrolmentOutput (size : Nat) (h : Hold) (isOffer : Bool) (d : Disposition) (r : Reason)
    (answer : Option Agreement) (acquirerId store : Nat) : List Byte :=
  let agreed := match answer with
    | some a => [kindsByte a.kinds, a.keyId]
    | none => [0, 0]
  let nonce := match answer with
    | some a => padTo 8 a.nonce
    | none => zeros 8
  padTo size (outputHeader (knownHold h) 64 d r noWrapFields h.ringIndex h.window ++ agreed ++
    [byteOf acquirerId, 0] ++ heldBytes h 36 8 ++ nonce ++ leBytes 4 store ++
    (if isOffer then heldBytes h 44 4 else zeros 4) ++ zeros 4)

/-- R31, R50: a void record. -/
def voidOutput (size : Nat) (ring : BitVec 16) (w : Nat) : List Byte :=
  padTo size (outputHeader none 32 .skipped .none noWrapFields ring w)

/-! ### Status blocks (R52) -/

/-- R52, R167: the block of a window channel. -/
def windowBlock (c : Channel) (ch : Nat) (cause : ResetCause) (w : WindowSlots) : List Byte :=
  padTo 128 ([1, byteOf c.nextTag, byteOf ch, byteOf (causeCode cause)] ++ leBytes 2 w.release.toNat ++
    leBytes 2 w.consumed.toNat ++ (countsList c.counts).flatMap (leBytes 2) ++
    leBytes 2 (bit (conditionShown c.returnIgnored) + 2 * bit (conditionShown c.writeFault)))

/-- R68: a lane is locked when it is FAULTED with 4 consecutive failures. -/
def laneLocked (l : Lane) : Bool := l.state == .faulted && l.failures == 4

/-- The kinds of a lane's agreement, none when it has no agreement (R52, R81). -/
def agreedKinds (l : Lane) : Kinds :=
  match l.agreement with
  | some a => a.kinds
  | none => ⟨false, false⟩

/-- R52: the lane state byte. -/
def laneStateByte (l : Lane) : Byte :=
  byteOf (laneStateCode l.state + 8 * bit l.suspended + 16 * bit l.latch + 32 * bit (laneLocked l) +
    64 * bit (agreedKinds l).clear + 128 * bit (agreedKinds l).sealed)

/-- R81: the lane's bit of the lane event set. -/
def laneEventShown (l : Lane) : Bool :=
  conditionShown l.enrolment || conditionShown l.fault || conditionShown l.silent

/-- The number whose bit i is the i-th flag. -/
def flagsNat : List Bool → Nat
  | [] => 0
  | b :: bs => bit b + 2 * flagsNat bs

/-- R144: an id and a state as a status block shows them: id 0 for an EMPTY slot. -/
def slotShown (k : KeySlot) : List Byte :=
  [byteOf (if k.state = .empty then 0 else k.id), byteOf (keyStateCode k.state)]

/-- R144: C of ACQ_CURRENT, 0 when EMPTY. -/
def currentCShown (k : KeyUnit) : Nat := if k.store.current.state = .empty then 0 else k.currentC

/-- R52, R168: the STORE block. -/
def storeBlock (c : Channel) (cause : ResetCause) (sweepCount : BitVec 32) (cfg : Settings) (k : KeyUnit)
    (done : BitVec 16) (t : Totals) (lanes : LaneTable) : List Byte :=
  padTo 128 ([1, byteOf c.nextTag, 4, byteOf (causeCode cause)] ++ leBytes 4 sweepCount.toNat ++
    cfg.outcomes.map (fun o => byteOf (outcomeCode o)) ++ [byteOf (flagsNat cfg.overlap)] ++
    leBytes 2 (bit (conditionShown c.writeFault)) ++ slotShown k.store.current ++ slotShown k.store.next ++
    leBytes 4 (currentCShown k) ++ [byteOf (keyFlags cfg k), 0] ++ leBytes 2 done.toNat ++
    leBytes 4 t.lastSummary ++ [byteOf (bit t.summaryReady)] ++ zeros 7 ++
    leBytes 6 (flagsNat (lanes.entries.map laneEventShown)) ++ zeros 2 ++ lanes.entries.map laneStateByte)

/-! ### The batch summary (R54, R156) -/

/-- R54: one lane entry. -/
def laneEntry (t : TotalSet) : List Byte :=
  leBytes 2 t.count.value ++ leBytes 5 t.sum.value ++ leBytes 2 t.refundCount.value ++ leBytes 5 t.refundSum.value ++
    [byteOf (bit t.count.sat + 2 * bit t.sum.sat + 4 * bit t.refundCount.sat + 8 * bit t.refundSum.sat), 0]

/-- R54: the key serial range, zeros when it is empty. -/
def rangeBytes : Option (KeySerial × KeySerial) → List Byte
  | none => zeros 8
  | some (a, b) => [byteOf a.keyId] ++ leBytes 3 a.counter ++ [byteOf b.keyId] ++ leBytes 3 b.counter

/-- R54: the flags byte of a summary. -/
def summaryFlags (b : Batch) (untagged : Bool) : Nat :=
  bit b.afterReset + 2 * bit untagged + 4 * bit b.store.sum.sat + 8 * bit b.store.count.sat +
    16 * bit b.store.refundSum.sat + 32 * bit b.store.refundCount.sat

/-- R54: bytes 0 to 831 of a summary. -/
def summaryBody (b : Batch) (store : Nat) (untagged : Bool) : List Byte :=
  padTo 64 (leBytes 4 b.number ++ leBytes 4 store ++ [byteOf (summaryFlags b untagged)] ++ rangeBytes b.range ++
    leBytes 3 b.store.count.value ++ leBytes 6 b.store.sum.value ++ leBytes 3 b.store.refundCount.value ++
    leBytes 6 b.store.refundSum.value) ++
  b.lanes.flatMap laneEntry

/-- R156: the summary, tagged under BATCH or untagged when that slot is EMPTY. -/
def buildSummary (b : Batch) (store : Nat) (batchKey : KeySlot) : List Byte :=
  let untagged := batchKey.state == .empty
  let body := summaryBody b store untagged
  let tag := if untagged then zeros 8 else chainedTag batchKey.key (chunksOf 16 52 body)
  padTo 848 (body ++ tag)

/-! ### The QUERY answer (R186) -/

/-- R186: one key slot, 5 bytes. -/
def slotAnswer (k : KeySlot) : List Byte :=
  if k.state = .empty then zeros 5 else [byteOf (keyStateCode k.state), byteOf k.id] ++ padTo 3 k.check

/-- R129: the 52 slots by number. -/
def allSlots (k : KeyStore) : List KeySlot := [k.current, k.next, k.surrogate, k.batch] ++ k.lanes

/-- R183, R186: status OK and the 294 data bytes. -/
def queryAnswer (cfg : Settings) (k : KeyUnit) (p : Port) (nv : NvStore) : List Byte :=
  [1] ++ leBytes 4 0x00300A31 ++ [byteOf (bit nv.locked), byteOf nv.control.toNat,
    byteOf (writeOutcomeCode p.lastOutcome)] ++ cfg.outcomes.map (fun o => byteOf (outcomeCode o)) ++
    [byteOf (flagsNat cfg.overlap), byteOf k.store.highestId] ++ leBytes 4 nv.lastClosed ++
    leBytes 4 k.currentC ++ leBytes 4 k.store.currentMark ++ leBytes 4 k.nextC ++ leBytes 4 k.store.nextMark ++
    (allSlots k.store).flatMap slotAnswer

end Sys2Proof.Machine
end

