-- ==== Sys2Proof/Machine/Ops.lean ====
section
/-! DEFINITION. The named operations over the state that every block uses: one update for each block's field, channels,
slots, holds, lanes, the internal write queue, store write requests, key changes, and the memory that writes reach. -/

namespace Sys2Proof.Machine

/-! ### One update for each field -/

/-- Update the path front. -/
def onPath (f : PathFront → PathFront) (s : State) : State := { s with path := f s.path }
/-- Update the intake unit. -/
def onIntake (f : Intake → Intake) (s : State) : State := { s with intake := f s.intake }
/-- Update the wrap engine. -/
def onEngine (f : Engine → Engine) (s : State) : State := { s with engine := f s.engine }
/-- Update the lane table. -/
def onLanes (f : LaneTable → LaneTable) (s : State) : State := { s with lanes := f s.lanes }
/-- Update the key unit. -/
def onKeys (f : KeyUnit → KeyUnit) (s : State) : State := { s with keys := f s.keys }
/-- Update the totals unit. -/
def onTotals (f : Totals → Totals) (s : State) : State := { s with totals := f s.totals }
/-- Update the channels. -/
def onReport (f : List Channel → List Channel) (s : State) : State := { s with report := f s.report }
/-- Update the directive unit. -/
def onDirectives (f : DirectiveUnit → DirectiveUnit) (s : State) : State := { s with directives := f s.directives }
/-- Update the provisioning port. -/
def onPort (f : Port → Port) (s : State) : State := { s with port := f s.port }
/-- Update the non-volatile store. -/
def onNv (f : NvStore → NvStore) (s : State) : State := { s with nv := f s.nv }
/-- Update the memory. -/
def onDram (f : List Host.Cell → List Host.Cell) (s : State) : State := { s with dram := f s.dram }

/-- Apply a step for each number below `n`, from 0 on. -/
def forBelow (n : Nat) (f : Nat → State → State) (s : State) : State := (List.range n).foldl (fun s i => f i s) s

/-- R193: a step of a part whose start-up has ended; before that nothing is due. -/
def whenRunning (f : State → State) (s : State) : State := if s.phase = .running then f s else s

/-! ### Channels -/

/-- Update one channel. -/
def onChannel (ch : Nat) (f : Channel → Channel) : State → State := onReport fun r => updAt r ch f

/-- A channel by number. -/
def channelAt (s : State) (ch : Nat) : Channel := s.report.getD ch (Channel.reset false)

/-- R164: add to a count of a window's channel. -/
def addCount (w : Nat) (id : CountId) (n : Nat) : State → State := onChannel w (countOn id n)

/-- R80, R144, R166: STORE comes to owe a write. -/
def oweStore : State → State := onChannel 4 oweOn

/-! ### Slots and holds -/

/-- Update one window's slot table and numbers. -/
def onWindow (w : Nat) (f : WindowSlots → WindowSlots) : State → State :=
  onIntake fun i => { i with windows := updAt i.windows w f }

/-- A window's slot table and numbers. -/
def windowSlots (s : State) (w : Nat) : WindowSlots := s.intake.windows.getD w WindowSlots.none

/-- Set the state of one slot. -/
def setSlot (w slot : Nat) (st : SlotState) : State → State :=
  onWindow w fun t => { t with slots := updAt t.slots slot fun _ => st }

/-- The state of one slot, none where the window has no such slot. -/
def slotState (s : State) (w slot : Nat) : Option SlotState := (windowSlots s w).slots[slot]?

/-- A hold serves a slot. -/
def holdServes (w slot : Nat) (h : Hold) : Bool := h.window == w && h.slot == slot

/-- The hold of a slot (R18: at most one). -/
def holdOf (s : State) (w slot : Nat) : Option Hold := s.intake.holds.find? (holdServes w slot)

/-- Update the hold of a slot. -/
def onHold (w slot : Nat) (f : Hold → Hold) : State → State :=
  onIntake fun i => { i with holds := i.holds.map fun h => if holdServes w slot h then f h else h }

/-- The intake window's settings. -/
def windowOfMap (s : State) (w : Nat) : IntakeWindow := windowAt s.settings.map w

/-- R16: the ring index of a slot: consumed + ((slot - consumed) mod N). -/
def ringIndexOf (t : WindowSlots) (slot : Nat) : BitVec 16 :=
  t.consumed + BitVec.ofNat 16 ((slot + 65536 - t.consumed.toNat) % t.slots.length)

/-- R16: the slot of a ring index. -/
def slotOfIndex (t : WindowSlots) (index : BitVec 16) : Nat := index.toNat % t.slots.length

/-! ### Lanes -/

/-- Update one lane entry. -/
def onLane (lane : Nat) (f : Lane → Lane) : State → State :=
  onLanes fun t => { t with entries := updAt t.entries lane f }

/-- A lane entry by number. -/
def laneAt (s : State) (lane : Nat) : Lane := s.lanes.entries.getD lane Lane.reset

/-! ### Store writes (R130) -/

/-- Add a request at the end of the store's waiting requests. -/
def requestWrite (r : StoreRequest) : State → State := onNv fun n => { n with requests := n.requests ++ [r] }

/-- Request a key store write that carries the working state. -/
def requestKeyWrite : State → State := requestWrite (.keyStore none false)

/-- R144: one change of the key unit's working state, with the STORE channel told when it is key attention. -/
def keyChange (f : KeyUnit → KeyUnit) (s : State) : State :=
  if keyAttention s.settings s.keys (f s.keys) then oweStore (onKeys f s) else onKeys f s

/-! ### The internal write queue (R9) -/

/-- R9: the entry's beats as bursts of up to 16, in ascending address order. -/
def burstsFrom (kind : EntryKind) : Nat → List (List Beat) → List Burst
  | _, [] => []
  | addr, [b] => [⟨.internal kind true, addr, .write b⟩]
  | addr, b :: c :: rest => ⟨.internal kind false, addr, .write b⟩ :: burstsFrom kind (addr + 128) (c :: rest)

/-- R9: an entry that writes these bytes from an address, all strobes set. -/
def entryOfBytes (kind : EntryKind) (addr : Nat) (bytes : List Byte) : Entry :=
  ⟨kind, burstsFrom kind addr
    (chunksOf 16 bytes.length ((chunksOf 8 bytes.length bytes).map fullBeat))⟩

/-- R9: the entry that writes byte 3 of the beat at an address alone. -/
def entryOfResult (addr : Nat) (result : Byte) : Entry :=
  ⟨.directiveResult, burstsFrom .directiveResult addr [[⟨BitVec.ofNat 64 (leNat [0, 0, 0, result]), 8⟩]]⟩

/-- The address of a slot. -/
def slotAddr (s : State) (w slot : Nat) : Nat := (windowOfMap s w).base + slot * (windowOfMap s w).slotSize

/-- R9: the queue has room for 32 entries. -/
def queueRoom (s : State) : Bool := decide (s.path.queue.length < 32)

/-- R9, R35, R106: an entry is added to the queue. With a write-back's entry the slot becomes WRITING and the engine
discards the record and is idle. -/
def addEntry (e : Entry) (s : State) : State :=
  let s' := onPath (fun p => { p with queue := p.queue ++ [e] }) s
  match e.kind with
  | .writeBack w slot => onEngine (fun g => { g with work := none }) (setSlot w slot .writing s')
  | _ => s'

/-- R9: a producer issues an entry: it is added when there is room and no producer waits, and waits otherwise. -/
def offerEntry (e : Entry) (s : State) : State :=
  if queueRoom s && s.path.waiting.isEmpty then addEntry e s
  else onPath (fun p => { p with waiting := p.waiting ++ [e] }) s

/-- R9: the entry of the producer that has waited longest is added, when it satisfies `p` and there is room. -/
def addLongestWaiting (p : EntryKind → Bool) (s : State) : State :=
  match s.path.waiting with
  | [] => s
  | e :: rest =>
    if p e.kind && queueRoom s then addEntry e (onPath (fun q => { q with waiting := rest }) s) else s

/-- R9: it is the turn of a waiting entry that satisfies `p`: it has waited longest, and there is room. -/
def waitingTurn (p : EntryKind → Bool) (s : State) : Bool :=
  queueRoom s && s.path.waiting.head?.any fun e => p e.kind

/-- R9: an issue of an entry whose kind satisfies `p`: the one that waits is added when it is its turn, and otherwise the
producer issues what it has to issue. -/
def issueStep (p : EntryKind → Bool) (act : State → State) (s : State) : State :=
  if waitingTurn p s then addLongestWaiting p s else act s

/-- R9: every waiting entry for which there is room is added. -/
def addWaiting (s : State) : State := forBelow s.path.waiting.length (fun _ => addLongestWaiting fun _ => true) s

/-- A write-back. -/
def isWriteBack : EntryKind → Bool
  | .writeBack _ _ => true
  | _ => false

/-- A void record. -/
def isVoid : EntryKind → Bool
  | .voidRecord _ _ => true
  | _ => false

/-- A status block. -/
def isStatus : EntryKind → Bool
  | .statusBlock _ => true
  | _ => false

/-- The status block of a channel. -/
def isStatusOf (ch : Nat) (k : EntryKind) : Bool := k == .statusBlock ch

/-- The batch summary. -/
def isSummary (k : EntryKind) : Bool := k == .summary

/-- A directive result. -/
def isResult (k : EntryKind) : Bool := k == .directiveResult

/-! ### Memory (R8, R12, R14, R42) -/

/-- Put one byte, keeping the addresses strictly rising. -/
def memPut (c : Host.Cell) : List Host.Cell → List Host.Cell
  | [] => [c]
  | d :: ds => if c.1 < d.1 then c :: d :: ds else if c.1 = d.1 then c :: ds else d :: memPut c ds

/-- Put bytes in turn. -/
def memPutAll (cs : List Host.Cell) (m : List Host.Cell) : List Host.Cell := cs.foldl (fun m c => memPut c m) m

/-- The byte known to stand at an address, if any was written. -/
def memGet (addr : Nat) : List Host.Cell → Option Byte
  | [] => none
  | d :: ds => if d.1 = addr then some d.2 else memGet addr ds

/-- The canonical form: addresses strictly rising. -/
def Memory.wf : List Host.Cell → Bool
  | [] => true
  | [_] => true
  | a :: b :: rest => decide (a.1 < b.1) && Memory.wf (b :: rest)

/-- R8, R12: what an answered burst puts into memory: all its strobed bytes on OKAY, a free choice of them on ERROR
(log 8). -/
def answerMemory (b : Burst) (okay : Bool) (s : State) : State :=
  match b.op with
  | .read _ => s
  | .write beats =>
    if okay then onDram (memPutAll (beatsCells b.addr beats)) s
    else
      { onDram (memPutAll ((beatsCells b.addr beats).filter fun c => Config.errorByteLands s.freeCount c.1)) s with
        freeCount := s.freeCount + 1 }

end Sys2Proof.Machine
end

