-- ==== Sys2Proof/Machine/Lanes.lean ====
section
/-! DEFINITION. The lane table (chapter 4): offers, confirms, timeouts, directives, admission, commit, hearing, silence
and lane events. -/

namespace Sys2Proof.Machine

/-! ### Events and failures (R68, R80) -/

/-- R80: ENROLMENT is raised. -/
def raiseEnrolment (l : Lane) : Lane := { l with enrolment := .pending }

/-- R80: FAULT is raised. -/
def raiseFault (l : Lane) : Lane := { l with fault := .pending }

/-- R68: the consecutive failures rise, stopping at 4. -/
def addFailure (l : Lane) : Lane := { l with failures := min 4 (l.failures + 1) }

/-- R60, R64: a failed attempt: FAULTED, nothing stored, one more failure, ENROLMENT and FAULT raised. -/
def failEnrolment (l : Lane) : Lane :=
  raiseFault (raiseEnrolment (addFailure
    { l with state := .faulted, offer := none, agreement := none, deadline := none }))

/-! ### Enrolment requests (R58 to R65) -/

/-- What the lane table returns for an enrolment request: the changed entry, disposition, reason, the agreement of
ANSWERED and CONFIRMED, whether an event was raised, and whether an answer serial was used. -/
structure EnrolmentAnswer where
  lane        : Lane
  disposition : Disposition
  reason      : Reason
  agreement   : Option Agreement
  raised      : Bool
  usedSerial  : Bool
  deriving DecidableEq, Repr

/-- R59: note an offer. -/
def noteOffer (o : Offer) (l : Lane) : EnrolmentAnswer :=
  let l' := { l with state := .offered, offer := some o, agreement := none, deadline := none }
  if l.state = .offered then ⟨l', .noted, .none, none, false, false⟩
  else ⟨raiseEnrolment l', .noted, .none, none, true, false⟩

/-- R61: the sealed bit is agreed. -/
def sealedAgreed (policy : Kinds) (laneKey : KeySlot) (o : Offer) : Bool :=
  o.kinds.sealed && policy.sealed && laneKey.state == .loaded && laneKey.id == o.keyId.toNat

/-- R61: the agreed kinds. -/
def agreedFor (policy : Kinds) (laneKey : KeySlot) (o : Offer) : Kinds :=
  ⟨o.kinds.clear && policy.clear, sealedAgreed policy laneKey o⟩

/-- R61: the agreed lane key id. -/
def agreedKeyId (policy : Kinds) (laneKey : KeySlot) (o : Offer) : Byte :=
  if sealedAgreed policy laneKey o then o.keyId else 0

/-- R60 to R62: the second, identical copy of an offer. -/
def answerOffer (cfg : Settings) (k : KeyStore) (sweep serial : BitVec 32) (lane : Nat) (o : Offer) (l : Lane) :
    EnrolmentAnswer :=
  let policy := cfg.policies.getD lane ⟨false, false⟩
  let laneKey := k.lanes.getD lane KeySlot.empty
  let kinds := agreedFor policy laneKey o
  if !kinds.clear && !kinds.sealed then ⟨failEnrolment l, .refused, .noCommonKind, none, true, false⟩
  else if k.surrogate.state = .empty then ⟨l, .refused, .noKey, none, false, false⟩
  else
    let a : Agreement := ⟨kinds, agreedKeyId policy laneKey o, answerNonce k.surrogate.key lane o.nonce serial⟩
    ⟨raiseEnrolment { l with
        state := .confirming
        agreement := some a
        deadline := some (sweep + BitVec.ofNat 32 cfg.confirmTimeout) },
      .answered, .none, some a, true, true⟩

/-- R59 to R63: an offer, by the lane's enrolment state. -/
def takeOffer (cfg : Settings) (k : KeyStore) (sweep serial : BitVec 32) (lane : Nat) (o : Offer) (l : Lane) :
    EnrolmentAnswer :=
  match l.state with
  | .absent | .confirming | .enrolled => noteOffer o l
  | .offered => if l.offer = some o then answerOffer cfg k sweep serial lane o l else noteOffer o l
  | .faulted =>
    if l.failures = 4 then ⟨raiseFault l, .refused, .laneLocked, none, true, false⟩ else noteOffer o l

/-- A confirm (R58). -/
structure Confirm where
  kinds       : Kinds
  keyId       : Byte
  nonce       : List Byte
  answerNonce : List Byte
  deriving DecidableEq, Repr

/-- R64, R65: the confirm repeats the agreement. -/
def confirmsAgreement (c : Confirm) (a : Agreement) : Bool :=
  c.kinds == a.kinds && c.keyId == a.keyId && c.answerNonce == a.nonce

/-- R65: refused, nothing changed. -/
def confirmUnexpected (l : Lane) : EnrolmentAnswer := ⟨l, .refused, .confirmUnexpected, none, false, false⟩

/-- R64: what a matching confirm makes of a CONFIRMING lane. -/
def enrol (l : Lane) : Lane :=
  raiseEnrolment { l with
    state := .enrolled, offer := none, deadline := none, high := 0, seen := 0, lastCounter := 0, failures := 0 }

/-- R64, R65: a confirm, by the lane's enrolment state. -/
def takeConfirm (c : Confirm) (l : Lane) : EnrolmentAnswer :=
  match l.state, l.agreement with
  | .confirming, some a =>
    if confirmsAgreement c a && (l.offer.map (·.nonce) == some c.nonce) then
      ⟨enrol l, .confirmed, .none, some a, true, false⟩
    else ⟨failEnrolment l, .refused, .confirmMismatch, none, true, false⟩
  | .confirming, none => ⟨failEnrolment l, .refused, .confirmMismatch, none, true, false⟩
  | .enrolled, some a =>
    if confirmsAgreement c a then ⟨l, .confirmed, .none, some a, false, false⟩ else confirmUnexpected l
  | _, _ => confirmUnexpected l

/-! ### Timeout, directives, silence (R66, R69, R70, R77, R78) -/

/-- R66: the confirm deadline of the lane is the count of the last sweep. -/
def confirmExpired (sweep : BitVec 32) (l : Lane) : Bool := l.state == .confirming && l.deadline == some sweep

/-- R66: the confirm timeout of a lane. -/
def timeoutConfirm (l : Lane) : Lane :=
  let l' := failEnrolment l
  if l'.failures < 4 then { l' with state := .absent } else l'

/-- R70: LANE_FORGET. -/
def forgetLane (l : Lane) : Lane :=
  let l' := { l with
    state := .absent, offer := none, agreement := none, deadline := none, high := 0, seen := 0, lastCounter := 0,
    failures := 0, latch := false, silent := .clear, silentDue := false }
  if l.state = .absent then l' else raiseEnrolment l'

/-- R77: the lane is heard. -/
def hearLane (l : Lane) : Lane := { l with silence := 0 }

/-- R78: one sweep on the silence count; LANE_SILENT comes due when the increase reaches the threshold of an ENROLLED
lane whose latch is clear. -/
def sweepLane (threshold : Nat) (l : Lane) : Lane :=
  { l with
    silence := min 255 (l.silence + 1)
    silentDue := decide (l.silence < 255) && decide (l.silence + 1 = threshold) && l.state == .enrolled && !l.latch }

/-- R78: the latch is set and SILENT is raised. -/
def silenceLane (l : Lane) : Lane := { l with latch := true, silent := .pending, silentDue := false }

/-! ### Admission and commit (R72 to R76) -/

/-- R73: the sequence verdict. -/
def sequenceVerdict (l : Lane) (q : Nat) : Verdict :=
  if q = 0 then .badSeq
  else if l.high < q then .accept
  else if l.high < q + 32 then (if l.seen.getLsbD (l.high - q) then .duplicate else .accept)
  else .stale

/-- R72: the answer to an admission query. -/
def admissionCopy (l : Lane) (q : Nat) : Admission where
  state := l.state
  suspended := l.suspended
  kinds := agreedKinds l
  keyId := match l.agreement with
    | some a => a.keyId
    | none => 0
  lastCounter := l.lastCounter
  verdict := sequenceVerdict l q

/-- R74: the sequence window after a commit. -/
def markSequence (q : Nat) (l : Lane) : Lane :=
  if l.high < q then { l with high := q, seen := (l.seen <<< (q - l.high)) ||| 1 }
  else if l.high < q + 32 then { l with seen := l.seen ||| (1 <<< (l.high - q)) }
  else l

/-- R74, R75: the commit of a WRAPPED record; a sealed one carries its lane counter. -/
def commitLane (q : Nat) (counter : Option Nat) (l : Lane) : Lane :=
  match counter with
  | some c => { markSequence q l with lastCounter := c }
  | none => markSequence q l

/-! ### Reporting (R81, R82) -/

/-- R81: a taken STORE block turns every PENDING event to REPORTED. -/
def reportLane (l : Lane) : Lane :=
  { l with
    enrolment := reportCondition l.enrolment
    fault := reportCondition l.fault
    silent := reportCondition l.silent }

/-- R82: a matching STORE return word clears REPORTED events, and the latch of a lane whose SILENT was REPORTED. -/
def acknowledgeLane (l : Lane) : Lane :=
  { l with
    enrolment := acknowledgeCondition l.enrolment
    fault := acknowledgeCondition l.fault
    silent := acknowledgeCondition l.silent
    latch := if l.silent = .reported then false else l.latch }

/-! ### On the state -/

/-- R58, R80: an enrolment request's answer is entered, and STORE is told of a raised event. DESIGN CHOICE (log 32): a
raised event becomes PENDING in the lane table (R80) in a part without a status window too, where only the STORE
channel that would show it is missing (R162). -/
def enterEnrolment (lane : Nat) (a : EnrolmentAnswer) (s : State) : State :=
  let s' := onLanes (fun t => { t with
    entries := updAt t.entries lane fun _ => a.lane
    answerSerial := if a.usedSerial then t.answerSerial + 1 else t.answerSerial }) s
  if a.raised then oweStore s' else s'

/-- R66: the confirm timeout of one lane, where it is due. Its events are kept without a status window too (log 32). -/
def timeoutLane (lane : Nat) (s : State) : State :=
  if confirmExpired s.sweepCount (laneAt s lane) then oweStore (onLane lane timeoutConfirm s) else s

/-- R78: a lane is reported silent, where it is due. Its event is kept without a status window too (log 32). -/
def silentLane (lane : Nat) (s : State) : State :=
  if (laneAt s lane).silentDue then oweStore (onLane lane silenceLane s) else s

/-- R70, R80: LANE_FORGET of a lane. -/
def forgetOn (lane : Nat) (s : State) : State :=
  let s' := onLane lane forgetLane s
  if (laneAt s lane).state = .absent then s' else oweStore s'

end Sys2Proof.Machine
end

