-- ==== Sys2Proof/Machine/Selection.lean ====
section
/-! DEFINITION. The arbiter of the engine queue (chapter 5): priorities, selection, and the take of a record. -/

namespace Sys2Proof.Machine

/-! ### A held record's header (R23) -/

/-- The lane byte of a hold's header, 255 where it is not known (R46). -/
def headerLane (h : Hold) : Nat :=
  match h.header with
  | some k => k.lane.toNat
  | none => 255

/-- The kind of a hold's header, 0 where it is not known. -/
def headerKind (h : Hold) : Nat :=
  match h.header with
  | some k => k.kind.toNat
  | none => 0

/-- The version of a hold's header, 0 where it is not known. -/
def headerVersion (h : Hold) : Nat :=
  match h.header with
  | some k => k.version.toNat
  | none => 0

/-- The declared length of a hold's header, 0 where it is not known. -/
def headerLength (h : Hold) : Nat :=
  match h.header with
  | some k => k.declared
  | none => 0

/-- The class of a hold's header; class 0 where it is not known (R86). -/
def headerClass (h : Hold) : Nat :=
  match h.header with
  | some k => k.cls
  | none => 0

/-! ### Selection (R86, R87) -/

/-- The element with the greatest key, the earliest of equal ones. -/
def greatestBy {α : Type} (key : α → Nat) : List α → Option α
  | [] => none
  | x :: xs =>
    match greatestBy key xs with
    | none => some x
    | some y => if key y ≤ key x then some x else some y

/-- R86: the priority of a hold's class. -/
def holdPriority (s : State) (h : Hold) : Nat := s.settings.priorities.getD (headerClass h) 0

/-- R26: how far a hold's serial lies behind the counter. -/
def serialAge (s : State) (h : Hold) : Nat :=
  match h.serial with
  | some n => (s.intake.serial - n).toNat
  | none => 0

/-- R87: higher for a higher priority, and among equal priorities for an earlier serial. -/
def selectionKey (s : State) (e : QueueEntry) : Nat :=
  match holdOf s e.window e.slot with
  | some h => holdPriority s h * 2 ^ 32 + serialAge s h
  | none => 0

/-- R87: the entry the engine takes next. -/
def nextEntry (s : State) : Option QueueEntry := greatestBy (selectionKey s) s.engine.queue

/-! ### The take (R88) -/

/-- R88: the admission query is made for a card record of a lane 0 to 47 that did not expire. -/
def admissionOf (h : Hold) (s : State) : Option Admission :=
  if (headerKind h = 2 ∨ headerKind h = 3) ∧ headerLane h ≤ 47 ∧ !h.expired then
    some (admissionCopy (laneAt s (headerLane h)) (heldSequence h))
  else none

/-- R88: a record at its take, with its admission copy. -/
def newWork (e : QueueEntry) (a : Option Admission) : Work where
  window := e.window
  slot := e.slot
  stage := .judge
  admission := a
  laneKeys := none
  body := none
  capture := none
  products := none
  agreement := none
  outcome := none
  output := none

/-- R88: an entry leaves the queue, its slot becomes WORKING, and its record is in work. -/
def startWork (e : QueueEntry) (h : Hold) (s : State) : State :=
  onEngine (fun g => { queue := g.queue.filter (· ≠ e), work := some (newWork e (admissionOf h s)) })
    (setSlot e.window e.slot .working s)

/-- R87, R88: the idle engine takes the next entry. -/
def takeNext (s : State) : State :=
  match s.engine.work, nextEntry s with
  | none, some e =>
    match holdOf s e.window e.slot with
    | some h => startWork e h s
    | none => s
  | _, _ => s

end Sys2Proof.Machine
end

