-- ==== Sys2Proof/Machine/IntakeUnit.lean ====
section
/-! DEFINITION. The intake unit (chapter 2): slot writes, holds, completion, expiry, gap fill, release and
consumption. -/

namespace Sys2Proof.Machine

/-! ### A hold's bytes and header (R21 to R25) -/

/-- R21: the strobed bytes of a beat at a slot offset enter the hold. -/
def mergeBeat (bytes : List (Option Byte)) (b : Nat × Beat) : List (Option Byte) :=
  (beatCells b.1 b.2).foldl (fun l c => updAt l c.1 fun _ => some c.2) bytes

/-- R21: the beats of a slot write in order. -/
def mergeBeats (beats : List (Nat × Beat)) (h : Hold) : Hold := { h with bytes := beats.foldl mergeBeat h.bytes }

/-- R24: a declared length out of range for the slot size. -/
def lengthOutOfRange (slotSize declared : Nat) : Bool := decide (declared < 32) || decide (slotSize < declared)

/-- R23, R24: once bytes 0 to 31 are written, the header is recorded from the current bytes. -/
def recordHeader (slotSize : Nat) (h : Hold) : Hold :=
  if heldThrough h 32 then
    { h with
      header := some ⟨heldByte h 0, heldByte h 1, heldByte h 2, (heldByte h 3).toNat % 8, heldNat h 4 2,
        if lengthOutOfRange slotSize (heldNat h 4 2) then slotSize else heldNat h 4 2⟩
      lengthFault := lengthOutOfRange slotSize (heldNat h 4 2) }
  else h

/-- R25: the completion test. -/
def holdComplete (h : Hold) : Bool :=
  match h.header with
  | some k => heldThrough h k.effective
  | none => false

/-- R20: a new hold for a slot, opened at the current sweep count. -/
def newHold (s : State) (w slot : Nat) : Hold where
  window := w
  slot := slot
  ringIndex := ringIndexOf (windowSlots s w) slot
  openedAt := s.sweepCount
  bytes := List.replicate 512 none
  header := none
  lengthFault := false
  expired := false
  serial := none

/-- R20: open a hold for a FREE slot, which becomes FILLING. -/
def openHold (w slot : Nat) (s : State) : State :=
  setSlot w slot .filling (onIntake (fun i => { i with holds := i.holds ++ [newHold s w slot] }) s)

/-- R25 to R27, R29: a slot becomes QUEUED, its hold receives the completion serial, and the engine queue an entry. -/
def joinQueue (w slot : Nat) (expired : Bool) (s : State) : State :=
  onEngine (fun g => { g with queue := g.queue ++ [⟨w, slot⟩] })
    (onIntake (fun i => { i with serial := i.serial + 1 })
      (onHold w slot (fun h => { h with expired := expired, serial := some s.intake.serial })
        (setSlot w slot .queued s)))

/-- R87: an idle engine with entries waiting has taken the next of them before another entry joins. -/
def queueSlot (w slot : Nat) (expired : Bool) (s : State) : State := joinQueue w slot expired (takeNext s)

/-! ### Slot writes (R19 to R25) -/

/-- The beats of one upstream write that fall in one slot, each with its offset in the slot (R19). -/
structure SlotWrite where
  window : Nat
  slot   : Nat
  beats  : List (Nat × Beat)
  deriving DecidableEq, Repr

/-- R19: why the slot write is refused, by the slot's state. -/
def slotRefusal (s : State) (w slot : Nat) : Option CountId :=
  match slotState s w slot with
  | some .free => if s.intake.holds.length < 16 then none else some .exhausted
  | some .queued | some .working | some .writing => some .collision
  | some .done | some .released => some .overrun
  | some .filling | none => none

/-- R25: the completion test of a slot's hold. -/
def completionTest (w slot : Nat) (s : State) : State :=
  match holdOf s w slot with
  | some h => if holdComplete h then queueSlot w slot false s else s
  | none => s

/-- R20: a FREE slot gets its hold before the beats are merged. -/
def ensureHold (w slot : Nat) (s : State) : State :=
  if slotState s w slot = some .free then openHold w slot s else s

/-- R19 to R25: a slot write that is taken. -/
def mergeSlotWrite (sw : SlotWrite) (s : State) : State :=
  completionTest sw.window sw.slot
    (onHold sw.window sw.slot
      (fun h => recordHeader (windowOfMap s sw.window).slotSize (mergeBeats sw.beats h))
      (ensureHold sw.window sw.slot s))

/-- R19, R22: a slot write taken whole: merged, or refused with one added to the matching count for each beat. -/
def takeSlotWrite (sw : SlotWrite) (s : State) : State :=
  match slotRefusal s sw.window sw.slot with
  | some id => addCount sw.window id sw.beats.length s
  | none => mergeSlotWrite sw s

/-! ### Release and consumption (R38 to R40) -/

/-- R38: the release cursor passes DONE slots; with how many it passed. -/
def releaseCursor : Nat → WindowSlots → WindowSlots × Nat
  | 0, t => (t, 0)
  | fuel + 1, t =>
    if t.slots[slotOfIndex t t.release]? = some .done then
      let r := releaseCursor fuel
        { t with slots := updAt t.slots (slotOfIndex t t.release) fun _ => .released, release := t.release + 1 }
      (r.1, r.2 + 1)
    else (t, 0)

/-- R38: as many releases told to the window's channel. -/
def releaseTimes : Nat → Channel → Channel
  | 0, c => c
  | n + 1, c => releaseTimes n (releaseOn c)

/-- R38: the release rule of a window. -/
def releaseWindow (w : Nat) (s : State) : State :=
  let t := windowSlots s w
  onChannel w (releaseTimes (releaseCursor t.slots.length t).2)
    (onWindow w (fun t => (releaseCursor t.slots.length t).1) s)

/-- R36, R37: a slot becomes DONE, a fault is counted on ERROR, and the release rule is applied. -/
def slotDone (w slot : Nat) (okay : Bool) (s : State) : State :=
  let s' := setSlot w slot .done s
  releaseWindow w (if okay then s' else addCount w .writeFaults 1 s')

/-- R36: free the hold of a slot. -/
def freeHold (w slot : Nat) : State → State :=
  onIntake fun i => { i with holds := i.holds.filter fun h => !holdServes w slot h }

/-- R39: the slots of `n` indices from one on become FREE. -/
def freeSlots : Nat → BitVec 16 → List SlotState → List SlotState
  | 0, _, slots => slots
  | n + 1, index, slots => freeSlots n (index + 1) (updAt slots (index.toNat % slots.length) fun _ => .free)

/-- R39: a consumed index lies in the span from the consumed to the release index. -/
def consumedAccepted (t : WindowSlots) (c : BitVec 16) : Bool :=
  decide ((c - t.consumed).toNat ≤ (t.release - t.consumed).toNat)

/-- R39, R40: a consumed index is accepted and frees the slots it passes, or is ignored and raises RETURN_IGNORED. -/
def takeConsumed (w : Nat) (c : BitVec 16) (s : State) : State :=
  if consumedAccepted (windowSlots s w) c then
    onWindow w (fun t => { t with
      slots := freeSlots (c - t.consumed).toNat t.consumed t.slots
      consumed := c }) s
  else onChannel w raiseReturnIgnored s

/-! ### Sweeps (R29 to R31) -/

/-- R30: later work: FILLING, QUEUED, WORKING, WRITING or DONE. -/
def laterWork : SlotState → Bool
  | .filling | .queued | .working | .writing | .done => true
  | .free | .released => false

/-- R30: the window has a gap. -/
def hasGap (t : WindowSlots) : Bool :=
  t.slots[slotOfIndex t t.release]? == some .free && t.slots.any laterWork

/-- R30: the gap age after a sweep, judged by whether the window has a gap at the sweep. DESIGN CHOICE (log 30): R30
says this, and also that a gap that a write to the cursor slot closes between two sweeps starts the count again. Where
the record of that write was done and released before the next sweep, and another gap stands there, the age rises. -/
def gapSweep (t : WindowSlots) : WindowSlots := { t with gapAge := if hasGap t then t.gapAge + 1 else 0 }

/-- R29: the age of a hold in sweeps. -/
def holdAge (s : State) (h : Hold) : Nat := (s.sweepCount - h.openedAt).toNat

/-- R29: a FILLING hold whose age has reached E. -/
def holdExpiring (s : State) (h : Hold) : Bool :=
  slotState s h.window h.slot == some .filling && decide (s.settings.holdExpiry ≤ holdAge s h)

/-- R26: expiring holds are ordered by window, and within one by ring index, counted from the consumed index
(log 19). -/
def expiryKey (s : State) (h : Hold) : Nat :=
  h.window * 65536 + (h.ringIndex - (windowSlots s h.window).consumed).toNat

/-- The element with the least key, the earliest of equal ones. -/
def leastBy {α : Type} (key : α → Nat) : List α → Option α
  | [] => none
  | x :: xs =>
    match leastBy key xs with
    | none => some x
    | some y => if key x ≤ key y then some x else some y

/-- R29: the hold that expires next. -/
def nextExpiring (s : State) : Option Hold := leastBy (expiryKey s) (s.intake.holds.filter (holdExpiring s))

/-- R29: the hold that is next in order expires. -/
def expireNext (s : State) : State :=
  match nextExpiring s with
  | some h => queueSlot h.window h.slot true s
  | none => s

/-- R31: a window's gap age has reached E and its cursor slot is FREE. -/
def gapDue (s : State) (w : Nat) : Bool :=
  decide (s.settings.holdExpiry ≤ (windowSlots s w).gapAge) &&
    (windowSlots s w).slots[slotOfIndex (windowSlots s w) (windowSlots s w).release]? == some .free

/-- R31: the cursor slot becomes WRITING with a void record, counted and issued. A void record that must wait for room
(R9) is counted here all the same, not when its entry is added: DESIGN CHOICE (log 29). -/
def fillGap (w : Nat) (s : State) : State :=
  let t := windowSlots s w
  let cursor := slotOfIndex t t.release
  if gapDue s w then
    offerEntry
      (entryOfBytes (.voidRecord w cursor) (slotAddr s w cursor)
        (voidOutput (windowOfMap s w).slotSize t.release w))
      (addCount w .expiredSkipped 1
        (onWindow w (fun t => { t with gapAge := 0 }) (setSlot w cursor .writing s)))
  else s

end Sys2Proof.Machine
end

