-- ==== Sys2Proof/Machine/Keys.lean ====
section
/-! DEFINITION. The key unit and the store writes of the key store (chapter 7): loads, hand-out, exhaustion, promotion,
roll, erase, reservation, and start-up. -/

namespace Sys2Proof.Machine

/-- R139: the mark and the C of a key with no value left. -/
def counterEnd : Nat := 1048576

/-! ### Promotion, exhaustion, roll (R139, R140) -/

/-- R139: ACQ_NEXT's key becomes ACTIVE in ACQ_CURRENT. -/
def promoteKey (k : KeyUnit) : KeyUnit :=
  { k with
    store := { k.store with
      current := { k.store.next with state := .active }
      currentMark := 1
      next := KeySlot.empty
      nextMark := 0
      highestId := k.store.next.id }
    currentC := 1
    nextC := 0 }

/-- R139: ACQ_CURRENT is exhausted: SPENT, and replaced at once when a key is staged. -/
def exhaustKey (k : KeyUnit) : KeyUnit :=
  let k' := { k with
    store := { k.store with current := { k.store.current with state := .spent } }
    currentC := counterEnd }
  if k.store.next.state = .loaded then promoteKey k' else k'

/-! ### Hand-out (R115, R135) -/

/-- R101, R115: what a hand-out answers with. -/
def captureOf (cfg : Settings) (k : KeyUnit) : Capture :=
  let w := acquirerKeys k.store.current.key k.store.current.id k.currentC cfg.storeNumber
  ⟨k.store.current.id, k.currentC, w.1, w.2, k.store.surrogate.key⟩

/-- R139: the value about to be handed out is the last. -/
def lastValue (k : KeyUnit) : Bool := k.currentC == 1048575

/-- R135, R139: the working state after a hand-out; no request waits any more. -/
def handOutKey (k : KeyUnit) : KeyUnit :=
  if lastValue k then exhaustKey { k with waiting := false }
  else { k with waiting := false, currentC := k.currentC + 1 }

/-- R135: the reservation that a key needs: its mark raised by up to 256. -/
def reservationFor (k : KeyUnit) (retry : Bool) : Reservation :=
  ⟨k.store.current.id, min (k.store.currentMark + 256) counterEnd, retry, true⟩

/-- A waiting request or a write is a reservation write that a retry requested (R135). -/
def requestIsRetry : StoreRequest → Bool
  | .keyStore (some r) _ => r.retry
  | _ => false

/-- The same of the write in progress. -/
def writeIsRetry : StoreWrite → Bool
  | .keyStore _ (some r) _ => r.retry
  | _ => false

/-- R135: a retry's reservation write is in progress or waiting. -/
def retryPending (n : NvStore) : Bool := n.requests.any requestIsRetry || n.writing.any writeIsRetry

/-- R130, R190: a request for a write that stands as a key store write; an erase write is one (log 25). -/
def requestIsKeyWrite : StoreRequest → Bool
  | .keyStore _ _ | .erase => true
  | _ => false

/-- The same of the write in progress. -/
def writeIsKeyWrite : StoreWrite → Bool
  | .keyStore _ _ _ | .erase => true
  | _ => false

/-- R131: a key store write is in progress or waiting. -/
def keyWritePending (n : NvStore) : Bool := n.requests.any requestIsKeyWrite || n.writing.any writeIsKeyWrite

/-- R131: the retry that the key unit requests at a sweep. -/
def retryWrite (s : State) : State :=
  if s.keys.counterStore && !keyWritePending s.nv then
    if s.keys.store.current.state = .active ∧ s.keys.currentC = s.keys.store.currentMark then
      requestWrite (.keyStore (some (reservationFor s.keys true)) false) s
    else requestKeyWrite s
  else s

/-! ### Loads (R132, R133) -/

/-- The answers to a LOAD_KEY (R132, R183). -/
inductive LoadAnswer where
  | badSlot | badCheck | badId | slotBusy | ok
  deriving DecidableEq, Repr

/-- R132: the answer to a load, in the order of the table. -/
def judgeLoad (k : KeyStore) (slot id : Nat) (key check : List Byte) : LoadAnswer :=
  if 51 < slot then .badSlot
  else if checkValue key ≠ check then .badCheck
  else if id = 0 then .badId
  else if slot ≤ 1 ∧ id ≤ k.highestId then .badId
  else if slot = 0 ∧ k.next.state = .loaded ∧ k.next.id ≤ id then .badId
  else if slot = 0 ∧ k.current.state = .active then .slotBusy
  else .ok

/-- R133: the effect of a load answered OK. -/
def loadSlot (slot id : Nat) (key check : List Byte) (k : KeyUnit) : KeyUnit :=
  match slot with
  | 0 => { k with
      store := { k.store with current := ⟨.active, id, key, check⟩, currentMark := 1, highestId := id }
      currentC := 1 }
  | 1 => { k with store := { k.store with next := ⟨.loaded, id, key, check⟩, nextMark := 1 }, nextC := 1 }
  | 2 => { k with store := { k.store with surrogate := ⟨.loaded, id, key, check⟩ } }
  | 3 => { k with store := { k.store with batch := ⟨.loaded, id, key, check⟩ } }
  | l + 4 => { k with store := { k.store with lanes := updAt k.store.lanes l fun _ => ⟨.loaded, id, key, check⟩ } }

/-! ### Erase and start-up (R145, R146) -/

/-- R145: ERASE in the key unit. -/
def eraseKeys (_ : KeyUnit) : KeyUnit := KeyUnit.reset

/-- R146: the working state rebuilt from the stored image: C at the stored marks. -/
def rebuildKeys (k : KeyStore) : KeyUnit := ⟨k, k.currentMark, k.nextMark, false, false⟩

/-- R146: an ACTIVE key with no value below its mark. -/
def exhaustedAtStart (k : KeyStore) : Bool := k.current.state == .active && k.currentMark == counterEnd

/-- R146: the key unit at the end of start-up. -/
def startKeys (k : KeyStore) : KeyUnit :=
  if exhaustedAtStart k then exhaustKey (rebuildKeys k) else rebuildKeys k

/-! ### The outcome of key store writes (R130, R131, R136) -/

/-- R145: the end of this write raises no working mark. -/
def voidReservation (r : Reservation) : Reservation := { r with live := false }

/-- R145: the reservation writes in progress or waiting at an ERASE go on, and their ends raise no working mark. -/
def voidReservations (n : NvStore) : NvStore :=
  { n with
    requests := n.requests.map fun q =>
      match q with
      | .keyStore r forPort => .keyStore (r.map voidReservation) forPort
      | q => q
    writing := n.writing.map fun w =>
      match w with
      | .keyStore content r forPort => .keyStore content (r.map voidReservation) forPort
      | w => w }

/-- R130: the content a key store write copies when it begins: the working state, with the raised mark of a
reservation while ACQ_CURRENT holds its key id. A mark is never lowered (log 27). -/
def keyWriteContent (k : KeyStore) (r : Option Reservation) : KeyStore :=
  match r with
  | some v =>
    if k.current.state ≠ .empty ∧ k.current.id = v.keyId then { k with currentMark := max k.currentMark v.mark } else k
  | none => k

/-- R136: a completed reservation raises the working mark while ACQ_CURRENT still holds its key id. -/
def raiseMark (r : Option Reservation) (k : KeyUnit) : KeyUnit :=
  match r with
  | some v =>
    if v.live ∧ k.store.current.state ≠ .empty ∧ k.store.current.id = v.keyId then
      { k with store := { k.store with currentMark := max k.store.currentMark v.mark } }
    else k
  | none => k

/-- R131, R136: the end of a key store write in the key unit: COUNTER_STORE, and the mark of a completed reservation. -/
def endKeyWrite (completed : Bool) (r : Option Reservation) (k : KeyUnit) : KeyUnit :=
  if completed then raiseMark r { k with counterStore := false } else { k with counterStore := true }

/-- R130: what a completed write leaves in the store. -/
def writeLands (w : StoreWrite) (n : NvStore) : NvStore :=
  match w with
  | .keyStore content _ _ => { n with keys := content }
  | .batchNumber number => { n with lastClosed := number }
  | .imageGroup g words =>
    { n with
      groups := updAt n.groups g fun _ => words
      control := if g = 0 then n.control else n.control ||| (1 <<< g) }
  | .imageLock => { n with locked := true }
  | .erase => { n with keys := KeyStore.empty, control := 0, locked := false, groups := groupsZero, lastClosed := 0 }

/-- R130: the write that a request becomes when it begins. -/
def beginWrite (k : KeyStore) : StoreRequest → StoreWrite
  | .keyStore r forPort => .keyStore (keyWriteContent k r) r forPort
  | .batchNumber number => .batchNumber number
  | .imageGroup g words => .imageGroup g words
  | .imageLock => .imageLock
  | .erase => .erase

/-- R130: the store begins the next waiting write when none is in progress. -/
def beginNextWrite (s : State) : State :=
  match s.nv.writing, s.nv.requests with
  | none, r :: rest => onNv (fun n => { n with writing := some (beginWrite s.keys.store r), requests := rest }) s
  | _, _ => s

end Sys2Proof.Machine
end

