-- ==== Sys2Proof/Machine/WrapEngine.lean ====
section
/-! DEFINITION. The wrap engine (chapter 5): its work on one record, stage by stage, the key request and its wait, the
commits, and the outputs. Selection and the take stand in Selection.lean. -/

namespace Sys2Proof.Machine

/-- Update the record in work. -/
def onWork (f : Work → Work) : State → State := onEngine fun g => { g with work := g.work.map f }

/-- R89: the record in work passes to a stage. -/
def passTo (st : Stage) : State → State := onWork fun w => { w with stage := st }

/-! ### Deciding an outcome (R90) -/

/-- R45: the count a disposition is counted in. -/
def countOf : Disposition → Option CountId
  | .passed => some .passed
  | .wrapped => some .wrapped
  | .duplicate | .stale => some .duplicateStale
  | .rejected | .refused => some .rejected
  | .expired => some .expiredSkipped
  | .skipped | .noted | .answered | .confirmed => none

/-- R90: the decided outcome is counted. -/
def countOutcome (w : Nat) (d : Disposition) (s : State) : State :=
  match countOf d with
  | some id => addCount w id 1 s
  | none => s

/-- R77: the record hears its lane. -/
def hearsLane (h : Hold) : Bool := !h.expired && decide (headerLane h ≤ 47)

/-- R90: a decision is reported: the outcome counted, the lane heard. -/
def reportDecision (h : Hold) (d : Disposition) (s : State) : State :=
  let s' := countOutcome h.window d s
  if hearsLane h then onLane (headerLane h) hearLane s' else s'

/-- R90: an outcome is decided and reported, the output built, and the record goes to the write-back stage. -/
def decideRecord (h : Hold) (d : Disposition) (r : Reason) (output : List Byte) (s : State) : State :=
  onWork (fun w => { w with stage := .write, outcome := some (d, r), output := some output }) (reportDecision h d s)

/-- The slot size of a hold's window. -/
def sizeOf (s : State) (h : Hold) : Nat := (windowOfMap s h.window).slotSize

/-- R47: an outcome with a header-only output. -/
def decideHeaderOnly (h : Hold) (d : Disposition) (r : Reason) (s : State) : State :=
  decideRecord h d r (headerOnlyOutput (sizeOf s h) h d r) s

/-! ### Stages 1 to 5: judged before any request to the key unit (R91 to R95) -/

/-- R43, R92: the minimum declared length of a kind. -/
def minimumLength (kind : Nat) : Nat :=
  match kind with
  | 1 => 32
  | 2 => 120
  | 3 => 136
  | 4 => 48
  | _ => 56

/-- R92: the shape stage. -/
def shapeReason (h : Hold) : Option Reason :=
  if headerKind h < 1 ∨ 5 < headerKind h then some .badKind
  else if headerVersion h ≠ 1 then some .badVersion
  else if h.lengthFault then some .badLength
  else if headerLength h < minimumLength (headerKind h) then some .badLength
  else none

/-- R95: the kind's bit is in the agreed kinds. -/
def kindAgreed (kind : Nat) (k : Kinds) : Bool := if kind = 3 then k.sealed else k.clear

/-- R95: what the admission stage decides from the admission copy, in the order of the rule. -/
def admissionOutcome (kind : Nat) (a : Admission) : Option (Disposition × Reason) :=
  if a.state ≠ .enrolled then some (.rejected, .notEnrolled)
  else if a.suspended then some (.rejected, .laneSuspended)
  else if !kindAgreed kind a.kinds then some (.rejected, .kindNotAgreed)
  else match a.verdict with
    | .badSeq => some (.rejected, .badSeq)
    | .duplicate => some (.duplicate, .none)
    | .stale => some (.stale, .none)
    | .accept => none

/-- R95: the admission stage: a sealed record goes on to the sealed lane stage, a clear one with its body (R84) to the
body stage. -/
def admissionStage (h : Hold) (a : Admission) (s : State) : State :=
  match admissionOutcome (headerKind h) a with
  | some (d, r) => decideHeaderOnly h d r s
  | none =>
    if headerKind h = 3 then passTo .laneKeys s
    else onWork (fun w => { w with stage := .body, body := some (heldBytes h 32 88) }) s

/-- R58: the offer of an ENROL_OFFER record. -/
def offerOf (h : Hold) : Offer := ⟨kindsOf (heldByte h 32), heldByte h 33, heldBytes h 36 8⟩

/-- R58: the confirm of an ENROL_CONFIRM record. -/
def confirmOf (h : Hold) : Confirm :=
  ⟨kindsOf (heldByte h 32), heldByte h 33, heldBytes h 36 8, heldBytes h 44 8⟩

/-- R58, R94: what the lane table answers to an enrolment record. -/
def enrolmentAnswer (h : Hold) (s : State) : EnrolmentAnswer :=
  if headerKind h = 4 then
    takeOffer s.settings s.keys.store s.sweepCount s.lanes.answerSerial (headerLane h) (offerOf h)
      (laneAt s (headerLane h))
  else takeConfirm (confirmOf h) (laneAt s (headerLane h))

/-- R94: the request of an enrolment record of a lane 0 to 47. The lane table's answer is the outcome, reported at once
(R90); the result is built next. -/
def enrolmentStage (h : Hold) (s : State) : State :=
  let a := enrolmentAnswer h s
  onWork (fun w => { w with stage := .result, agreement := a.agreement, outcome := some (a.disposition, a.reason) })
    (reportDecision h a.disposition (enterEnrolment (headerLane h) a s))

/-- R94: the acquirer key id of an enrolment result. -/
def acquirerIdShown (k : KeyStore) : Nat := if k.current.state = .active then k.current.id else 0

/-- R94, R49: the enrolment result is built, with the acquirer key id as ACQ_CURRENT stands. -/
def resultStage (h : Hold) (w : Work) (s : State) : State :=
  match w.outcome with
  | some (d, r) =>
    onWork (fun w => { w with
      stage := .write
      output := some (enrolmentOutput (sizeOf s h) h (headerKind h == 4) d r w.agreement
        (acquirerIdShown s.keys.store) s.settings.storeNumber) }) s
  | none => s

/-- R91 to R95: the stages before any request to the key unit, in order. -/
def judgeStage (h : Hold) (a : Option Admission) (s : State) : State :=
  if h.expired then
    if h.lengthFault then decideHeaderOnly h .rejected .badLength s else decideHeaderOnly h .expired .none s
  else match shapeReason h with
    | some r => decideHeaderOnly h .rejected r s
    | none =>
      if headerKind h = 1 then
        decideRecord h .passed .none (passedOutput (sizeOf s h) h (headerLength h)) s
      else if 47 < headerLane h then decideHeaderOnly h .rejected .badLane s
      else if 4 ≤ headerKind h then enrolmentStage h s
      else match a with
        | some a => admissionStage h a s
        | none => s

/-! ### Stage 6: sealed lane (R96 to R98) -/

/-- R96: the key slot of the record's lane holds the agreed lane key. -/
def laneKeyHeld (k : KeyStore) (lane : Nat) (keyId : Byte) : Bool :=
  (k.lanes.getD lane KeySlot.empty).state == .loaded && (k.lanes.getD lane KeySlot.empty).id == keyId.toNat

/-- R96: the request for the lane working keys. -/
def laneKeyStage (h : Hold) (a : Admission) (s : State) : State :=
  if laneKeyHeld s.keys.store (headerLane h) a.keyId then
    onWork (fun w => { w with
      stage := .unseal
      laneKeys := some (laneWorkingKeys (s.keys.store.lanes.getD (headerLane h) KeySlot.empty).key (headerLane h)
        (heldNat h 32 4) a.keyId.toNat) }) s
  else decideHeaderOnly h .rejected .noLaneKey s

/-- R121: the lane tag the engine computes for a sealed record. -/
def computedLaneTag (tagKey : List Byte) (h : Hold) : List Byte :=
  laneTag tagKey (heldBytes h 40 88) (headerKind h) (headerLane h) (headerClass h) (heldSequence h) (heldNat h 12 4)
    (heldNat h 32 4)

/-- R97, R98, R120: the lane counter check, then the 88 unsealed bytes are formed and kept (R84), then the lane tag is
compared. -/
def unsealStage (h : Hold) (a : Admission) (keys : List Byte × List Byte) (s : State) : State :=
  if heldNat h 32 4 ≤ a.lastCounter then decideHeaderOnly h .rejected .laneReplay s
  else
    let s' := onWork (fun w => { w with
      body := some (unsealBody keys.1 (heldBytes h 40 88) (headerLane h) (heldSequence h) (heldNat h 32 4)) }) s
    if computedLaneTag keys.2 h ≠ heldBytes h 128 8 then decideHeaderOnly h .rejected .laneTag s' else passTo .body s'

/-! ### Stage 7: body (R99, R100) -/

/-- R99, R100: the body stage. -/
def bodyStage (h : Hold) (body : List Byte) (s : State) : State :=
  match judgeBody body with
  | some r => decideHeaderOnly h .rejected r s
  | none => passTo .keys s

/-! ### Stage 8: keys (R101, R102, R135) -/

/-- R101, R135, R139: a value is handed out to the record in work, which captures it; a store write is requested when it
was the last. -/
def handOutToRecord (s : State) : State :=
  let s' := keyChange handOutKey s
  onWork (fun w => { w with stage := .compute, capture := some (captureOf s.settings s.keys) })
    (if lastValue s.keys then requestKeyWrite s' else s')

/-- R135: the key request waits for a reservation write, requested here unless a retry's is pending. -/
def waitForReservation (s : State) : State :=
  let s' := passTo .reservation (onKeys (fun k => { k with waiting := true }) s)
  if retryPending s.nv then s'
  else requestWrite (.keyStore (some (reservationFor s.keys false)) false) s'

/-- R101, R135: the key request of a record that has passed the body stage. -/
def keyStage (h : Hold) (s : State) : State :=
  if noKeyFlag s.keys.store then decideHeaderOnly h .rejected .noKey s
  else if s.keys.currentC < s.keys.store.currentMark then handOutToRecord s
  else waitForReservation s

/-- R102: a waiting request ends with a refusal. -/
def endWaiting (r : Reason) (h : Hold) (s : State) : State :=
  decideHeaderOnly h .rejected r (onKeys (fun k => { k with waiting := false }) s)

/-- The hold of the record in work. -/
def workHold (s : State) : Option Hold :=
  match s.engine.work with
  | some w => holdOf s w.window w.slot
  | none => none

/-- R136: the waiting request judged at the end of a reservation write. -/
def judgeWaiting (completed : Bool) (s : State) : State :=
  if !s.keys.waiting then s
  else match workHold s with
    | none => s
    | some h =>
      if noKeyFlag s.keys.store then endWaiting .noKey h s
      else if !completed then endWaiting .counterStore h s
      else if s.keys.currentC < s.keys.store.currentMark then handOutToRecord s
      else requestWrite (.keyStore (some (reservationFor s.keys false)) false) s

/-! ### Stages 9 and 10: compute and commit (R103 to R105) -/

/-- R104: the commit to the lane table. -/
def commitToLane (h : Hold) : State → State :=
  onLane (headerLane h) (commitLane (heldSequence h) (if headerKind h = 3 then some (heldNat h 32 4) else none))

/-- R103, R104: surrogate and ciphertext are formed from body and capture, and the record is committed to the lane
table. -/
def computeStage (h : Hold) (body : List Byte) (c : Capture) (s : State) : State :=
  onWork (fun w => { w with
    stage := .totalsCommit
    products := some ⟨surrogateDigits c.surrogate (cardDigits body),
      envelopeCipher c.envKey body (headerLane h) (heldSequence h) c.keyId c.counter, none, none⟩ })
    (commitToLane h s)

/-- R104, R149: the commit to the totals unit, which answers with the number of the open batch. -/
def totalsStage (h : Hold) (body : List Byte) (c : Capture) (s : State) : State :=
  onWork (fun w => { w with
    stage := .conclude
    products := w.products.map fun p => { p with batch := some s.totals.batch.number } })
    (onTotals (fun t => { t with
      batch := commitRecord (headerLane h) (bodyAmount body) (bodyRefund body) ⟨c.keyId, c.counter⟩ t.batch }) s)

/-- The envelope tag of a record in work, under a batch number (R119). -/
def recordTag (h : Hold) (body cipher : List Byte) (c : Capture) (batch : Nat) : List Byte :=
  envelopeTag c.tagKey body cipher (headerLane h) (heldSequence h) c.keyId c.counter batch

/-- R104, R105: WRAPPED is counted and the lane heard, the envelope tag formed, and the output built. -/
def concludeStage (h : Hold) (body : List Byte) (c : Capture) (p : Products) (s : State) : State :=
  match p.batch with
  | some batch =>
    let tag := recordTag h body p.cipher c batch
    decideRecord h .wrapped .none
      (wrappedOutput (sizeOf s h) h body ⟨c.keyId, c.counter, batch⟩ p.surrogate p.cipher tag)
      (onWork (fun w => { w with products := some { p with tag := some tag } }) s)
  | none => s

/-! ### The engine's work (R89) -/

/-- R89: the record in work goes through its stage. A stage whose data the earlier ones have not left does nothing; no
run meets one (log 26). A waiting key request and a built output wait for others (R102, R106). -/
def runStage (h : Hold) (w : Work) (s : State) : State :=
  match w.stage, w.admission, w.laneKeys, w.body, w.capture, w.products with
  | .judge, a, _, _, _, _ => judgeStage h a s
  | .result, _, _, _, _, _ => resultStage h w s
  | .laneKeys, some a, _, _, _, _ => laneKeyStage h a s
  | .unseal, some a, some keys, _, _, _ => unsealStage h a keys s
  | .body, _, _, some body, _, _ => bodyStage h body s
  | .keys, _, _, _, _, _ => keyStage h s
  | .compute, _, _, some body, some c, _ => computeStage h body c s
  | .totalsCommit, _, _, some body, some c, _ => totalsStage h body c s
  | .conclude, _, _, some body, some c, some p => concludeStage h body c p s
  | _, _, _, _, _, _ => s

/-- R89: the engine's next stage of the record in work. -/
def stageStep (s : State) : State :=
  match s.engine.work with
  | some w =>
    match holdOf s w.window w.slot with
    | some h => runStage h w s
    | none => s
  | none => s

/-! ### Stage 11: the write-back (R106) -/

/-- The write-back's entry of a record whose output is built. -/
def writeBackEntry (s : State) (w : Work) (output : List Byte) : Entry :=
  entryOfBytes (.writeBack w.window w.slot) (slotAddr s w.window w.slot) output

/-- A write-back waits for room. -/
def writeBackWaits (s : State) : Bool := s.path.waiting.any fun e => isWriteBack e.kind

/-- R106: the built output is issued, unless it already waits for room. -/
def issueWriteBack (s : State) : State :=
  if writeBackWaits s then s
  else match s.engine.work with
    | some w =>
      match w.output with
      | some output => offerEntry (writeBackEntry s w output) s
      | none => s
    | none => s

end Sys2Proof.Machine
end

