-- ==== Sys2Proof/Machine/Reporting.lean ====
section
/-! DEFINITION. The reporting unit (chapter 9): the taking of a block's content, status writes, their acknowledgements
and return words. -/

namespace Sys2Proof.Machine

/-- R9: the offset of a channel's block in the status window. -/
def blockOffset (ch : Nat) : Nat := 128 * ch

/-- R167, R168: the content of a channel's block, as its owners stand. -/
def blockContent (s : State) (ch : Nat) : List Byte :=
  if ch = 4 then
    storeBlock (channelAt s 4) s.cause s.sweepCount s.settings s.keys s.directives.done s.totals s.lanes
  else windowBlock (channelAt s ch) ch s.cause (windowSlots s ch)

/-- R81: the lane table's side of the taking of a STORE block. -/
def reportLanes (ch : Nat) (s : State) : State :=
  if ch = 4 then onLanes (fun t => { t with entries := t.entries.map reportLane }) s else s

/-- R166 to R168: a channel takes its block's content and issues the write. -/
def issueStatus (ch : Nat) (s : State) : State :=
  offerEntry (entryOfBytes (.statusBlock ch) (s.settings.map.statusBase + blockOffset ch) (blockContent s ch))
    (reportLanes ch (onChannel ch contentTaken s))

/-- R166: a channel makes its issue test, and issues its write where it is due. -/
def reportChannel (ch : Nat) (s : State) : State :=
  if issueDue s.settings ch (channelAt s ch) then issueStatus ch s else s

/-- R166, R9: every event ends with the issue tests of the channels, W0 to W3 and then STORE: a write that the event has
made due is issued within it. -/
def reportDue : State → State := whenRunning (forBelow 5 reportChannel)

/-- R166: a dirty channel that has reached its coalesce time issues its write. -/
def coalesceStep (ch : Nat) (s : State) : State :=
  if issueDue s.settings ch (channelAt s ch) && coalesceReached s.settings ch (channelAt s ch) then issueStatus ch s
  else s

/-- R82: the lane table's side of a matching STORE return word. -/
def acknowledgeLanes (s : State) : State :=
  onLanes (fun t => { t with entries := t.entries.map acknowledgeLane }) s

/-- R172: a window channel first hands on the consumed index of bytes 2 and 3. -/
def handConsumed (ch : Nat) (b : Beat) (s : State) : State :=
  if ch = 4 then s else takeConsumed ch (BitVec.ofNat 16 (beatNat b 2 2)) s

/-- R171 to R174: an acting return word of a channel that exists. -/
def takeReturn (ch : Nat) (b : Beat) (s : State) : State :=
  let s' := handConsumed ch b s
  let tag := beatNat b 0 1
  onChannel ch (returnTaken tag) (if ch = 4 ∧ tagMatches tag (channelAt s' 4) then acknowledgeLanes s' else s')

/-- R51, R171: the oldest shown return word is taken; it acts when all strobes are set and the channel exists. -/
def returnStep (s : State) : State :=
  match s.path.shownReturns with
  | [] => s
  | r :: rest =>
    let s' := onPath (fun p => { p with shownReturns := rest }) s
    if beatFull r.beat && (channelAt s r.ch).present then takeReturn r.ch r.beat s' else s'

/-- Take the oldest delivered acknowledgement whose kind satisfies `p`. -/
def takeAck (p : EntryKind → Bool) (s : State) : Option (Ack × State) :=
  (takeFirst (fun a : Ack => p a.kind) s.path.acks).map fun r => (r.1, onPath (fun q => { q with acks := r.2 }) s)

/-- R169: the oldest status write acknowledgement is taken. -/
def statusAckStep (s : State) : State :=
  match takeAck isStatus s with
  | some (⟨.statusBlock ch, okay⟩, s') => onChannel ch (statusAcknowledged (ch == 4) okay) s'
  | _ => s

/-- R36: the oldest write-back acknowledgement is taken. -/
def writeBackAckStep (s : State) : State :=
  match takeAck isWriteBack s with
  | some (⟨.writeBack w slot, okay⟩, s') => slotDone w slot okay (freeHold w slot s')
  | _ => s

/-- R37: the oldest void record acknowledgement is taken. -/
def voidAckStep (s : State) : State :=
  match takeAck isVoid s with
  | some (⟨.voidRecord w slot, okay⟩, s') => slotDone w slot okay s'
  | _ => s

end Sys2Proof.Machine
end

