-- ==== Sys2Proof/Machine/PathFront.lean ====
section
/-! DEFINITION. The path front (chapter 1): acceptance and classing, responses, the arbiter's grant, and the answers of
the DRAM controller. -/

namespace Sys2Proof.Machine

/-! ### Classing a write (R3 to R5) -/

/-- A beat of an accepted write that is not empty: its position in the burst, address, class and content. -/
structure ClassedBeat where
  index : Nat
  addr  : Nat
  cls   : BeatClass
  beat  : Beat
  deriving DecidableEq, Repr

/-- R3: the beats from a position on that are not empty, each classed by its own address. -/
def classBeats (map : WindowMap) (start : BitVec 40) : Nat → List Beat → List ClassedBeat
  | _, [] => []
  | i, b :: bs =>
    if beatEmpty b then classBeats map start (i + 1) bs
    else ⟨i, beatAddr start i, classOf map (beatAddr start i), b⟩ :: classBeats map start (i + 1) bs

/-- Put an intake beat in front of the slot writes made from the beats behind it (R19). -/
def joinSlotWrite (w slot offset : Nat) (b : Beat) : List SlotWrite → List SlotWrite
  | [] => [⟨w, slot, [(offset, b)]⟩]
  | g :: gs =>
    if g.window = w ∧ g.slot = slot then ⟨w, slot, (offset, b) :: g.beats⟩ :: gs
    else ⟨w, slot, [(offset, b)]⟩ :: g :: gs

/-- R19: the slot writes of a write, in beat order. -/
def slotWritesOf : List ClassedBeat → List SlotWrite
  | [] => []
  | c :: cs =>
    match c.cls with
    | .intake w slot offset => joinSlotWrite w slot offset c.beat (slotWritesOf cs)
    | _ => slotWritesOf cs

/-- A run of forwarded beats (R4): the position and address of its first beat, and its beats. -/
structure ForwardRun where
  index : Nat
  addr  : Nat
  beats : List Beat
  deriving DecidableEq, Repr

/-- Put a forwarded beat in front of the runs made from the beats behind it: it joins the next run when it is the beat
just before it and lies in the same aligned 4 KiB block (R4). -/
def joinRun (c : ClassedBeat) : List ForwardRun → List ForwardRun
  | [] => [⟨c.index, c.addr, [c.beat]⟩]
  | r :: rs =>
    if r.index = c.index + 1 ∧ r.addr / 4096 = c.addr / 4096 then ⟨c.index, c.addr, c.beat :: r.beats⟩ :: rs
    else ⟨c.index, c.addr, [c.beat]⟩ :: r :: rs

/-- R4: the runs of plain and status beats of a write. -/
def forwardRunsOf : List ClassedBeat → List ForwardRun
  | [] => []
  | c :: cs =>
    match c.cls with
    | .intake _ _ _ => forwardRunsOf cs
    | _ => joinRun c (forwardRunsOf cs)

/-- R4: a downstream burst of a run. -/
def burstOfRun (r : ForwardRun) : Burst := ⟨.passThrough, r.addr, .write r.beats⟩

/-! ### Responses (R1, R6) -/

/-- The response of a complete transaction. -/
def responseOf (t : UpTxn) : UpResponse := ⟨t.isRead, !t.failed, t.data⟩

/-- R1: complete responses are sent from the front, in acceptance order. -/
def sendResponses : List UpTxn → List UpResponse × List UpTxn
  | [] => ([], [])
  | t :: ts =>
    if t.awaiting = 0 then
      let r := sendResponses ts
      (responseOf t :: r.1, r.2)
    else ([], t :: ts)

/-- R1, R6: send what can be sent. -/
def respond (p : PathFront) : PathFront :=
  { p with
    responses := p.responses ++ (sendResponses p.accepted).1
    accepted := (sendResponses p.accepted).2 }

/-! ### Acceptance (R1, R3 to R7) -/

/-- R5, R19: the slot writes of a write taken in order, each with the status writes it makes due (R166), with whether
one was refused. -/
def takeSlotWrites : List SlotWrite → State → State × Bool
  | [], s => (s, false)
  | sw :: rest, s =>
    let r := takeSlotWrites rest (reportDue (takeSlotWrite sw s))
    (r.1, (slotRefusal s sw.window sw.slot).isSome || r.2)

/-- R3 to R6: a write is accepted and acted on. -/
def acceptWrite (addr : BitVec 40) (beats : List Beat) (s : State) : State :=
  let classed := classBeats s.settings.map addr 0 beats
  let bursts := (forwardRunsOf classed).map burstOfRun
  let r := takeSlotWrites (slotWritesOf classed) s
  onPath (fun p => respond { p with
    stream := p.stream ++ bursts
    accepted := p.accepted ++ [⟨false, bursts.length, r.2, []⟩] }) r.1

/-- R7: a read is accepted and placed whole into the pass-through stream. -/
def acceptRead (addr : BitVec 40) (length : Nat) (s : State) : State :=
  onPath (fun p => { p with
    stream := p.stream ++ [⟨.passThrough, addr.toNat, .read length⟩]
    accepted := p.accepted ++ [⟨true, 1, false, []⟩] }) s

/-- An offered transaction is accepted. -/
def acceptOne (o : Offered) (s : State) : State :=
  match o with
  | .write addr beats => acceptWrite addr beats s
  | .read addr length => acceptRead addr length s

/-- R1: the port is open and fewer than 8 accepted transactions wait for their responses. -/
def canAccept (s : State) : Bool := s.phase == .running && decide (s.path.accepted.length < 8)

/-- R1: offered transactions are accepted in order, each as soon as the conditions hold. -/
def acceptFrom : List Offered → State → State
  | [], s => onPath (fun p => { p with offered := [] }) s
  | o :: os, s =>
    if canAccept s then acceptFrom os (acceptOne o s) else onPath (fun p => { p with offered := o :: os }) s

/-- R1: accept what can be accepted. -/
def acceptOffered (s : State) : State := acceptFrom s.path.offered s

/-- The interconnect offers a transaction (R1). -/
def offerUpstream (o : Offered) (s : State) : State := onPath (fun p => { p with offered := p.offered ++ [o] }) s

/-! ### The arbiter (R9, R10) -/

/-- R10: a burst of the pass-through stream is granted. -/
def grantStream (p : PathFront) : PathFront :=
  match p.stream with
  | b :: rest => { p with stream := rest, outstanding := p.outstanding ++ [b], turnInternal := true }
  | [] => p

/-- R9, R10: the next burst of the head entry is granted; with its last burst the entry leaves the queue. -/
def grantInternal (p : PathFront) : PathFront :=
  match p.queue with
  | e :: rest =>
    match e.bursts with
    | [] => { p with queue := rest }
    | [b] => { p with queue := rest, outstanding := p.outstanding ++ [b], turnInternal := false }
    | b :: more =>
      { p with queue := { e with bursts := more } :: rest, outstanding := p.outstanding ++ [b], turnInternal := false }
  | [] => p

/-- R10: fewer than 16 bursts wait for answers, those issued before a reset among them (log 15). -/
def canGrant (p : PathFront) : Bool := decide (p.abandoned.length + p.outstanding.length < 16)

/-- R10: one grant: when both requesters wait, to the one that holds the turn. -/
def grantOne (p : PathFront) : PathFront :=
  if !canGrant p then p
  else if p.queue.isEmpty then grantStream p
  else if p.stream.isEmpty || p.turnInternal then grantInternal p
  else grantStream p

/-! ### Answers (R6, R8, R11) -/

/-- R11: an answer to a pass-through burst goes to the oldest accepted transaction with a burst not yet answered. -/
def answerTxn (okay : Bool) (data : List Byte) : List UpTxn → List UpTxn
  | [] => []
  | t :: ts =>
    if t.awaiting = 0 then t :: answerTxn okay data ts
    else { t with
      awaiting := t.awaiting - 1
      failed := t.failed || !okay
      data := if t.isRead then t.data ++ data else t.data } :: ts

/-- R8: the channel whose return word stands at an offset of the status window. -/
def returnChannel (offset : Nat) : Option Nat :=
  if 0x280 ≤ offset ∧ offset ≤ 0x2A7 then some ((offset - 0x280) / 8) else none

/-- R8: the directive unit is shown the index word and the ring slots. -/
def shownToDirectives (offset : Nat) : Bool := offset == 0x2A8 || (decide (0x400 ≤ offset) && decide (offset < 0x600))

/-- R8: a beat at an address is shown, by its offset, where it is a status beat. -/
def showBeat (map : WindowMap) (addr : Nat) (b : Beat) (p : PathFront) : PathFront :=
  match classOf map addr with
  | .status offset =>
    match returnChannel offset with
    | some ch => { p with shownReturns := p.shownReturns ++ [⟨ch, b⟩] }
    | none =>
      if shownToDirectives offset then { p with shownDirectives := p.shownDirectives ++ [⟨offset, b⟩] } else p
  | _ => p

/-- R8: the beats of a burst are shown in beat order. -/
def showBeats (map : WindowMap) : Nat → List Beat → PathFront → PathFront
  | _, [], p => p
  | addr, b :: bs, p => showBeats map (addr + 8) bs (showBeat map addr b p)

/-- R8: what an answered pass-through burst shows. -/
def showBurst (map : WindowMap) (b : Burst) (okay : Bool) (p : PathFront) : PathFront :=
  match b.op with
  | .write beats => if okay then showBeats map b.addr beats p else p
  | .read _ => p

/-- R11: the path front's side of an answer to a burst. An internal entry is acknowledged with its last burst, ERROR if
any of its bursts was. -/
def answerPath (map : WindowMap) (b : Burst) (okay : Bool) (data : List Byte) (p : PathFront) : PathFront :=
  match b.origin with
  | .passThrough => respond (showBurst map b okay { p with accepted := answerTxn okay data p.accepted })
  | .internal kind last =>
    if last then { p with entryFailed := false, acks := p.acks ++ [⟨kind, okay && !p.entryFailed⟩] }
    else { p with entryFailed := p.entryFailed || !okay }

/-- R160: of a summary cut by a reset, memory holds only the bursts answered before the reset. -/
def ofSummary (b : Burst) : Bool :=
  match b.origin with
  | .internal kind _ => isSummary kind
  | .passThrough => false

/-- R14: the answer to a burst issued before a reset is discarded; what the burst has written, memory keeps. -/
def abandonedMemory (b : Burst) (okay : Bool) (s : State) : State := if ofSummary b then s else answerMemory b okay s

/-- R11, R14: the DRAM controller answers the oldest burst: the answer to one issued before a reset is discarded, any
other is matched; then the transactions that have come to be acceptable are accepted (R1). -/
def answerStep (okay : Bool) (data : List Byte) (s : State) : State :=
  match s.path.abandoned with
  | b :: rest => abandonedMemory b okay (onPath (fun p => { p with abandoned := rest }) s)
  | [] =>
    match s.path.outstanding with
    | b :: rest =>
      acceptOffered (answerMemory b okay
        (onPath (fun p => answerPath s.settings.map b okay data { p with outstanding := rest }) s))
    | [] => s

end Sys2Proof.Machine
end

