-- ==== Sys2Proof/Machine/TotalsUnit.lean ====
section
/-! DEFINITION. The totals unit (chapter 8) and the directive unit (chapter 9): the close of a batch, its summary, and
the directives. -/

namespace Sys2Proof.Machine

/-! ### The close (R153 to R158) -/

/-- R140, R154: the roll, where one is asked. -/
def rollAnswerOf (roll : Bool) (k : KeyUnit) : RollAnswer :=
  if !roll then .notAsked else if k.store.next.state = .loaded then .promoted k.store.next.id else .noNextKey

/-- R140: a roll promotes a LOADED ACQ_NEXT and requests a key store write. -/
def rollStep (roll : Bool) (s : State) : State :=
  if roll && s.keys.store.next.state == .loaded then requestKeyWrite (keyChange promoteKey s) else s

/-- R153: the totals unit at the start of a close. -/
def openNextBatch (answer : RollAnswer) (t : Totals) : Totals where
  batch := Batch.fresh (nextBatchNumber t.batch.number) false
  lastClosed := t.batch.number
  summaryReady := false
  lastSummary := t.lastSummary
  close := some ⟨t.batch, answer, none, none⟩

/-- R153 to R155: the start of a close: snapshot, roll, next batch, and the request of the batch number write. -/
def startClose (roll : Bool) (s : State) : State :=
  requestWrite (.batchNumber s.totals.batch.number)
    (onTotals (openNextBatch (rollAnswerOf roll s.keys)) (rollStep roll s))

/-- R155, R156: the batch number write has ended: its outcome is kept and the summary is built. -/
def numberWritten (completed : Bool) (s : State) : State :=
  onTotals (fun t => { t with
    close := t.close.map fun c => { c with
      numberOutcome := some completed
      summary := some (buildSummary c.snapshot s.settings.storeNumber s.keys.store.batch) } }) s

/-- R157: the result of a close. -/
def closeResult (c : Close) : DirectiveResult :=
  if c.numberOutcome = some false then .storeFault else if c.roll = .noNextKey then .noNextKey else .done

/-- R157: the built summary is issued. -/
def summaryStep (s : State) : State :=
  match s.totals.close.bind (·.summary) with
  | some bytes =>
    offerEntry (entryOfBytes .summary (s.settings.map.statusBase + 0x600) bytes)
      (onTotals (fun t => { t with close := t.close.map fun c => { c with summary := none } }) s)
  | none => s

/-- R12: the WRITE_FAULT flag of STORE is raised by an ERROR. -/
def storeFaultUnless (okay : Bool) (s : State) : State :=
  if okay then s else onChannel 4 (raiseWriteFault true) s

/-- R157: the totals unit at the acknowledgement of the summary. -/
def summaryWritten (c : Close) (t : Totals) : Totals :=
  { t with lastSummary := c.snapshot.number, summaryReady := true, close := none }

/-- The directive in progress has its result (R179, R180). -/
def giveResult (r : DirectiveResult) : State → State :=
  onDirectives fun d => { d with inProgress := d.inProgress.map fun p => { p with result := some r } }

/-- R157: the summary's acknowledgement is taken: recorded, STORE dirty, and the close ended with its result. -/
def summaryAckStep (s : State) : State :=
  match takeAck isSummary s with
  | some (a, s') =>
    match s'.totals.close with
    | some c =>
      giveResult (closeResult c) (storeFaultUnless a.okay (onChannel 4 dirtyOn (onTotals (summaryWritten c) s')))
    | none => s'
  | none => s

/-! ### The directive unit (R176 to R181) -/

/-- R177: the ring slot of a beat's offset. -/
def ringSlotOf (offset : Nat) : Nat := (offset - 0x400) / 32

/-- R177: the strobed bytes of a beat enter a capture. -/
def captureBeat (offset : Nat) (b : Beat) (c : List (Option Byte)) : List (Option Byte) :=
  (beatCells ((offset - 0x400) % 32) b).foldl (fun l x => updAt l x.1 fun _ => some x.2) c

/-- R177: a shown slot beat is captured. -/
def captureStep (s : State) : State :=
  match s.path.shownDirectives with
  | ⟨offset, b⟩ :: rest =>
    if offset = 0x2A8 then s
    else
      onDirectives (fun d => { d with captures := updAt d.captures (ringSlotOf offset) (captureBeat offset b) })
        (onPath (fun p => { p with shownDirectives := rest }) s)
  | [] => s

/-- R178: the producer index that an acting index word sets. -/
def producerFor (d : DirectiveUnit) (p : BitVec 16) : BitVec 16 :=
  if d.inProgress.isSome ∧ p = d.done then d.done + 1
  else if (p - d.done).toNat ≤ 16 then p else d.done + 16

/-- R51, R178: the shown index word is taken; it acts when all strobes are set. -/
def indexStep (s : State) : State :=
  match s.path.shownDirectives with
  | ⟨offset, b⟩ :: rest =>
    if offset = 0x2A8 then
      let s' := onPath (fun p => { p with shownDirectives := rest }) s
      if beatFull b then
        onDirectives (fun d => { d with producer := producerFor d (BitVec.ofNat 16 (beatNat b 0 2)) }) s'
      else s'
    else s
  | [] => s

/-- R179: a directive can be taken. -/
def directiveDue (d : DirectiveUnit) : Bool := d.done != d.producer && d.inProgress.isNone

/-- R176: the slot of the directive at index done. -/
def doneSlot (d : DirectiveUnit) : Nat := d.done.toNat % 16

/-- The capture of that slot. -/
def doneCapture (d : DirectiveUnit) : List (Option Byte) := d.captures.getD (doneSlot d) captureEmpty

/-- A byte of a capture. -/
def captureByte (c : List (Option Byte)) (i : Nat) : Byte := (c.getD i none).getD 0

/-- R179: bytes 0 to 7 are all present. -/
def captureWhole (c : List (Option Byte)) : Bool := (List.range 8).all fun i => (c.getD i none).isSome

/-- What the directive at index done is (R179 to R181). -/
inductive DirectiveCode where
  | incomplete | batchClose | laneSuspend | laneResume | laneForget | statusNow | unknown
  deriving DecidableEq, Repr

/-- R53, R179: the code of a capture. -/
def codeOf (c : List (Option Byte)) : DirectiveCode :=
  if !captureWhole c then .incomplete
  else match (captureByte c 0).toNat with
    | 1 => .batchClose
    | 2 => .laneSuspend
    | 3 => .laneResume
    | 4 => .laneForget
    | 5 => .statusNow
    | _ => .unknown

/-- R179: the take: the capture is emptied and the directive is in progress, with its result where it is known. -/
def takeDirective (result : Option DirectiveResult) : State → State :=
  onDirectives fun d => { d with
    captures := updAt d.captures (doneSlot d) fun _ => captureEmpty
    inProgress := some ⟨result, false⟩ }

/-- R69: the suspended flag set or cleared. -/
def setSuspended (b : Bool) (l : Lane) : Lane := { l with suspended := b }

/-- R181: a directive on a lane: BAD_LANE above 47, else its effect and DONE. -/
def laneDirective (lane : Nat) (effect : State → State) (s : State) : State :=
  if 47 < lane then takeDirective (some .badLane) s else effect (takeDirective (some .done) s)

/-- R181: STATUS_NOW makes every channel that exists owe a write. -/
def oweAll : State → State := onReport fun r => r.map oweOn

/-- R179 to R181: a directive of a code is executed. -/
def runDirective (code : DirectiveCode) (s : State) : State :=
  let c := doneCapture s.directives
  let lane := (captureByte c 2).toNat
  match code with
  | .incomplete => takeDirective (some .incomplete) s
  | .unknown => takeDirective (some .unknownCode) s
  | .statusNow => oweAll (takeDirective (some .done) s)
  | .laneSuspend => laneDirective lane (onLane lane (setSuspended true)) s
  | .laneResume => laneDirective lane (onLane lane (setSuspended false)) s
  | .laneForget => laneDirective lane (forgetOn lane) s
  | .batchClose => startClose ((captureByte c 1).getLsbD 0) (takeDirective none s)

/-- R179: the directive at index done is taken, where one can be and has this code. -/
def directiveStep (code : DirectiveCode) (s : State) : State :=
  if directiveDue s.directives && codeOf (doneCapture s.directives) == code then runDirective code s else s

/-- R179: the address of the beat that holds byte 3 of the ring slot at index done. -/
def resultAddr (s : State) : Nat := s.settings.map.statusBase + 0x400 + 32 * doneSlot s.directives

/-- R179: the result write is issued once the result is known. -/
def resultStep (s : State) : State :=
  match s.directives.inProgress with
  | some ⟨some r, false⟩ =>
    offerEntry (entryOfResult (resultAddr s) (byteOf (resultCode r)))
      (onDirectives (fun d => { d with inProgress := some ⟨some r, true⟩ }) s)
  | _ => s

/-- R179: the result's acknowledgement is taken: the done index advances and STORE becomes dirty. -/
def resultAckStep (s : State) : State :=
  match takeAck isResult s with
  | some (a, s') =>
    storeFaultUnless a.okay (onChannel 4 dirtyOn
      (onDirectives (fun d => { d with done := d.done + 1, inProgress := none }) s'))
  | none => s

end Sys2Proof.Machine
end

