-- ==== Sys2Proof/Machine/Port.lean ====
section
/-! DEFINITION. The provisioning port (chapter 10) and the ends of store writes: frames, answers, the commands' checks
and effects, and what the requester of a store write does at its end (R130). -/

namespace Sys2Proof.Machine

/-! ### Answers (R183) -/

/-- The answer statuses (R183's table, codes 0 to 10). -/
inductive PortStatus where
  | noAnswer | ok | busy | badFrame | badCommand | badSlot | badCheck | badId | slotBusy | locked | badGroup
  deriving DecidableEq, Repr

/-- R183: status codes. -/
def statusCode : PortStatus → Nat
  | .noAnswer => 0 | .ok => 1 | .busy => 2 | .badFrame => 3 | .badCommand => 4 | .badSlot => 5 | .badCheck => 6
  | .badId => 7 | .slotBusy => 8 | .locked => 9 | .badGroup => 10

/-- R183: an answer of a status byte alone. -/
def statusAnswer (st : PortStatus) : List Byte := [byteOf (statusCode st)]

/-- R183: what a frame of `n` bytes shifts out: the waiting answer, NO_ANSWER where none waits, then zeros. -/
def frameShifts (n : Nat) (p : Port) : List Byte := padTo n (p.answer.getD (statusAnswer .noAnswer))

/-- R183: the waiting answer is shifted out and the frame's own answer waits. -/
def answerFrame (n : Nat) (answer : List Byte) : State → State :=
  onPort fun p => { p with shiftedOut := frameShifts n p, answer := some answer }

/-- R182: a frame of `n` bytes met while the port is closed: zeros are shifted out, and nothing else happens. -/
def closedFrame (n : Nat) : State → State := onPort fun p => { p with shiftedOut := zeros n }

/-- The bytes of a listed frame: the command byte, the length byte and what was clocked after them. -/
def frameBytes (clocked : List Byte) : Nat := clocked.length + 2

/-! ### The judgement of a frame (R185) -/

/-- R185: the answers that come before a command's own checks, for a whole frame of a command of one payload length. -/
def frameRefusal (wanted : Nat) (length : Byte) (p : Port) : Option PortStatus :=
  if length.toNat ≠ wanted then some .badFrame
  else if p.outstanding then some .busy
  else none

/-- R185: a command that is acted on unless the frame is refused. -/
def judgedFrame (wanted : Nat) (length : Byte) (clocked : List Byte) (act : State → State) (s : State) : State :=
  match frameRefusal wanted length s.port with
  | some st => answerFrame (frameBytes clocked) (statusAnswer st) s
  | none => act s

/-- R184: the command's write becomes the port's outstanding write. -/
def holdOutstanding : State → State := onPort fun p => { p with outstanding := true }

/-! ### QUERY (R186) -/

/-- R186: QUERY reads and changes nothing but the answer. -/
def queryFrame (clocked : List Byte) (s : State) : State :=
  answerFrame (frameBytes clocked) (queryAnswer s.settings s.keys s.port s.nv) s

/-! ### LOAD_KEY (R132, R133, R187) -/

/-- The status of a load's answer (R187). -/
def loadStatus : LoadAnswer → PortStatus
  | .badSlot => .badSlot | .badCheck => .badCheck | .badId => .badId | .slotBusy => .slotBusy | .ok => .ok

/-- The fields of a LOAD_KEY payload (R185). -/
structure LoadPayload where
  slot  : Nat
  id    : Nat
  key   : List Byte
  check : List Byte
  deriving DecidableEq, Repr

/-- R185: slot number (1), key id (1), key (16), check value (3). -/
def loadPayload (clocked : List Byte) : LoadPayload :=
  ⟨(clocked.getD 0 0).toNat, (clocked.getD 1 0).toNat, slice clocked 2 16, slice clocked 18 3⟩

/-- The key unit's answer to a load. -/
def loadAnswer (s : State) (p : LoadPayload) : LoadAnswer := judgeLoad s.keys.store p.slot p.id p.key p.check

/-- R133, R184: an OK load takes effect at once, and its key store write is the port's outstanding write. -/
def acceptLoad (p : LoadPayload) (s : State) : State :=
  holdOutstanding (requestWrite (.keyStore none true) (keyChange (loadSlot p.slot p.id p.key p.check) s))

/-- R187: the load is judged by the key unit, which acts on an OK one. -/
def loadKeyFrame (clocked : List Byte) (s : State) : State :=
  let p := loadPayload clocked
  let s' := answerFrame (frameBytes clocked) (statusAnswer (loadStatus (loadAnswer s p))) s
  if loadAnswer s p = .ok then acceptLoad p s' else s'

/-! ### LOAD_IMAGE and LOCK_IMAGE (R189) -/

/-- R188: 16-bit words, little-endian. -/
def wordsOf : List Byte → List (BitVec 16)
  | a :: b :: rest => BitVec.ofNat 16 (leNat [a, b]) :: wordsOf rest
  | _ => []

/-- R188: the sum of all words is 0 modulo 65536. -/
def groupSound (words : List (BitVec 16)) : Bool := (words.map (·.toNat)).sum % 65536 == 0

/-- The group number that a LOAD_IMAGE payload names. -/
def imageGroupNumber (clocked : List Byte) : Nat := (clocked.getD 0 0).toNat

/-- The payload length that a group calls for (R185). -/
def imageLength (group : Nat) : Nat := 1 + 2 * groupWordCounts.getD group 0

/-- The words that a LOAD_IMAGE payload of a group carries. -/
def imageWords (length : Byte) (clocked : List Byte) : List (BitVec 16) := wordsOf ((clocked.take length.toNat).drop 1)

/-- R185, R189: the answer to a LOAD_IMAGE. A frame without a group byte is BAD_FRAME (log 20). -/
def imageAnswer (length : Byte) (clocked : List Byte) (s : State) : PortStatus :=
  if length.toNat = 0 then .badFrame
  else if 4 < imageGroupNumber clocked then .badGroup
  else if length.toNat ≠ imageLength (imageGroupNumber clocked) then .badFrame
  else if s.port.outstanding then .busy
  else if s.nv.locked then .locked
  else if !groupSound (imageWords length clocked) then .badCheck
  else .ok

/-- R189: an OK LOAD_IMAGE requests the write of its group. -/
def loadImageFrame (length : Byte) (clocked : List Byte) (s : State) : State :=
  let s' := answerFrame (frameBytes clocked) (statusAnswer (imageAnswer length clocked s)) s
  if imageAnswer length clocked s = .ok then
    holdOutstanding (requestWrite (.imageGroup (imageGroupNumber clocked) (imageWords length clocked)) s')
  else s'

/-- R189: LOCK_IMAGE is answered OK, and requests the lock's write unless the image is locked. -/
def lockFrame (clocked : List Byte) (s : State) : State :=
  let s' := answerFrame (frameBytes clocked) (statusAnswer .ok) s
  if s.nv.locked then s' else holdOutstanding (requestWrite .imageLock s')

/-! ### ERASE (R145, R190) -/

/-- R145: the key unit takes the erase: it is key attention, the ends of the reservation writes in progress and waiting
raise no working mark, and a waiting key request ends with NO_KEY. -/
def eraseStep (s : State) : State :=
  let s' := oweStore (onKeys eraseKeys (onNv voidReservations s))
  match s.keys.waiting, workHold s with
  | true, some h => endWaiting .noKey h s'
  | _, _ => s'

/-- R190: ERASE is answered OK, takes effect in the key unit, and requests the erase write. -/
def eraseFrame (clocked : List Byte) (s : State) : State :=
  holdOutstanding (requestWrite .erase (eraseStep (answerFrame (frameBytes clocked) (statusAnswer .ok) s)))

/-! ### Frames (R182, R185) -/

/-- R185: a frame of a command byte, a length byte and what was clocked after them, at an open port: BAD_FRAME where it is
cut short; else the command of the byte by the table, with its payload length, or BAD_COMMAND. -/
def actOnCommand (command length : Byte) (clocked : List Byte) (s : State) : State :=
  if clocked.length < length.toNat then answerFrame (frameBytes clocked) (statusAnswer .badFrame) s
  else match command.toNat with
    | 0x01 => judgedFrame 0 length clocked (queryFrame clocked) s
    | 0x02 => judgedFrame 21 length clocked (loadKeyFrame clocked) s
    | 0x03 => loadImageFrame length clocked s
    | 0x04 => judgedFrame 0 length clocked (lockFrame clocked) s
    | 0x05 => judgedFrame 0 length clocked (eraseFrame clocked) s
    | _ => answerFrame (frameBytes clocked) (statusAnswer .badCommand) s

/-- R185: a frame's bytes at an open port. -/
def actOnFrame : List Byte → State → State
  | command :: length :: clocked, s => actOnCommand command length clocked s
  | bytes, s => answerFrame bytes.length (statusAnswer .badFrame) s

/-- R182, R183: the bytes clocked in a frame: none are ignored; a closed port shifts out zeros and ignores the frame; an
open one acts on it. -/
def takeFrame (bytes : List Byte) (s : State) : State :=
  if bytes = [] then s else if s.phase = .running then actOnFrame bytes s else closedFrame bytes.length s

/-! ### The end of a store write (R130, R131, R136, R155, R184) -/

/-- R184: the port records how its outstanding write ended. -/
def portOutcome (completed : Bool) : State → State :=
  onPort fun p => { p with outstanding := false, lastOutcome := if completed then .completed else .failed }

/-- R130: the write in progress ends, and the store holds it when it completed. -/
def endWriting (w : StoreWrite) (completed : Bool) (n : NvStore) : NvStore :=
  { (if completed then writeLands w n else n) with writing := none }

/-- R131, R136: the end of a key store write: COUNTER_STORE and the mark; the port's outcome where it was the port's;
and the waiting request is judged where it was a reservation. -/
def keyWriteEnded (r : Option Reservation) (forPort completed : Bool) (s : State) : State :=
  let s' := keyChange (endKeyWrite completed r) s
  let s'' := if forPort then portOutcome completed s' else s'
  if r.isSome then judgeWaiting completed s'' else s''

/-- R130: the requester acts on the outcome of its write. -/
def requesterActs (w : StoreWrite) (completed : Bool) (s : State) : State :=
  match w with
  | .keyStore _ r forPort => keyWriteEnded r forPort completed s
  | .batchNumber _ => numberWritten completed s
  | .imageGroup _ _ => portOutcome completed s
  | .imageLock => portOutcome completed s
  | .erase => keyWriteEnded none true completed s

/-- R130: the write in progress completes or fails. -/
def endStoreWrite (completed : Bool) (s : State) : State :=
  match s.nv.writing with
  | some w => requesterActs w completed (onNv (endWriting w completed) s)
  | none => s

end Sys2Proof.Machine
end

