-- ==== Sys2Proof/Machine/StartUp.lean ====
section
/-! DEFINITION. Reset and start-up (chapter 10): what a reset drops and keeps, the reading of the stored image (R191),
the window map (R192), and the end of start-up (R193). -/

namespace Sys2Proof.Machine

/-! ### Reading a group (R188, R191) -/

/-- The words of a stored group. -/
def groupOf (n : NvStore) (g : Nat) : List (BitVec 16) := n.groups.getD g []

/-- One word of a group. -/
def wordAt (words : List (BitVec 16)) (i : Nat) : Nat := (words.getD i 0).toNat

/-- A 32-bit field of two words, the low word first (DEDUCED, log 24). -/
def word32 (words : List (BitVec 16)) (i : Nat) : Nat := wordAt words i + 65536 * wordAt words (i + 1)

/-- A base: the 28 low bits of a two-word field, times 4096; the bits above them are ignored (R188). -/
def baseAt (words : List (BitVec 16)) (i : Nat) : Nat := word32 words i % 2 ^ 28 * 4096

/-- An enable word: bit 0 alone counts (R188). -/
def enableAt (words : List (BitVec 16)) (i : Nat) : Bool := wordAt words i % 2 == 1

/-- R191: the start-up outcome of a group; group 0 is always read. -/
def groupOutcome (n : NvStore) (g : Nat) : GroupOutcome :=
  if g ≠ 0 ∧ !n.control.getLsbD g then .defaulted
  else if groupSound (groupOf n g) then .loaded
  else .checkFailed

/-- R191: a field of a LOADED group, or its default. -/
def fieldOf {α : Type} (n : NvStore) (g : Nat) (loaded default : α) : α :=
  if groupOutcome n g = .loaded then loaded else default

/-! ### Clamping (R191's table) -/

/-- The nearest value from `lo` to `hi`. -/
def clampTo (lo hi v : Nat) : Nat := max lo (min hi v)

/-- R191: slot size. -/
def clampSlotSize (v : Nat) : Nat := if 512 ≤ v then 512 else 256

/-- R191: slot count, the largest power of two from 16 to 256 not above the value, 16 below it. -/
def clampSlotCount (v : Nat) : Nat :=
  if v < 32 then 16 else if v < 64 then 32 else if v < 128 then 64 else if v < 256 then 128 else 256

/-- R191: sweep period. -/
def clampSweepPeriod (v : Nat) : Nat := if v < 15 then 10 else if v < 30 then 20 else if v < 60 then 40 else 80

/-- R191: a base lowered so that a window of a size ends at 2^40 at most. -/
def clampBase (base size : Nat) : Nat := if 2 ^ 40 < base + size then 2 ^ 40 - size else base

/-! ### The window map (R192) -/

/-- An intake window of group 1, clamped. -/
def imageWindow (words : List (BitVec 16)) (w : Nat) : IntakeWindow :=
  let size := clampSlotSize (wordAt words (5 * w + 3))
  let count := clampSlotCount (wordAt words (5 * w + 4))
  ⟨enableAt words (5 * w), clampBase (baseAt words (5 * w + 1)) (count * size), size, count⟩

/-- The four windows that group 1 gives, all disabled where it is not LOADED. -/
def imageWindows (n : NvStore) : List IntakeWindow :=
  fieldOf n 1 ((List.range 4).map (imageWindow (groupOf n 1))) (List.replicate 4 IntakeWindow.disabled)

/-- Two byte ranges, each a base and a size, share a byte. -/
def rangesMeet (a b : Nat × Nat) : Bool := decide (a.1 < b.1 + b.2) && decide (b.1 < a.1 + a.2)

/-- R192: the windows judged in order against the ranges that have entered the map: the windows as they enter it, and
the overlap bits. -/
def enterWindows : List (Nat × Nat) → List IntakeWindow → List IntakeWindow × List Bool
  | _, [] => ([], [])
  | entered, w :: ws =>
    let range := (w.base, windowSpan w)
    if !w.enabled then
      let r := enterWindows entered ws
      (w :: r.1, false :: r.2)
    else if entered.any (rangesMeet range) then
      let r := enterWindows entered ws
      ({ w with enabled := false } :: r.1, true :: r.2)
    else
      let r := enterWindows (range :: entered) ws
      (w :: r.1, false :: r.2)

/-- R191: group 0 enables the status window. -/
def imageStatusEnabled (n : NvStore) : Bool := fieldOf n 0 (enableAt (groupOf n 0) 2) false

/-- R191: the status window's base. -/
def imageStatusBase (n : NvStore) : Nat := fieldOf n 0 (baseAt (groupOf n 0) 3) 0

/-- R192: what enters the map before the intake windows. -/
def statusRange (n : NvStore) : List (Nat × Nat) :=
  if imageStatusEnabled n then [(imageStatusBase n, 4096)] else []

/-- R192: the intake windows of the map, and the overlap bits. -/
def mapWindows (n : NvStore) : List IntakeWindow × List Bool := enterWindows (statusRange n) (imageWindows n)

/-! ### The settings (R191) -/

/-- R191: a lane policy word: bit 0 clear, bit 1 sealed. -/
def policyOf (word : BitVec 16) : Kinds := ⟨word.getLsbD 0, word.getLsbD 1⟩

/-- A field of group 3: clamped where the group is LOADED, else its default. -/
def timingField (n : NvStore) (i lo hi default : Nat) : Nat :=
  fieldOf n 3 (clampTo lo hi (wordAt (groupOf n 3) i)) default

/-- R191, R192: the settings that the stored image gives. -/
def imageSettings (n : NvStore) : Settings where
  map := ⟨(mapWindows n).1, imageStatusEnabled n, imageStatusBase n⟩
  storeNumber := fieldOf n 0 (word32 (groupOf n 0) 0) 0
  priorities := fieldOf n 2 ((List.range 8).map fun c => min 3 (wordAt (groupOf n 2) c)) Settings.defaults.priorities
  sweepPeriod := fieldOf n 3 (clampSweepPeriod (wordAt (groupOf n 3) 0)) 40
  holdExpiry := timingField n 1 1 15 3
  confirmTimeout := timingField n 2 1 255 50
  silenceThreshold := timingField n 3 1 255 250
  coalesceCount := timingField n 4 1 64 8
  coalesceTime := timingField n 5 0 255 1
  storeCoalesceTime := timingField n 6 0 255 0
  warnThreshold := fieldOf n 3 (word32 (groupOf n 3) 7) 1000000
  policies := fieldOf n 4 ((List.range 48).map fun l => policyOf ((groupOf n 4).getD l 0)) Settings.defaults.policies
  outcomes := (List.range 5).map (groupOutcome n)
  overlap := (mapWindows n).2

/-! ### A reset (R14, R41, R57, R84, R111, R130, R146, R158, R162, R176, R184) -/

/-- R14: the path front drops its state; what is offered stays offered (R1), the responses sent stay sent, and the
answers to bursts issued before will be discarded. -/
def resetPath (p : PathFront) : PathFront :=
  { PathFront.reset with
    offered := p.offered
    responses := p.responses
    abandoned := p.abandoned ++ p.outstanding }

/-- R130: a reset drops the requests; a write in progress is cut, and has landed or not (a free value, log 7). -/
def resetNv (lands : Bool) (n : NvStore) : NvStore :=
  match n.writing with
  | some w => { (if lands then writeLands w n else n) with requests := [], writing := none }
  | none => { n with requests := [] }

/-- One free value is used by each cut write. -/
def freeAfterReset (s : State) : Nat := if s.nv.writing.isSome then s.freeCount + 1 else s.freeCount

/-- A reset: every volatile piece at its reset value. The stored image, the memory, the queue of commands and what
stands outside the part are kept. -/
def resetPart (phase : Phase) (cause : ResetCause) (s : State) : State :=
  let nv := resetNv (Config.cutWriteLands s.freeCount) s.nv
  { State.reset with
    phase := phase
    cause := cause
    path := resetPath s.path
    totals := Totals.reset nv.lastClosed
    nv := nv
    dram := s.dram
    freeCount := freeAfterReset s
    pending := s.pending }

/-! ### The end of start-up (R193) -/

/-- R15: the slot table of a window: every slot of an enabled window FREE. -/
def startSlots (w : IntakeWindow) : WindowSlots :=
  ⟨if w.enabled then List.replicate w.count .free else [], 0, 0, 0⟩

/-- R162: STORE exists when the status window is enabled, a window channel when its window is enabled too. -/
def channelExists (map : WindowMap) (ch : Nat) : Bool :=
  map.statusEnabled && (decide (ch = 4) || (windowAt map ch).enabled)

/-- R162, R166: the channels at the end of start-up; each that exists owes a write. -/
def startChannels (map : WindowMap) : List Channel :=
  (List.range 5).map fun ch => oweOn (Channel.reset (channelExists map ch))

/-- R193: start-up ends: every block begins with the settings that the stored image gives. -/
def startBlocks (s : State) : State :=
  { s with
    phase := .running
    settings := imageSettings s.nv
    intake := { Intake.reset with windows := (imageSettings s.nv).map.intake.map startSlots }
    keys := startKeys s.nv.keys
    totals := Totals.reset s.nv.lastClosed
    report := startChannels (imageSettings s.nv).map
    port := Port.reset }

/-- R193, R13, R146, R57: the store write of a start-up exhaustion is requested, and each channel issues its first block,
from the blocks' reset states. -/
def openPorts (s : State) : State :=
  reportDue (if exhaustedAtStart s.nv.keys then requestKeyWrite (startBlocks s) else startBlocks s)

/-- R193, R1, R13: then what waits at the upstream port is accepted. -/
def endStartUp (s : State) : State := acceptOffered (openPorts s)

end Sys2Proof.Machine
end

