-- ==== Sys2Proof/Machine/Settle.lean ====
section
/-! DEFINITION. The sweep, and the at-once steps: what the rules let happen "at once" or "within that same event" (R9,
R29, R31, R66, R78, R87, R130, R157, R166, R179) finishes before any other event is taken, in one fixed order
(DESIGN CHOICE, log 3). -/

namespace Sys2Proof.Machine

/-! ### The sweep (R28, R30, R78, R131, R165) -/

/-- R28: the sweep count rises and every block takes the sweep: gap ages, silence counts, sweeps since dirty, and the
key unit's retry. -/
def sweepStep (s : State) : State :=
  retryWrite
    (onReport (fun r => r.map sweepOn)
      (onLanes (fun t => { t with entries := t.entries.map (sweepLane s.settings.silenceThreshold) })
        (onIntake (fun i => { i with windows := i.windows.map gapSweep })
          { s with sweepCount := s.sweepCount + 1 })))

/-! ### What a sweep makes due -/

/-- R29: every hold that has reached E expires, in order. -/
def expireAll (s : State) : State := forBelow s.intake.holds.length (fun _ => expireNext) s

/-- R29, R31, R66, R78: everything that a sweep has made due. -/
def finishSweep (s : State) : State :=
  forBelow 48 silentLane (forBelow 48 timeoutLane (forBelow 4 fillGap (expireAll s)))

/-- R29, R31, R66, R78: something that a sweep has made due is left. -/
def sweepPending (s : State) : Bool :=
  (nextExpiring s).isSome || (List.range 4).any (gapDue s) ||
    (List.range 48).any (fun lane => confirmExpired s.sweepCount (laneAt s lane) || (laneAt s lane).silentDue)

/-- R9: the void records of a sweep come before its status blocks, so the channels make their issue tests when all that
the sweep has made due is finished. -/
def reportOnceSwept (s : State) : State := if sweepPending s then s else reportDue s

/-! ### The at-once steps, in their fixed order -/

/-- R179: the directive unit takes the next directive, whatever its code. -/
def takeDueDirective (s : State) : State :=
  if directiveDue s.directives then runDirective (codeOf (doneCapture s.directives)) s else s

/-- R9, then what a sweep has made due. -/
def settleSweep (s : State) : State := finishSweep (addWaiting s)

/-- R166: then the issue tests. -/
def settleReports (s : State) : State := reportDue (settleSweep s)

/-- R87: then the engine's take. -/
def settleTake (s : State) : State := takeNext (settleReports s)

/-- R179: then the next directive, with the status writes it makes due. -/
def settleDirective (s : State) : State := reportDue (takeDueDirective (settleTake s))

/-- R130: then the next store write begins. -/
def settleStore (s : State) : State := beginNextWrite (settleDirective s)

/-- R157: then the built summary. -/
def settleSummary (s : State) : State := summaryStep (settleStore s)

/-- R179: and the directive's result. -/
def settleSteps (s : State) : State := resultStep (settleSummary s)

/-- Finish what is due before another event is taken. Before start-up has ended nothing is. -/
def settle : State → State := whenRunning settleSteps

/-- An event of the part: what is due is finished, the event takes place, and the channels make their issue tests
(R166). -/
def event (f : State → State) (s : State) : State := reportDue (f (settle s))

end Sys2Proof.Machine
end

