-- ==== Sys2Proof/Machine/AckCommands.lean ====
section
/-! DEFINITION. The taking of the acknowledgements of the part's own writes (R11, R12). -/

namespace Sys2Proof.Machine

/-- WRITE_BACK_ACK (R36, R38). -/
def execWriteBackAck (s : State) : Host.Outcome State Fault Refusal :=
  .next (event writeBackAckStep s)

/-- VOID_RECORD_ACK (R37, R38). -/
def execVoidRecordAck (s : State) : Host.Outcome State Fault Refusal :=
  .next (event voidAckStep s)

/-- STATUS_WRITE_ACK (R169): the issue test is made within it. -/
def execStatusWriteAck (s : State) : Host.Outcome State Fault Refusal :=
  .next (event statusAckStep s)

/-- SUMMARY_ACK (R157). -/
def execSummaryAck (s : State) : Host.Outcome State Fault Refusal :=
  .next (event summaryAckStep s)

/-- DIRECTIVE_RESULT_ACK (R179). -/
def execDirectiveResultAck (s : State) : Host.Outcome State Fault Refusal :=
  .next (event resultAckStep s)

end Sys2Proof.Machine
end

