-- ==== Sys2Proof/Machine/DirectiveCommands.lean ====
section
/-! DEFINITION. The directives (R179 to R181): the directive at index done is taken when it is of the command's code.
What is due before it in the fixed order of the at-once steps comes first (log 3). -/

namespace Sys2Proof.Machine

/-- R179, R166: the take of a directive of a code, with the status writes it makes due. -/
def directiveCommand (code : DirectiveCode) (s : State) : State :=
  reportDue (directiveStep code (whenRunning settleTake s))

/-- BATCH_CLOSE (R180, R153 to R155, R140). -/
def execBatchClose (s : State) : Host.Outcome State Fault Refusal :=
  .next (directiveCommand .batchClose s)

/-- LANE_SUSPEND (R69, R181). -/
def execLaneSuspend (s : State) : Host.Outcome State Fault Refusal :=
  .next (directiveCommand .laneSuspend s)

/-- LANE_RESUME (R69, R181). -/
def execLaneResume (s : State) : Host.Outcome State Fault Refusal :=
  .next (directiveCommand .laneResume s)

/-- LANE_FORGET (R70, R181). -/
def execLaneForget (s : State) : Host.Outcome State Fault Refusal :=
  .next (directiveCommand .laneForget s)

/-- STATUS_NOW (R181). -/
def execStatusNow (s : State) : Host.Outcome State Fault Refusal :=
  .next (directiveCommand .statusNow s)

/-- UNKNOWN_CODE (R181). -/
def execUnknownCode (s : State) : Host.Outcome State Fault Refusal :=
  .next (directiveCommand .unknown s)

/-- INCOMPLETE (R179). -/
def execIncomplete (s : State) : Host.Outcome State Fault Refusal :=
  .next (directiveCommand .incomplete s)

end Sys2Proof.Machine
end

