-- ==== Sys2Proof/Machine/EngineCommands.lean ====
section
/-! DEFINITION. The engine's take and its work (R87 to R105), and the entries that the part's blocks issue (R9). What is
due before an at-once step in their fixed order comes first (log 3). -/

namespace Sys2Proof.Machine

/-- ENGINE_TAKE (R87 to R105): the idle engine takes an entry; with a record in work, the engine goes on to its next
stage (log 22). -/
def execEngineTake (s : State) : Host.Outcome State Fault Refusal :=
  .next (if s.engine.work = none then takeNext (whenRunning settleReports s) else event stageStep s)

/-- WRITE_BACK_ISSUE (R106, R35). -/
def execWriteBackIssue (s : State) : Host.Outcome State Fault Refusal :=
  .next (issueStep isWriteBack (event issueWriteBack) s)

/-- VOID_RECORD_ISSUE (R9, R31): a void record that waited for room is added, when it is its turn. -/
def execVoidRecordIssue (s : State) : Host.Outcome State Fault Refusal :=
  .next (addLongestWaiting isVoid s)

/-- STATUS_WRITE_ISSUE (R166 to R168). The channels before it come first (R9). -/
def execStatusWriteIssue (ch : ChannelId) (s : State) : Host.Outcome State Fault Refusal :=
  .next (issueStep (isStatusOf ch)
    (fun s => reportChannel ch (forBelow ch reportChannel (whenRunning settleSweep s))) s)

/-- SUMMARY_ISSUE (R157). -/
def execSummaryIssue (s : State) : Host.Outcome State Fault Refusal :=
  .next (issueStep isSummary (whenRunning settleSummary) s)

/-- DIRECTIVE_RESULT_ISSUE (R179). -/
def execDirectiveResultIssue (s : State) : Host.Outcome State Fault Refusal :=
  .next (issueStep isResult settle s)

end Sys2Proof.Machine
end

