-- ==== Sys2Proof/Machine/MemoryCommands.lean ====
section
/-! DEFINITION. The commands of the memory path (chapter 1), and the taking of status words (chapter 9). -/

namespace Sys2Proof.Machine

/-- UPSTREAM_WRITE (R1, R3 to R6, R19 to R27): the write is offered, and accepted as soon as R1 lets it. -/
def execUpstreamWrite (addr : BitVec 40) (beats : List Beat) (s : State) : Host.Outcome State Fault Refusal :=
  .next (event (fun s => acceptOffered (offerUpstream (.write addr beats) s)) s)

/-- UPSTREAM_READ (R1, R7). -/
def execUpstreamRead (addr : BitVec 40) (length : Nat) (s : State) : Host.Outcome State Fault Refusal :=
  .next (event (fun s => acceptOffered (offerUpstream (.read addr length) s)) s)

/-- DOWNSTREAM_GRANT (R10). -/
def execDownstreamGrant (s : State) : Host.Outcome State Fault Refusal :=
  .next (event (onPath grantOne) s)

/-- DOWNSTREAM_ANSWER (R11, R6 to R8, R14). -/
def execDownstreamAnswer (okay : Bool) (data : List Byte) (s : State) : Host.Outcome State Fault Refusal :=
  .next (event (answerStep okay data) s)

/-- RETURN_WORD (R171 to R174, R39, R40, R82). -/
def execReturnWord (s : State) : Host.Outcome State Fault Refusal :=
  .next (event returnStep s)

/-- DIRECTIVE_INDEX_WORD (R178). -/
def execDirectiveIndexWord (s : State) : Host.Outcome State Fault Refusal :=
  .next (event indexStep s)

/-- DIRECTIVE_SLOT_WRITE (R177). -/
def execDirectiveSlotWrite (s : State) : Host.Outcome State Fault Refusal :=
  .next (event captureStep s)

end Sys2Proof.Machine
end

