-- ==== Sys2Proof/Machine/PortCommands.lean ====
section
/-! DEFINITION. The frames of the provisioning port (R182 to R190), each by the bytes clocked in it: the command byte of
R185's table, the length byte, and what followed. -/

namespace Sys2Proof.Machine

/-- QUERY (R186): command byte 0x01. -/
def execQuery (length : Byte) (clocked : List Byte) (s : State) : Host.Outcome State Fault Refusal :=
  .next (event (takeFrame (0x01 :: length :: clocked)) s)

/-- LOAD_KEY (R132, R133, R187): command byte 0x02. -/
def execLoadKey (length : Byte) (clocked : List Byte) (s : State) : Host.Outcome State Fault Refusal :=
  .next (event (takeFrame (0x02 :: length :: clocked)) s)

/-- LOAD_IMAGE (R189): command byte 0x03. -/
def execLoadImage (length : Byte) (clocked : List Byte) (s : State) : Host.Outcome State Fault Refusal :=
  .next (event (takeFrame (0x03 :: length :: clocked)) s)

/-- LOCK_IMAGE (R189): command byte 0x04. -/
def execLockImage (length : Byte) (clocked : List Byte) (s : State) : Host.Outcome State Fault Refusal :=
  .next (event (takeFrame (0x04 :: length :: clocked)) s)

/-- ERASE (R145, R190): command byte 0x05. -/
def execErase (length : Byte) (clocked : List Byte) (s : State) : Host.Outcome State Fault Refusal :=
  .next (event (takeFrame (0x05 :: length :: clocked)) s)

/-- EMPTY_FRAME (R182): ignored; it does not consume the waiting answer. -/
def execEmptyFrame (s : State) : Host.Outcome State Fault Refusal :=
  .next (takeFrame [] s)

/-- BAD_COMMAND (R185): a frame judged by its command byte, as any other. -/
def execBadCommand (command length : Byte) (clocked : List Byte) (s : State) : Host.Outcome State Fault Refusal :=
  .next (event (takeFrame (command :: length :: clocked)) s)

/-- BAD_FRAME (R185): a frame judged by its bytes, as any other. -/
def execBadFrame (clocked : List Byte) (s : State) : Host.Outcome State Fault Refusal :=
  .next (event (takeFrame clocked) s)

end Sys2Proof.Machine
end

