-- ==== Sys2Proof/Machine/StoreCommands.lean ====
section
/-! DEFINITION. The non-volatile store begins and ends a write (R130). -/

namespace Sys2Proof.Machine

/-- STORE_WRITE_BEGIN (R130). What is due before it in the fixed order of the at-once steps comes first (log 3). Until
start-up has ended no block has requested a write, and none begins (R146, R193; log 2). -/
def execStoreWriteBegin (s : State) : Host.Outcome State Fault Refusal :=
  .next (whenRunning settleStore s)

/-- STORE_WRITE_END (R130, R131, R136, R155, R156, R184). -/
def execStoreWriteEnd (completed : Bool) (s : State) : Host.Outcome State Fault Refusal :=
  .next (event (endStoreWrite completed) s)

end Sys2Proof.Machine
end

