-- ==== Sys2Proof/Machine/SupplyCommands.lean ====
section
/-! DEFINITION. The commands of the supply and the reset input, and the end of start-up (R193, R194). -/

namespace Sys2Proof.Machine

/-- POWER_ON (R194, R193): the supply comes up: a reset of cause POWER_ON, and start-up begins (log 12). -/
def execPowerOn (s : State) : Host.Outcome State Fault Refusal :=
  .next (resetPart .starting .powerOn (settle s))

/-- RESET_LINE (R14, R194): the reset input is asserted: a reset of cause RESET_LINE, held until the release. -/
def execResetLine (s : State) : Host.Outcome State Fault Refusal :=
  .next (resetPart .held .resetLine (settle s))

/-- RESET_RELEASE (R193): the reset input is released: start-up begins. Not due unless it is asserted (log 2). -/
def execResetRelease (s : State) : Host.Outcome State Fault Refusal :=
  .next (if s.phase = .held then { s with phase := .starting } else s)

/-- START_UP_END (R193): start-up ends. Not due unless it is in progress (log 2). -/
def execStartUpEnd (s : State) : Host.Outcome State Fault Refusal :=
  .next (if s.phase = .starting then endStartUp s else s)

end Sys2Proof.Machine
end

