-- ==== Sys2Proof/Machine/SweepCommands.lean ====
section
/-! DEFINITION. The sweep, and what comes due at it (R28 to R31, R66, R78, R166). Each command that takes a part of what a
sweep has made due ends with the issue tests once nothing of it is left (R9, R166). -/

namespace Sys2Proof.Machine

/-- SWEEP (R28, R30, R78, R131, R165). The timer runs only once start-up has ended. -/
def execSweep (s : State) : Host.Outcome State Fault Refusal :=
  .next (whenRunning sweepStep (settle s))

/-- HOLD_EXPIRY (R29, R26, R27): the first hold in order that has reached E expires. -/
def execHoldExpiry (s : State) : Host.Outcome State Fault Refusal :=
  .next (reportOnceSwept (expireNext s))

/-- GAP_FILL (R31). The windows before it come first (R9). -/
def execGapFill (w : Window) (s : State) : Host.Outcome State Fault Refusal :=
  .next (reportOnceSwept (forBelow (w + 1) fillGap s))

/-- CONFIRM_TIMEOUT (R66). -/
def execConfirmTimeout (lane : LaneId) (s : State) : Host.Outcome State Fault Refusal :=
  .next (reportOnceSwept (timeoutLane lane s))

/-- LANE_SILENT (R78). -/
def execLaneSilent (lane : LaneId) (s : State) : Host.Outcome State Fault Refusal :=
  .next (reportOnceSwept (silentLane lane s))

/-- COALESCE_TIME (R166): a dirty channel that has reached its coalesce time issues its write. The channels before it come
first (R9). -/
def execCoalesceTime (ch : ChannelId) (s : State) : Host.Outcome State Fault Refusal :=
  .next (coalesceStep ch (forBelow ch reportChannel (whenRunning settleSweep s)))

end Sys2Proof.Machine
end

