-- ==== Sys2Proof/Machine/Dispatch.lean ====
section
/-! DEFINITION. Which meaning each command has: one arm for each constructor of Instr, in the table's order. -/

namespace Sys2Proof.Machine

def exec (i : Instr) (s : State) : Host.Outcome State Fault Refusal :=
  match i with
  | .powerOn => Sys2Proof.Machine.execPowerOn s
  | .resetLine => Sys2Proof.Machine.execResetLine s
  | .resetRelease => Sys2Proof.Machine.execResetRelease s
  | .startUpEnd => Sys2Proof.Machine.execStartUpEnd s
  | .upstreamWrite addr beats => Sys2Proof.Machine.execUpstreamWrite addr beats s
  | .upstreamRead addr length => Sys2Proof.Machine.execUpstreamRead addr length s
  | .downstreamGrant => Sys2Proof.Machine.execDownstreamGrant s
  | .downstreamAnswer okay data => Sys2Proof.Machine.execDownstreamAnswer okay data s
  | .returnWord => Sys2Proof.Machine.execReturnWord s
  | .directiveIndexWord => Sys2Proof.Machine.execDirectiveIndexWord s
  | .directiveSlotWrite => Sys2Proof.Machine.execDirectiveSlotWrite s
  | .writeBackAck => Sys2Proof.Machine.execWriteBackAck s
  | .voidRecordAck => Sys2Proof.Machine.execVoidRecordAck s
  | .statusWriteAck => Sys2Proof.Machine.execStatusWriteAck s
  | .summaryAck => Sys2Proof.Machine.execSummaryAck s
  | .directiveResultAck => Sys2Proof.Machine.execDirectiveResultAck s
  | .batchClose => Sys2Proof.Machine.execBatchClose s
  | .laneSuspend => Sys2Proof.Machine.execLaneSuspend s
  | .laneResume => Sys2Proof.Machine.execLaneResume s
  | .laneForget => Sys2Proof.Machine.execLaneForget s
  | .statusNow => Sys2Proof.Machine.execStatusNow s
  | .unknownCode => Sys2Proof.Machine.execUnknownCode s
  | .incomplete => Sys2Proof.Machine.execIncomplete s
  | .sweep => Sys2Proof.Machine.execSweep s
  | .holdExpiry => Sys2Proof.Machine.execHoldExpiry s
  | .gapFill w => Sys2Proof.Machine.execGapFill w s
  | .confirmTimeout lane => Sys2Proof.Machine.execConfirmTimeout lane s
  | .laneSilent lane => Sys2Proof.Machine.execLaneSilent lane s
  | .coalesceTime ch => Sys2Proof.Machine.execCoalesceTime ch s
  | .engineTake => Sys2Proof.Machine.execEngineTake s
  | .writeBackIssue => Sys2Proof.Machine.execWriteBackIssue s
  | .voidRecordIssue => Sys2Proof.Machine.execVoidRecordIssue s
  | .statusWriteIssue ch => Sys2Proof.Machine.execStatusWriteIssue ch s
  | .summaryIssue => Sys2Proof.Machine.execSummaryIssue s
  | .directiveResultIssue => Sys2Proof.Machine.execDirectiveResultIssue s
  | .storeWriteBegin => Sys2Proof.Machine.execStoreWriteBegin s
  | .storeWriteEnd completed => Sys2Proof.Machine.execStoreWriteEnd completed s
  | .query length clocked => Sys2Proof.Machine.execQuery length clocked s
  | .loadKey length clocked => Sys2Proof.Machine.execLoadKey length clocked s
  | .loadImage length clocked => Sys2Proof.Machine.execLoadImage length clocked s
  | .lockImage length clocked => Sys2Proof.Machine.execLockImage length clocked s
  | .erase length clocked => Sys2Proof.Machine.execErase length clocked s
  | .emptyFrame => Sys2Proof.Machine.execEmptyFrame s
  | .badCommand command length clocked => Sys2Proof.Machine.execBadCommand command length clocked s
  | .badFrame clocked => Sys2Proof.Machine.execBadFrame clocked s

end Sys2Proof.Machine
end

