-- ==== Sys2Proof/Safety.lean ====
section
/-! DEFINITION. The words that statements are made of: when nothing is due, what a write does to memory, and the
invariants that say what a sound state of the part is. -/

namespace Sys2Proof.Machine

/-! ### When a command acts on the state as it finds it

Each predicate says that nothing is due of one more of the at-once steps, in their fixed order (log 3). Before start-up
has ended nothing is due (R193). -/

/-- R9: no entry waits while there is room. R29, R31, R66, R78: nothing that the last sweep made due is left. -/
abbrev SweepDone (s : State) : Prop :=
  s.phase = .running → (s.path.waiting = [] ∨ 32 ≤ s.path.queue.length) ∧ sweepPending s = false

/-- R166: and no channel's status write is due. -/
abbrev ReportsDone (s : State) : Prop :=
  SweepDone s ∧ (s.phase = .running → ∀ ch < 5, issueDue s.settings ch (channelAt s ch) = false)

/-- R87: and the engine has a record in work or an empty queue. -/
abbrev TakeDone (s : State) : Prop :=
  ReportsDone s ∧ (s.phase = .running → s.engine.work ≠ none ∨ s.engine.queue = [])

/-- R179: and no directive can be taken. -/
abbrev DirectiveDone (s : State) : Prop := TakeDone s ∧ (s.phase = .running → directiveDue s.directives = false)

/-- R130: and no store write can begin. -/
abbrev StoreDone (s : State) : Prop :=
  DirectiveDone s ∧ (s.phase = .running → s.nv.writing ≠ none ∨ s.nv.requests = [])

/-- R157: and no summary is built and not issued. -/
abbrev SummaryDone (s : State) : Prop :=
  StoreDone s ∧ (s.phase = .running → s.totals.close.bind (·.summary) = none)

/-- R179: and no directive's result is known and not issued: no at-once step is due. -/
abbrev Quiet (s : State) : Prop :=
  SummaryDone s ∧
    (s.phase = .running → (s.directives.inProgress.all fun d => d.result.isNone || d.issued) = true)

/-- R1: what the interconnect offers next is accepted at once; the transaction that waits longest for its response has a
burst not yet answered, so no response is due. -/
structure Ready (s : State) : Prop where
  quiet   : Quiet s
  open_   : s.phase = .running
  offered : s.path.offered = []
  room    : s.path.accepted.length < 8
  waits   : ∀ x ∈ s.path.accepted.head?, x.awaiting ≠ 0

/-- R1: nothing that is offered can be accepted. -/
abbrev NoneAcceptable (s : State) : Prop := s.path.offered = [] ∨ s.phase ≠ .running ∨ 8 ≤ s.path.accepted.length

/-- R1: these offered transactions are accepted one after another, each while the conditions hold. -/
inductive Accepts : State → List Offered → State → Prop where
  | none (s : State) : Accepts s [] s
  | one {s t : State} {o : Offered} {os : List Offered} : s.phase = .running → s.path.accepted.length < 8 →
      Accepts (acceptOne o s) os t → Accepts s (o :: os) t

/-- R5, R19, R166: the slot writes of an accepted write are taken in beat order, each with the status writes it makes
due; and whether one of them was refused. -/
inductive SlotWritesTaken : State → List SlotWrite → State → Bool → Prop where
  | none (s : State) : SlotWritesTaken s [] s false
  | one {s t : State} {sw : SlotWrite} {rest : List SlotWrite} {refused : Bool} :
      SlotWritesTaken (reportDue (takeSlotWrite sw s)) rest t refused →
      SlotWritesTaken s (sw :: rest) t ((slotRefusal s sw.window sw.slot).isSome || refused)

/-- R88: the idle engine's next take is the entry of this hold. -/
structure Takes (s : State) (e : QueueEntry) (h : Hold) : Prop where
  done : ReportsDone s
  idle : s.engine.work = none
  next : nextEntry s = some e
  hold : holdOf s e.window e.slot = some h

/-- R89: the engine has a record in work, with this hold, at this stage, and nothing else is due. -/
structure EngineAt (s : State) (st : Stage) (w : Work) (h : Hold) : Prop where
  quiet : Quiet s
  work  : s.engine.work = some w
  stage : w.stage = st
  hold  : holdOf s w.window w.slot = some h

/-! ### Memory -/

/-- The byte that a write burst puts at an address, if it has one there. -/
def burstByte (start : Nat) (beats : List Beat) (a : Nat) : Option Byte :=
  if a < start then none
  else match beats[(a - start) / 8]? with
    | some b => if beatStrobe b ((a - start) % 8) then some (beatByte b ((a - start) % 8)) else none
    | none => none

/-- The canonical form of the memory's record: addresses strictly rising. -/
def MemoryCanonical (s : State) : Prop := Memory.wf s.dram = true

/-- The beats of a write that fall in intake windows, each with its offset in its slot (R5). -/
def intakeBeats (map : WindowMap) (addr : BitVec 40) (beats : List Beat) : List (Nat × Beat) :=
  (classBeats map addr 0 beats).filterMap fun c =>
    match c.cls with
    | .intake _ _ offset => some (offset, c.beat)
    | _ => none

/-- A write that has beats for one slot and no other beat (empty beats apart). -/
structure SlotOnly (s : State) (addr : BitVec 40) (beats : List Beat) (w slot : Nat) : Prop where
  some_ : classBeats s.settings.map addr 0 beats ≠ []
  all_  : ∀ c ∈ classBeats s.settings.map addr 0 beats, ∃ offset, c.cls = .intake w slot offset

/-! ### The release rule (R38) -/

/-- R38: from a table, the cursor passed exactly `k` slots, all DONE, and stopped before one that is not. -/
structure Released (before after : WindowSlots) (k : Nat) : Prop where
  index    : after.release = before.release + BitVec.ofNat 16 k
  consumed : after.consumed = before.consumed
  gapAge   : after.gapAge = before.gapAge
  passed   : ∀ i < k, before.slots[slotOfIndex before (before.release + BitVec.ofNat 16 i)]? = some .done
  slots    : ∀ j : Nat, after.slots[j]? =
    if ∃ i < k, slotOfIndex before (before.release + BitVec.ofNat 16 i) = j then some .released else before.slots[j]?
  stops    : after.slots[slotOfIndex after after.release]? ≠ some .done

/-! ### Entries and status blocks (R9, R166 to R168) -/

/-- R9: an entry that is issued is added to the internal write queue, with room there and no producer waiting; else it
waits, last of those that wait. -/
def entryIssued (p : PathFront) (e : Entry) : PathFront :=
  if p.queue.length < 32 ∧ p.waiting = [] then { p with queue := p.queue ++ [e] }
  else { p with waiting := p.waiting ++ [e] }

/-- R166: the channel exists, is not in flight, and owes a write, or has its releases at the coalesce count, or has been
dirty for its coalesce time. -/
def ChannelDue (s : State) (ch : Nat) : Prop :=
  (channelAt s ch).present = true ∧ (channelAt s ch).inFlight = false ∧
    ((channelAt s ch).owed = true ∨ (ch ≠ 4 ∧ s.settings.coalesceCount ≤ (channelAt s ch).releases) ∨
      ((channelAt s ch).dirty = true ∧
        (if ch = 4 then s.settings.storeCoalesceTime else s.settings.coalesceTime) ≤ (channelAt s ch).sweeps))

/-- R166 to R168, R81: a channel's block is issued, its content as its owners stand: the snapshot and the reported tag are
taken, PENDING flags become REPORTED, dirty, owed and both coalescing values clear, and the channel is in flight. A STORE
block turns every PENDING lane event REPORTED. -/
def blockIssued (s : State) (ch : Nat) : State :=
  { s with
    report := updAt s.report ch fun c => { c with
      snapshot := c.counts
      reportedTag := c.nextTag
      returnIgnored := if c.returnIgnored = .pending then .reported else c.returnIgnored
      writeFault := if c.writeFault = .pending then .reported else c.writeFault
      dirty := false
      owed := false
      releases := 0
      sweeps := 0
      inFlight := true }
    lanes := if ch = 4 then { s.lanes with
        entries := s.lanes.entries.map fun l => { l with
          enrolment := if l.enrolment = .pending then .reported else l.enrolment
          fault := if l.fault = .pending then .reported else l.fault
          silent := if l.silent = .pending then .reported else l.silent } }
      else s.lanes
    path := entryIssued s.path (entryOfBytes (.statusBlock ch) (s.settings.map.statusBase + 128 * ch)
      (if ch = 4 then
        storeBlock (channelAt s 4) s.cause s.sweepCount s.settings s.keys s.directives.done s.totals s.lanes
      else windowBlock (channelAt s ch) ch s.cause (windowSlots s ch))) }

/-! ### A record in the engine (R84 to R106) -/

/-- R92: the shape stage passes a record: kind 1 to 5, version 1, no length fault, and the kind's minimum length. -/
structure Shaped (h : Hold) : Prop where
  known   : 1 ≤ headerKind h ∧ headerKind h ≤ 5
  version : headerVersion h = 1
  length  : h.lengthFault = false
  minimum : (headerKind h = 1 → 32 ≤ headerLength h) ∧ (headerKind h = 2 → 120 ≤ headerLength h) ∧
    (headerKind h = 3 → 136 ≤ headerLength h) ∧ (headerKind h = 4 → 48 ≤ headerLength h) ∧
    (headerKind h = 5 → 56 ≤ headerLength h)

/-- The record in work has become `w`. -/
def withWork (s : State) (w : Work) : State := { s with engine := { s.engine with work := some w } }

/-- R90: an outcome is reported: counted in the window's channel where R45 counts it, and the lane heard where R77 says
so. -/
def outcomeReported (s : State) (h : Hold) (d : Disposition) : State :=
  { s with
    report := match countOf d with
      | some id => updAt s.report h.window (countOn id 1)
      | none => s.report
    lanes := if h.expired = false ∧ headerLane h ≤ 47 then
        { s.lanes with entries := updAt s.lanes.entries (headerLane h) fun l => { l with silence := 0 } }
      else s.lanes }

/-- R90: the outcome of the record in work `w` is decided and reported, its output built, and it goes to the write-back
stage. -/
def outcomeDecided (s : State) (w : Work) (h : Hold) (d : Disposition) (r : Reason) (output : List Byte) : State :=
  withWork (outcomeReported s h d) { w with stage := .write, outcome := some (d, r), output := some output }

/-- `outcomeDecided` with a header-only output (R47). -/
def recordRefused (s : State) (w : Work) (h : Hold) (d : Disposition) (r : Reason) : State :=
  outcomeDecided s w h d r (headerOnlyOutput (windowOfMap s h.window).slotSize h d r)

/-- The acquirer slots after the value C of the key unit has been handed out and a later one remains (R135). -/
def valueTaken (k : KeyUnit) : KeyUnit := { k with currentC := k.currentC + 1, waiting := false }

/-- R139: after the last value: ACQ_CURRENT is SPENT, or holds the promoted key of a LOADED ACQ_NEXT. -/
def lastTaken (k : KeyUnit) : KeyUnit :=
  if k.store.next.state = .loaded then
    { k with
      store := { k.store with
        current := { k.store.next with state := .active }
        currentMark := 1
        next := KeySlot.empty
        nextMark := 0
        highestId := k.store.next.id }
      currentC := 1
      nextC := 0
      waiting := false }
  else
    { k with
      store := { k.store with current := { k.store.current with state := .spent } }
      currentC := 1048576
      waiting := false }

/-- R101, R135, R139: the value C of the key unit is handed out to the record in work `w`, which captures it with the key
id, both working keys and the SURROGATE key. STORE comes to owe a write where C reaches the warning threshold (R138,
R144). With the last value 1,048,575 the key is exhausted, STORE owes a write, and a key store write is requested. -/
def valueHandedOut (s : State) (w : Work) : State :=
  let keys := acquirerKeys s.keys.store.current.key s.keys.store.current.id s.keys.currentC s.settings.storeNumber
  let last := s.keys.currentC = 1048575
  { withWork s { w with
      stage := .compute
      capture := some ⟨s.keys.store.current.id, s.keys.currentC, keys.1, keys.2, s.keys.store.surrogate.key⟩ } with
    keys := if last then lastTaken s.keys else valueTaken s.keys
    report := if last ∨ s.settings.warnThreshold = s.keys.currentC + 1 then updAt s.report 4 oweOn else s.report
    nv := if last then { s.nv with requests := s.nv.requests ++ [.keyStore none false] } else s.nv }

/-- R130, R131, R136: the key store write of this content has ended: the store holds it where it completed,
COUNTER_STORE says whether it failed (a change of it is key attention, R144), a completed reservation raises the working
mark while ACQ_CURRENT holds its key and no ERASE has come since, and the port records the end of its own write. -/
def keyWriteSettled (s : State) (content : KeyStore) (r : Option Reservation) (forPort completed : Bool) : State :=
  { s with
    nv := { s.nv with keys := if completed then content else s.nv.keys, writing := none }
    keys := { s.keys with
      counterStore := !completed
      store := match r with
        | none => s.keys.store
        | some v =>
          if completed = true ∧ v.live = true ∧ s.keys.store.current.state ≠ .empty ∧
            s.keys.store.current.id = v.keyId then
            { s.keys.store with currentMark := max s.keys.store.currentMark v.mark }
          else s.keys.store }
    report := if s.keys.counterStore = completed then updAt s.report 4 oweOn else s.report
    port := if forPort then
        { s.port with outstanding := false, lastOutcome := if completed then .completed else .failed }
      else s.port }

/-- R183: the frame of a command is answered with this status alone, and shifts the answer that waited out. -/
def frameAnswered (s : State) (bytes : Nat) (status : Nat) : State :=
  { s with
    port := { s.port with
      shiftedOut := (s.port.answer.getD [0] ++ zeros bytes).take bytes
      answer := some [BitVec.ofNat 8 status] } }

/-- R185: the port is open, nothing else is due, and no store write of the port is outstanding. -/
structure PortFree (s : State) : Prop where
  quiet : Quiet s
  open_ : s.phase = .running
  free  : s.port.outstanding = false

/-- R101, R135: the key store lets a value be handed out at once. -/
structure KeyReady (k : KeyUnit) : Prop where
  surrogate : k.store.surrogate.state ≠ .empty
  active    : k.store.current.state = .active
  value     : k.currentC < k.store.currentMark

/-- R95: the admission copy admits a record of this kind. -/
structure CopyAdmits (kind : Nat) (a : Admission) : Prop where
  enrolled : a.state = .enrolled
  active   : a.suspended = false
  agreed   : (kind = 2 → a.kinds.clear = true) ∧ (kind = 3 → a.kinds.sealed = true)
  sequence : a.verdict = .accept

/-- R99: a card number that is wrapped. -/
structure CardNumberGood (body : List Byte) : Prop where
  length : 12 ≤ cardLength body ∧ cardLength body ≤ 19
  digits : ∀ b ∈ slice body 1 (cardLength body), b.toNat ≤ 9
  check  : passesCheck (cardDigits body) = true

/-- R100: the other fields but the amount. -/
structure FieldsGood (body : List Byte) : Prop where
  expiry    : ∀ b ∈ slice body 20 4, b.toNat ≤ 9
  month     : 1 ≤ 10 * (bodyByte body 54).toNat + (bodyByte body 55).toNat ∧
    10 * (bodyByte body 54).toNat + (bodyByte body 55).toNat ≤ 12
  service   : ∀ b ∈ slice body 24 3, b.toNat ≤ 9
  currency  : bodyCurrency body ≤ 999
  remainder : remainderLength body ≤ 47

/-- R99, R100: a body that the key stage meets. -/
structure BodyGood (body : List Byte) : Prop where
  card   : CardNumberGood body
  fields : FieldsGood body
  amount : bodyAmount body ≤ 9999999999

/-! ### Sound lanes (R56, R68, R83) -/

/-- A lane entry is as R56's table has it, and its latch stands exactly while SILENT is not CLEAR (R83). -/
structure LaneSound (l : Lane) : Prop where
  latch     : l.latch = true ↔ l.silent ≠ .clear
  failures  : l.failures ≤ 4
  silence   : l.silence ≤ 255
  offer     : l.offer.isSome = true ↔ l.state = .offered ∨ l.state = .confirming
  agreement : l.agreement.isSome = true ↔ l.state = .confirming ∨ l.state = .enrolled
  deadline  : l.deadline.isSome = true ↔ l.state = .confirming

/-- The lane table is sound. -/
structure LanesSound (s : State) : Prop where
  count : s.lanes.entries.length = 48
  all_  : ∀ l ∈ s.lanes.entries, LaneSound l

/-! ### Sound keys (R134, R137, R142) -/

/-- The acquirer slots take the states that R129 gives them, a LOADED ACQ_NEXT has an id above the highest id ever
active, and ACQ_CURRENT's id does not exceed it (R134, R142). -/
structure AcquirerLegal (k : KeyStore) : Prop where
  current  : k.current.state ≠ .loaded
  next     : k.next.state = .empty ∨ k.next.state = .loaded
  staged   : k.next.state = .loaded → k.highestId < k.next.id
  inUse    : k.current.state ≠ .empty → k.current.id ≤ k.highestId

/-- The key stores of the part: the working one, the stored one, and the one that a key store write carries. -/
def keyStores (s : State) : List KeyStore :=
  [s.keys.store, s.nv.keys] ++
    match s.nv.writing with
    | some (.keyStore content _ _) => [content]
    | _ => []

/-- R142, R134 for every key store of the part. -/
def AcquirersLegal (s : State) : Prop := ∀ k ∈ keyStores s, AcquirerLegal k

/-- ACQ_CURRENT holds a key under the same id in both. -/
def sameKey (a b : KeyStore) : Prop :=
  a.current.state ≠ .empty ∧ b.current.state ≠ .empty ∧ a.current.id = b.current.id

/-- R137: a mark is at least 1, C does not exceed the working mark, and what is stored, or being written, for the key
in use carries a mark at least as high; a reservation write carries the mark it was made for. Before start-up has ended
no write is in progress. -/
structure MarksHold (s : State) : Prop where
  idle     : s.phase ≠ .running → s.nv.writing = none
  positive : ∀ k ∈ keyStores s, k.current.state ≠ .empty → 1 ≤ k.currentMark
  counter  : s.keys.store.current.state = .active → s.keys.currentC ≤ s.keys.store.currentMark
  stored   : ∀ k ∈ keyStores s, sameKey k s.keys.store → s.keys.store.currentMark ≤ k.currentMark
  carried  : ∀ content r forPort, s.nv.writing = some (.keyStore content (some r) forPort) →
    content.current.state ≠ .empty → content.current.id = r.keyId → r.mark ≤ content.currentMark

/-! ### Sound channels (R162 to R173) and full buffers (R1, R9, R10, R18) -/

/-- Each count of the second is at least that of the first. -/
def countsBelow (a b : Counts) : Prop := List.Forall₂ (· ≤ ·) (countsList a) (countsList b)

/-- R162, R163, R164, R165, R169, R173. -/
structure ChannelSound (c : Channel) : Prop where
  protocol : c.armed = !c.pending
  tag      : 1 ≤ c.nextTag ∧ c.nextTag ≤ 255
  reported : c.reportedTag ≤ 255
  releases : c.releases ≤ 64
  sweeps   : c.sweeps ≤ 255
  counts   : ∀ n ∈ countsList c.counts, n ≤ 65535
  snapshot : countsBelow c.snapshot c.counts

/-- The reporting unit is sound. -/
structure ChannelsSound (s : State) : Prop where
  count : s.report.length = 5
  all_  : ∀ c ∈ s.report, ChannelSound c

/-- R1: 8 accepted transactions. R9: 32 entries. R10: 16 bursts wait for answers. R18: 16 holds. -/
structure BuffersFit (s : State) : Prop where
  accepted : s.path.accepted.length ≤ 8
  queue    : s.path.queue.length ≤ 32
  answers  : s.path.abandoned.length + s.path.outstanding.length ≤ 16
  holds    : s.intake.holds.length ≤ 16

/-! ### Legal settings (R2, R191, R192) -/

/-- R2: what a window of the map looks like. -/
structure WindowLegal (w : IntakeWindow) : Prop where
  aligned  : w.base % 4096 = 0
  below    : w.base + windowSpan w ≤ 2 ^ 40
  slotSize : w.slotSize = 256 ∨ w.slotSize = 512
  count    : w.count ∈ [16, 32, 64, 128, 256]

/-- R2: each address lies in at most one enabled window. -/
structure MapLegal (m : WindowMap) : Prop where
  four     : m.intake.length = 4
  windows  : ∀ w ∈ m.intake, WindowLegal w
  status   : m.statusBase % 4096 = 0 ∧ m.statusBase + 4096 ≤ 2 ^ 40
  apart    : m.intake.Pairwise fun v w => ∀ a, ¬(inWindow v a = true ∧ inWindow w a = true)
  clear    : m.statusEnabled = true → ∀ w ∈ m.intake, ∀ a, m.statusBase ≤ a → a < m.statusBase + 4096 →
    inWindow w a = false

/-- R191: every field is within its legal values. -/
structure SettingsLegal (c : Settings) : Prop where
  map        : MapLegal c.map
  store      : c.storeNumber < 2 ^ 32
  priorities : c.priorities.length = 8 ∧ ∀ p ∈ c.priorities, p ≤ 3
  period     : c.sweepPeriod ∈ [10, 20, 40, 80]
  expiry     : 1 ≤ c.holdExpiry ∧ c.holdExpiry ≤ 15
  confirm    : 1 ≤ c.confirmTimeout ∧ c.confirmTimeout ≤ 255
  silence    : 1 ≤ c.silenceThreshold ∧ c.silenceThreshold ≤ 255
  coalesce   : 1 ≤ c.coalesceCount ∧ c.coalesceCount ≤ 64
  times      : c.coalesceTime ≤ 255 ∧ c.storeCoalesceTime ≤ 255
  warning    : c.warnThreshold < 2 ^ 32
  policies   : c.policies.length = 48
  outcomes   : c.outcomes.length = 5 ∧ c.outcomes[0]? ≠ some .defaulted
  overlap    : c.overlap.length = 4

/-! ### A sound slot table (R16, R18, R27, R34, R35) -/

/-- The slot that an entry kind writes. -/
def targetOf : EntryKind → Option (Nat × Nat)
  | .writeBack w slot => some (w, slot)
  | .voidRecord w slot => some (w, slot)
  | _ => none

/-- The kind of an entry whose last burst this is. -/
def endsEntry (b : Burst) : Option EntryKind :=
  match b.origin with
  | .internal kind true => some kind
  | _ => none

/-- The entries that are issued and not yet acknowledged to their producer: void records that wait for room, what the
internal write queue holds, entries of which the last burst waits for its answer, and acknowledgements not yet taken. -/
def underWay (s : State) : List EntryKind :=
  (s.path.waiting.map (·.kind)).filter isVoid ++ s.path.queue.map (·.kind) ++
    s.path.outstanding.filterMap endsEntry ++ s.path.acks.map (·.kind)

/-- R9: the bursts of an entry name its kind, and of one that writes a slot the last burst alone ends it. -/
structure EntrySound (e : Entry) : Prop where
  kind : ∀ b ∈ e.bursts, ∃ last, b.origin = .internal e.kind last
  ends : targetOf e.kind ≠ none → e.bursts.map (fun b => endsEntry b != none) =
    List.replicate (e.bursts.length - 1) false ++ [true]

/-- R16, of one window: the release index is at most N ahead of the consumed index, and the slots at the indices between
them are exactly the RELEASED ones. -/
structure RingSound (t : WindowSlots) : Prop where
  size     : t.slots.length ∈ [0, 16, 32, 64, 128, 256]
  span     : (t.release - t.consumed).toNat ≤ t.slots.length
  released : ∀ slot < t.slots.length, t.slots[slot]? = some .released ↔
    (ringIndexOf t slot - t.consumed).toNat < (t.release - t.consumed).toNat

/-- R16, R18, R27, R34, R35: each window's ring is sound; a slot has a hold exactly when it is FILLING, QUEUED, WORKING or
WRITING with a write-back, and has one at most, with the slot's ring index; the engine queue names exactly the QUEUED
slots, each once; the record in work is that of the one WORKING slot; and a slot is WRITING exactly while one entry that
writes it is under way. -/
structure IntakeSound (s : State) : Prop where
  closed  : s.phase ≠ .running → ∀ t ∈ s.intake.windows, t.slots = []
  sizes   : ∀ w, 0 < (windowOfMap s w).slotSize
  windows : s.intake.windows.length = 4
  rings   : ∀ t ∈ s.intake.windows, RingSound t
  oneHold : (s.intake.holds.map fun h => (h.window, h.slot)).Nodup
  holds   : ∀ w slot, (∃ h ∈ s.intake.holds, h.window = w ∧ h.slot = slot) ↔
    slotState s w slot = some .filling ∨ slotState s w slot = some .queued ∨ slotState s w slot = some .working ∨
      .writeBack w slot ∈ underWay s
  index   : ∀ h ∈ s.intake.holds, h.ringIndex = ringIndexOf (windowSlots s h.window) h.slot
  queued  : s.engine.queue.Nodup ∧
    ∀ w slot, (⟨w, slot⟩ : QueueEntry) ∈ s.engine.queue ↔ slotState s w slot = some .queued
  working : ∀ w slot, slotState s w slot = some .working ↔
    ∃ r ∈ s.engine.work, r.window = w ∧ r.slot = slot
  writing : ((underWay s).filterMap targetOf).Nodup ∧
    ∀ w slot, slotState s w slot = some .writing ↔ (w, slot) ∈ (underWay s).filterMap targetOf
  output  : ∀ r ∈ s.engine.work, r.output ≠ some []
  waits   : (s.path.waiting.filter fun e => isWriteBack e.kind).length ≤ 1 ∧
    ∀ e ∈ s.path.waiting, ∀ w slot, e.kind = .writeBack w slot → ∃ r ∈ s.engine.work, r.window = w ∧ r.slot = slot
  stream  : ∀ b ∈ s.path.stream, b.origin = .passThrough
  entries : ∀ e ∈ s.path.queue ++ s.path.waiting, EntrySound e

/-! ### A sound memory path (R4, R9) -/

/-- No beat of the burst lies in an enabled intake window. -/
def OutsideWindows (m : WindowMap) (b : Burst) : Prop :=
  ∀ beats, b.op = .write beats → ∀ i < beats.length, ∀ w slot offset, classOf m (b.addr + 8 * i) ≠ .intake w slot offset

/-- R4: these bursts are the whole of an entry that writes the whole of its intake slot; or they write to no intake
window. -/
def WholeSlotOrOutside (s : State) (kind : EntryKind) (bursts : List Burst) : Prop :=
  match targetOf kind with
  | some (w, slot) =>
    ∃ bytes : List Byte, bytes.length = (windowOfMap s w).slotSize ∧
      bursts = (entryOfBytes kind ((windowOfMap s w).base + slot * (windowOfMap s w).slotSize) bytes).bursts
  | none => ∀ b ∈ bursts, OutsideWindows s.settings.map b

/-- R162: a part without a status window, or whose start-up has not ended, has no channel, no directive and no close, and
no directive's result is under way. -/
structure ReportingAbsent (s : State) : Prop where
  channels : ∀ c ∈ s.report, c.present = false
  shown    : s.path.shownDirectives = []
  none_    : s.directives.inProgress = none
  taken    : s.directives.producer = s.directives.done
  close    : s.totals.close = none
  entries  : ∀ e ∈ s.path.queue ++ s.path.waiting, e.kind ≠ .directiveResult
  bursts   : ∀ b ∈ s.path.outstanding, endsEntry b ≠ some .directiveResult
  acks     : ∀ a ∈ s.path.acks, a.kind ≠ .directiveResult

/-- R4, R9: memory receives no write to an enabled intake slot but a write-back or void record over the whole slot: what
passes through writes to no intake window; every entry that waits or stands in the internal write queue is the whole of
such an entry, or writes to no intake window; the entry at the head of the queue is what is left of such a one when its
first bursts have gone; and so are the bursts that have gone. Before start-up has ended nothing is under way. -/
structure PathSound (s : State) : Prop where
  map     : MapLegal s.settings.map
  closed  : s.phase ≠ .running →
    s.path.stream = [] ∧ s.path.queue = [] ∧ s.path.waiting = [] ∧ s.path.outstanding = [] ∧ s.engine.work = none ∧
      s.intake.holds = [] ∧ ∀ t ∈ s.intake.windows, t.slots = []
  status  : s.phase ≠ .running ∨ s.settings.map.statusEnabled = false → ReportingAbsent s
  summary : ∀ c ∈ s.totals.close, ∀ bytes ∈ c.summary, bytes.length ≤ 848
  output  : ∀ r ∈ s.engine.work, ∀ o ∈ r.output, o.length = (windowOfMap s r.window).slotSize
  stream  : ∀ b ∈ s.path.stream, b.origin = .passThrough ∧ OutsideWindows s.settings.map b
  kinds   : ∀ e ∈ s.path.queue ++ s.path.waiting, ∀ b ∈ e.bursts, ∃ last, b.origin = .internal e.kind last
  waiting : ∀ e ∈ s.path.waiting ++ s.path.queue.tail, WholeSlotOrOutside s e.kind e.bursts
  head    : ∀ e ∈ s.path.queue.head?, ∃ gone, WholeSlotOrOutside s e.kind (gone ++ e.bursts)
  gone    : ∀ b ∈ s.path.outstanding, match b.origin with
    | .passThrough => OutsideWindows s.settings.map b
    | .internal kind _ => ∃ before after, WholeSlotOrOutside s kind (before ++ b :: after)

/-! ### A sound record in work (R84, R89, R95, R102, R106) -/

/-- The stages that only an admitted card record reaches. -/
def pastAdmission : List Stage := [.laneKeys, .unseal, .body, .keys, .reservation, .compute, .totalsCommit, .conclude]

/-- R95: the record's admission copy says ENROLLED, not suspended, ACCEPT. -/
def Admitted (w : Work) : Prop :=
  ∃ a ∈ w.admission, a.state = .enrolled ∧ a.suspended = false ∧ a.verdict = .accept

/-- R84, R89, R95: what the engine keeps for a record at each stage. Only a record that was admitted, that has captured a
counter value, and whose commits have given it a batch number ends WRAPPED. -/
structure RecordSound (w : Work) : Prop where
  output   : w.output.isSome = true ↔ w.stage = .write
  outcome  : w.outcome.isSome = true ↔ w.stage = .result ∨ w.stage = .write
  admitted : w.stage ∈ pastAdmission → Admitted w
  body     : w.stage ∈ [.body, .keys, .reservation, .compute, .totalsCommit, .conclude] → w.body ≠ none
  capture  : w.stage ∈ [.compute, .totalsCommit, .conclude] → w.capture ≠ none
  products : w.stage ∈ [.totalsCommit, .conclude] → w.products ≠ none
  batch    : w.stage = .conclude → ∀ p ∈ w.products, p.batch ≠ none
  wrapped  : ∀ r, w.outcome = some (.wrapped, r) → Admitted w ∧ w.body ≠ none ∧ w.capture ≠ none ∧
    ∃ p ∈ w.products, p.batch ≠ none ∧ p.tag ≠ none

/-- The record in work is sound; a key request waits exactly for a record at the reservation wait (R102); and a
write-back that waits for room is that of a record in work whose output is built (R106). -/
structure WorkSound (s : State) : Prop where
  record  : ∀ w ∈ s.engine.work, RecordSound w
  request : s.keys.waiting = true → ∃ w ∈ s.engine.work, w.stage = .reservation
  waits   : (s.path.waiting.filter fun e => isWriteBack e.kind).length ≤ 1 ∧
    ∀ e ∈ s.path.waiting, isWriteBack e.kind = true → ∃ w ∈ s.engine.work, w.stage = .write

end Sys2Proof.Machine
end

