-- ==== Sys2Proof/Certificates/Slice0/Obligations.lean ====
section
/-! DEFINITION. The statements for the provers. Each docstring names the rules of spec/ it formalises. -/

open Sys2Proof Sys2Proof.Machine

/-! ### The machine -/

/-- The step takes the command at the front of the queue off it and executes it; on an empty queue the part idles. The
model's choice (log 1): the spec has no queue. -/
def Obligations.StepTakesTheFrontCommand : Prop :=
  (∀ (c : Instr) (rest : List Instr) (s : State),
    step { s with pending := c :: rest } = exec c { s with pending := rest }) ∧
  ∀ s : State, s.pending = [] → step s = .next s

/-- No command stops the part, and none touches the queue of those that wait (the model's choice, log 1). No command
but an answer of the DRAM controller moves the record of memory (the model's choice, log 9: a write reaches the record
when its burst is answered). R2, R57, R86, R189, R194: the settings and the reset cause stay as start-up took them
until the next reset, whatever is loaded or erased on the provisioning port. R130: the stored image (keys, control
word, lock, groups, last closed batch number) changes only when a store write ends, or when a reset cuts one. -/
def Obligations.CommandsCompleteAndStoresStay : Prop :=
  (∀ (c : Instr) (s : State), ∃ t, exec c s = .next t ∧ t.pending = s.pending) ∧
  (∀ (c : Instr) (s t : State), exec c s = .next t → (∀ okay data, c ≠ .downstreamAnswer okay data) → t.dram = s.dram) ∧
  (∀ (c : Instr) (s t : State), exec c s = .next t → c ≠ .powerOn → c ≠ .resetLine → c ≠ .startUpEnd →
    t.settings = s.settings ∧ t.cause = s.cause) ∧
  (∀ (c : Instr) (s t : State), exec c s = .next t → c ≠ .powerOn → c ≠ .resetLine →
    (∀ completed, c ≠ .storeWriteEnd completed) →
    t.nv.keys = s.nv.keys ∧ t.nv.control = s.nv.control ∧ t.nv.locked = s.nv.locked ∧ t.nv.groups = s.nv.groups ∧
      t.nv.lastClosed = s.nv.lastClosed)

/-! ### Supply, reset, start-up -/

/-- R14, R41, R57, R111, R146, R158, R162, R176, R184, R194: POWER_ON and RESET_LINE put every volatile piece at its
reset value and record the cause. R130: the stored image is as before a write cut by the reset or as that write left
it, whole, and the requests are dropped. RESET_RELEASE (R193) begins start-up and changes nothing else. The model's
choices: offered transactions, responses sent, memory and the bursts whose answers will be discarded are kept (logs 5,
14, 9, 15); the settings stand at R191's defaults until start-up has read the image (log 13), and the key unit's
working state EMPTY until start-up rebuilds it (log 31); power-on begins start-up at once (log 12); RESET_RELEASE changes
nothing where the reset input is not asserted (log 2). -/
def Obligations.ResetDropsTheVolatileState : Prop :=
  (∀ (s : State) (c : Instr) (ph : Phase) (cause : ResetCause), Quiet s →
    (c, ph, cause) ∈ [(Instr.powerOn, Phase.starting, ResetCause.powerOn),
      (Instr.resetLine, Phase.held, ResetCause.resetLine)] →
    ∃ nv free,
      exec c s = .next { State.reset with
        phase := ph
        cause := cause
        path := { PathFront.reset with
          offered := s.path.offered
          responses := s.path.responses
          abandoned := s.path.abandoned ++ s.path.outstanding }
        totals := Totals.reset nv.lastClosed
        nv := nv
        dram := s.dram
        freeCount := free
        pending := s.pending } ∧
      (nv = { s.nv with requests := [], writing := none } ∨
        ∃ w, s.nv.writing = some w ∧ nv = { writeLands w s.nv with requests := [], writing := none })) ∧
  ∀ s : State, exec .resetRelease s = .next (if s.phase = .held then { s with phase := .starting } else s)

/-- R193, R15, R146, R152, R184: at the end of start-up every block begins with the settings the stored image gives;
the store write of a start-up exhaustion is requested; every channel that exists owes a write and issues its first
block, W0 to W3 and then STORE (R9, R13, R162, R166); then what waits at the port is accepted (R1). From the part as a
reset leaves it the first blocks lead the internal write queue, taken from the blocks' reset states: the STORE block
shows no lane event and every lane ABSENT, its bytes 40 to 127 all 0 (R57, R83). Of the key unit, R146: C restarts at
the stored mark in both acquirer slots; an ACTIVE key stored with mark 1,048,576 is exhausted, and a LOADED ACQ_NEXT
then promoted; no request waits, COUNTER_STORE is clear. Outside start-up the command changes nothing (the model's
choice, log 2). The order of the channels' blocks before what is accepted at the port is the model's (log 3). -/
def Obligations.StartUpEndBeginsEveryBlock : Prop :=
  (∀ s : State, s.phase = .starting →
    exec .startUpEnd s = .next (acceptOffered (reportDue { s with
      phase := .running
      settings := imageSettings s.nv
      intake :=
        { windows := (imageSettings s.nv).map.intake.map fun w =>
            ⟨if w.enabled then List.replicate w.count .free else [], 0, 0, 0⟩
          holds := []
          serial := 0 }
      keys := startKeys s.nv.keys
      totals := Totals.reset s.nv.lastClosed
      report := (List.range 5).map fun ch =>
        { Channel.reset (channelExists (imageSettings s.nv).map ch) with
          owed := channelExists (imageSettings s.nv).map ch }
      port := Port.reset
      nv := if exhaustedAtStart s.nv.keys then { s.nv with requests := s.nv.requests ++ [.keyStore none false] }
        else s.nv }))) ∧
  (∀ s : State, s.phase ≠ .starting → exec .startUpEnd s = .next s) ∧
  (∀ (s : State) (first : Nat → List Byte), s.phase = .starting → s.path.queue = [] → s.path.waiting = [] →
    s.lanes = LaneTable.reset →
    (∀ ch, first ch = if ch = 4 then
        storeBlock (Channel.reset true) s.cause s.sweepCount (imageSettings s.nv) (startKeys s.nv.keys) s.directives.done
          (Totals.reset s.nv.lastClosed) LaneTable.reset
      else windowBlock (Channel.reset true) ch s.cause
        ⟨List.replicate (windowAt (imageSettings s.nv).map ch).count .free, 0, 0, 0⟩) →
    slice (first 4) 40 88 = List.replicate 88 0 ∧
    ∃ t more, exec .startUpEnd s = .next t ∧
      t.path.queue = ((List.range 5).filter (channelExists (imageSettings s.nv).map)).map (fun ch =>
        entryOfBytes (.statusBlock ch) ((imageSettings s.nv).map.statusBase + 128 * ch) (first ch)) ++ more) ∧
  (∀ s : State, s.phase = .starting →
    ∃ t, exec .startUpEnd s = .next t ∧ t.keys.counterStore = false ∧ t.keys.waiting = false ∧
      (s.nv.keys.current.state ≠ .active ∨ s.nv.keys.currentMark ≠ 1048576 →
        t.keys.store = s.nv.keys ∧ t.keys.currentC = s.nv.keys.currentMark ∧ t.keys.nextC = s.nv.keys.nextMark) ∧
      (s.nv.keys.current.state = .active → s.nv.keys.currentMark = 1048576 → s.nv.keys.next.state = .loaded →
        t.keys.store = { s.nv.keys with
          current := { s.nv.keys.next with state := .active }
          currentMark := 1
          next := KeySlot.empty
          nextMark := 0
          highestId := s.nv.keys.next.id } ∧ t.keys.currentC = 1 ∧ t.keys.nextC = 0) ∧
      (s.nv.keys.current.state = .active → s.nv.keys.currentMark = 1048576 → s.nv.keys.next.state ≠ .loaded →
        t.keys.store = { s.nv.keys with current := { s.nv.keys.current with state := .spent } } ∧
          t.keys.currentC = 1048576))

/-- R191: the outcome of each group: group 0 is always read; a group 1 to 4 whose control bit is clear is DEFAULTED;
one that is read is LOADED where its words sum to 0 modulo 65536, else CHECK_FAILED. A LOADED group gives its words,
clamped; any other gives the defaults (the base of a disabled status window is the model's choice, log 13, and so is
the low half of a 32-bit field in its first word, log 24). R192: the status window enters the map first; an intake
window that asks to be enabled is disabled, its overlap bit set, exactly when it shares a byte with the status window
or with an earlier window of the map. R2: whatever the stored image holds, the settings are legal: every field in its
range, every window aligned and below 2^40, and no two enabled windows sharing an address. -/
def Obligations.ImageGivesTheSettings : Prop :=
  ∀ (n : NvStore) (c : Settings) (word : Nat → Nat → Nat) (loaded : Nat → Prop), c = imageSettings n →
    (∀ g i, word g i = ((n.groups.getD g []).getD i 0).toNat) →
    (∀ g, loaded g ↔ c.outcomes[g]? = some .loaded) →
    SettingsLegal c ∧
    (∀ g < 5, c.outcomes[g]? = some
      (if g ≠ 0 ∧ n.control.getLsbD g = false then .defaulted
      else if ((n.groups.getD g []).map (·.toNat)).sum % 65536 = 0 then .loaded else .checkFailed)) ∧
    (loaded 0 → c.storeNumber = word 0 0 + 65536 * word 0 1 ∧ (c.map.statusEnabled = true ↔ word 0 2 % 2 = 1) ∧
      c.map.statusBase = (word 0 3 + 65536 * word 0 4) % 2 ^ 28 * 4096) ∧
    (¬loaded 0 → c.storeNumber = 0 ∧ c.map.statusEnabled = false) ∧
    (loaded 1 → ∀ v < 4, ∃ w, c.map.intake[v]? = some w ∧
      w.slotSize = (if 512 ≤ word 1 (5 * v + 3) then 512 else 256) ∧
      w.count = (if word 1 (5 * v + 4) < 32 then 16 else if word 1 (5 * v + 4) < 64 then 32
        else if word 1 (5 * v + 4) < 128 then 64 else if word 1 (5 * v + 4) < 256 then 128 else 256) ∧
      w.base = min ((word 1 (5 * v + 1) + 65536 * word 1 (5 * v + 2)) % 2 ^ 28 * 4096)
        (2 ^ 40 - w.count * w.slotSize)) ∧
    (∀ v < 4, ∃ w, c.map.intake[v]? = some w ∧
      (w.enabled = true ↔ loaded 1 ∧ word 1 (5 * v) % 2 = 1 ∧ c.overlap[v]? = some false) ∧
      (c.overlap[v]? = some true ↔ loaded 1 ∧ word 1 (5 * v) % 2 = 1 ∧
        ((c.map.statusEnabled = true ∧ c.map.statusBase < w.base + w.count * w.slotSize ∧
            w.base < c.map.statusBase + 4096) ∨
          ∃ u < v, ∃ x, c.map.intake[u]? = some x ∧ x.enabled = true ∧ x.base < w.base + w.count * w.slotSize ∧
            w.base < x.base + x.count * x.slotSize))) ∧
    (∀ k < 8, c.priorities[k]? = some ((if c.outcomes[2]? = some .loaded then min 3 (word 2 k) else k / 2))) ∧
    (loaded 3 →
      c.sweepPeriod = (if word 3 0 < 15 then 10 else if word 3 0 < 30 then 20 else if word 3 0 < 60 then 40 else 80) ∧
      c.holdExpiry = max 1 (min 15 (word 3 1)) ∧ c.confirmTimeout = max 1 (min 255 (word 3 2)) ∧
      c.silenceThreshold = max 1 (min 255 (word 3 3)) ∧ c.coalesceCount = max 1 (min 64 (word 3 4)) ∧
      c.coalesceTime = min 255 (word 3 5) ∧ c.storeCoalesceTime = min 255 (word 3 6) ∧
      c.warnThreshold = word 3 7 + 65536 * word 3 8) ∧
    (¬loaded 3 → c.sweepPeriod = 40 ∧ c.holdExpiry = 3 ∧ c.confirmTimeout = 50 ∧ c.silenceThreshold = 250 ∧
      c.coalesceCount = 8 ∧ c.coalesceTime = 1 ∧ c.storeCoalesceTime = 0 ∧ c.warnThreshold = 1000000) ∧
    ∀ l < 48, c.policies[l]? = some (if c.outcomes[4]? = some .loaded then
        ⟨word 4 l % 2 == 1, word 4 l / 2 % 2 == 1⟩ else ⟨true, false⟩)

/-! ### The memory path -/

/-- R1: offered transactions are accepted in order, each as soon as the port is open and fewer than 8 accepted ones
wait for their responses; what cannot be accepted stays offered, behind what is offered. An offer is made and what can
be accepted is accepted, with the status writes that makes due (R166). R7: an accepted read goes whole into the
pass-through stream, with its address and length, behind what is there, and waits for one answer. An offer that waits
is kept by the model (log 5). -/
def Obligations.OffersAreAcceptedInOrder : Prop :=
  (∀ s : State, ∃ u taken rest, s.path.offered = taken ++ rest ∧ Accepts s taken u ∧
    (rest = [] ∨ u.phase ≠ .running ∨ 8 ≤ u.path.accepted.length) ∧
    acceptOffered s = { u with path := { u.path with offered := rest } }) ∧
  (∀ (s : State) (o : Offered) (c : Instr), Quiet s →
    (∃ addr beats, o = .write addr beats ∧ c = .upstreamWrite addr beats) ∨
      (∃ addr length, o = .read addr length ∧ c = .upstreamRead addr length) →
    exec c s = .next (reportDue (acceptOffered
      { s with path := { s.path with offered := s.path.offered ++ [o] } })) ∧
    (¬(s.phase = .running ∧ s.path.accepted.length < 8) →
      exec c s = .next { s with path := { s.path with offered := s.path.offered ++ [o] } })) ∧
  (∀ (s : State) (addr : BitVec 40) (length : Nat),
    acceptOne (.read addr length) s = { s with
      path := { s.path with
        stream := s.path.stream ++ [⟨.passThrough, addr.toNat, .read length⟩]
        accepted := s.path.accepted ++ [⟨true, 1, false, []⟩] } }) ∧
  ∀ (s : State) (addr : BitVec 40) (length : Nat), Ready s →
    exec (.upstreamRead addr length) s = .next (acceptOne (.read addr length) s)

/-- R3 to R6, R19: an accepted write of at most 16 beats, whatever it holds. Each beat that is not empty and lies in no
enabled intake window is forwarded, once and in beat order, with its address, data and strobes; the bursts are the runs
of beats that stand next to each other and lie in one aligned 4 KiB block, behind what is in the pass-through stream.
Each intake beat that is not empty goes to its slot, in beat order, the ones next to each other in one slot as one slot
write. The transaction waits for one answer for each burst; its response is ERROR if a slot write was refused; and the
responses that are then complete are sent in acceptance order. Alone at an open port: a write of plain and status beats
in one 4 KiB block is forwarded whole, and one of empty beats is answered OKAY at acceptance. -/
def Obligations.WritesAreForwardedByTheirBeats : Prop :=
  (∀ (s : State) (addr : BitVec 40) (beats : List Beat), beats.length ≤ 16 →
    ∃ (bursts : List Burst) (groups : List SlotWrite) (u : State) (refused : Bool),
      bursts.flatMap (fun b => match b.op with
        | .write run => run.zipIdx.map fun x => (b.addr + 8 * x.2, x.1)
        | .read _ => []) =
        beats.zipIdx.filterMap (fun x => if x.1.strobes = 0#8 then none
          else match classOf s.settings.map (beatAddr addr x.2) with
            | .intake _ _ _ => none
            | _ => some (beatAddr addr x.2, x.1)) ∧
      (∀ b ∈ bursts, b.origin = .passThrough ∧ ∃ run, b.op = .write run ∧ run ≠ [] ∧
        ∀ i < run.length, (b.addr + 8 * i) / 4096 = b.addr / 4096) ∧
      bursts.IsChain (fun x y => ∀ run, x.op = .write run →
        y.addr ≠ x.addr + 8 * run.length ∨ y.addr / 4096 ≠ x.addr / 4096) ∧
      groups.flatMap (fun g => g.beats.map fun b => (g.window, g.slot, b.1, b.2)) =
        beats.zipIdx.filterMap (fun x => if x.1.strobes = 0#8 then none
          else match classOf s.settings.map (beatAddr addr x.2) with
            | .intake w slot offset => some (w, slot, offset, x.1)
            | _ => none) ∧
      (∀ g ∈ groups, g.beats ≠ []) ∧ groups.IsChain (fun x y => (x.window, x.slot) ≠ (y.window, y.slot)) ∧
      SlotWritesTaken s groups u refused ∧
      ∀ waiting, waiting = u.path.accepted ++ [⟨false, bursts.length, refused, []⟩] →
      acceptOne (.write addr beats) s = { u with
        path := { u.path with
          stream := u.path.stream ++ bursts
          responses := u.path.responses ++
            (waiting.takeWhile fun x => x.awaiting == 0).map fun x => ⟨x.isRead, !x.failed, x.data⟩
          accepted := waiting.dropWhile fun x => x.awaiting == 0 } }) ∧
  (∀ (s : State) (addr : BitVec 40) (beats : List Beat), Ready s → beats ≠ [] →
    (∀ b ∈ beats, b.strobes ≠ 0) →
    (∀ i < beats.length, ∀ w slot offset, classOf s.settings.map (beatAddr addr i) ≠ .intake w slot offset) →
    (∀ i < beats.length, beatAddr addr i / 4096 = beatAddr addr 0 / 4096) →
    exec (.upstreamWrite addr beats) s = .next { s with
      path := { s.path with
        stream := s.path.stream ++ [⟨.passThrough, beatAddr addr 0, .write beats⟩]
        accepted := s.path.accepted ++ [⟨false, 1, false, []⟩] } }) ∧
  ∀ (s : State) (addr : BitVec 40) (beats : List Beat), Ready s → s.path.accepted = [] →
    (∀ b ∈ beats, b.strobes = 0) →
    exec (.upstreamWrite addr beats) s =
      .next { s with path := { s.path with responses := s.path.responses ++ [⟨false, true, []⟩] } }

/-- R5, R19, R22: a slot write to a slot that is not to take it is refused whole, one added for each of its beats to
the count of its window's channel that matches: COLLISION for a QUEUED, WORKING or WRITING slot, OVERRUN for a DONE or
RELEASED one, EXHAUSTED for a FREE one with no hold free; no slot, no hold and no byte changes. A write with beats for
that slot alone, with no transaction waiting, is answered ERROR and forwards nothing. -/
def Obligations.RefusedBeatsAreCounted : Prop :=
  (∀ (s : State) (sw : SlotWrite) (id : CountId),
    (((slotState s sw.window sw.slot = some .queued ∨ slotState s sw.window sw.slot = some .working ∨
        slotState s sw.window sw.slot = some .writing) ∧ id = .collision) ∨
      ((slotState s sw.window sw.slot = some .done ∨ slotState s sw.window sw.slot = some .released) ∧ id = .overrun) ∨
      (slotState s sw.window sw.slot = some .free ∧ 16 ≤ s.intake.holds.length ∧ id = .exhausted)) →
    slotRefusal s sw.window sw.slot = some id ∧
    takeSlotWrite sw s = { s with report := updAt s.report sw.window (countOn id sw.beats.length) }) ∧
  ∀ (s : State) (addr : BitVec 40) (beats : List Beat) (w slot : Nat) (id : CountId), Ready s → s.path.accepted = [] →
    SlotOnly s addr beats w slot → slotRefusal s w slot = some id →
    exec (.upstreamWrite addr beats) s = .next (reportDue { s with
      path := { s.path with responses := s.path.responses ++ [⟨false, false, []⟩] }
      report := updAt s.report w (countOn id (intakeBeats s.settings.map addr beats).length) })

/-- R19 to R21, R23 to R27: a slot write to a FREE slot while a hold is free, or to a FILLING one, is merged into the
slot's hold (a FREE slot gets one, opened at the current sweep count, and becomes FILLING), and the header is recorded.
Where the hold then passes the completion test the slot becomes QUEUED: the hold receives the completion serial, the
serial rises by one, and the engine queue receives the slot's entry, after an idle engine has taken what waited before
it (R87). No other slot changes but the one so taken, no other hold, and no index or gap age of any window. A write
with beats for that slot alone, with no transaction waiting, is answered OKAY and forwards nothing. -/
def Obligations.SlotWritesFillTheHold : Prop :=
  (∀ (s : State) (sw : SlotWrite) (before filled : Hold) (v t : State),
    ((slotState s sw.window sw.slot = some .filling ∧ holdOf s sw.window sw.slot = some before) ∨
      (slotState s sw.window sw.slot = some .free ∧ s.intake.holds.length < 16 ∧ holdOf s sw.window sw.slot = none ∧
        before = ⟨sw.window, sw.slot, ringIndexOf (windowSlots s sw.window) sw.slot, s.sweepCount,
          List.replicate 512 none, none, false, false, none⟩)) →
    (⟨sw.window, sw.slot⟩ : QueueEntry) ∉ s.engine.queue →
    filled = recordHeader (windowOfMap s sw.window).slotSize (mergeBeats sw.beats before) → v = takeNext s →
    t = takeSlotWrite sw s →
    slotRefusal s sw.window sw.slot = none ∧
    (holdComplete filled = false →
      slotState t sw.window sw.slot = some .filling ∧ holdOf t sw.window sw.slot = some filled ∧
      t.intake.serial = s.intake.serial ∧ t.engine = s.engine ∧
      ∀ w slot, (w, slot) ≠ (sw.window, sw.slot) → slotState t w slot = slotState s w slot) ∧
    (holdComplete filled = true →
      slotState t sw.window sw.slot = some .queued ∧
      holdOf t sw.window sw.slot = some { filled with expired := false, serial := some s.intake.serial } ∧
      t.intake.serial = s.intake.serial + 1 ∧
      t.engine = { v.engine with queue := v.engine.queue ++ [⟨sw.window, sw.slot⟩] } ∧
      ∀ w slot, (w, slot) ≠ (sw.window, sw.slot) → slotState t w slot = slotState v w slot) ∧
    (∀ w slot, (w, slot) ≠ (sw.window, sw.slot) → holdOf t w slot = holdOf s w slot) ∧
    t.intake.holds.length = s.intake.holds.length + (if slotState s sw.window sw.slot = some .free then 1 else 0) ∧
    (∀ w, (windowSlots t w).release = (windowSlots s w).release ∧
      (windowSlots t w).consumed = (windowSlots s w).consumed ∧ (windowSlots t w).gapAge = (windowSlots s w).gapAge) ∧
    t = { s with intake := t.intake, engine := t.engine }) ∧
  ∀ (s : State) (addr : BitVec 40) (beats : List Beat) (w slot : Nat), Ready s → s.path.accepted = [] →
    SlotOnly s addr beats w slot → slotRefusal s w slot = none →
    exec (.upstreamWrite addr beats) s = .next
      { takeSlotWrite ⟨w, slot, intakeBeats s.settings.map addr beats⟩ s with
        path := { s.path with responses := s.path.responses ++ [⟨false, true, []⟩] } }

/-- R21: merging a beat writes exactly its strobed bytes, each at the beat's offset plus its position. R23, R24: once
bytes 0 to 31 are all written the header is recorded from them; a declared length from 32 to the slot size is the
effective length and clears the length fault, any other gives the slot size and sets it. Before that the hold keeps its
header. -/
def Obligations.HoldsTakeBytesAndHeaders : Prop :=
  (∀ (bytes : List (Option Byte)) (offset : Nat) (b : Beat) (i : Nat), i < bytes.length →
    (mergeBeat bytes (offset, b))[i]? =
      if offset ≤ i ∧ i < offset + 8 ∧ beatStrobe b (i - offset) = true then some (some (beatByte b (i - offset)))
      else bytes[i]?) ∧
  ∀ (size : Nat) (h : Hold),
    ((∃ i < 32, h.bytes.getD i none = none) → recordHeader size h = h) ∧
    ((∀ i < 32, (h.bytes.getD i none).isSome = true) →
      recordHeader size h = { h with
        header := some
          { kind := heldByte h 0
            version := heldByte h 1
            lane := heldByte h 2
            cls := (heldByte h 3).toNat % 8
            declared := heldNat h 4 2
            effective := if 32 ≤ heldNat h 4 2 ∧ heldNat h 4 2 ≤ size then heldNat h 4 2 else size }
        lengthFault := !(decide (32 ≤ heldNat h 4 2) && decide (heldNat h 4 2 ≤ size)) })

/-- R10: a grant sends one burst downstream while fewer than 16 wait for answers (those issued before a reset and not
yet answered among them: read from R10 and R14 by inference, log 15); when both requesters wait, the one that holds the
turn is granted, and the turn passes to the other; when one waits it is granted whoever holds the turn. R9: the head
entry leaves the queue with its last burst. -/
def Obligations.GrantFollowsTheTurn : Prop :=
  ∀ (s : State) (waiting : Nat), Quiet s → waiting = s.path.abandoned.length + s.path.outstanding.length →
    (16 ≤ waiting → exec .downstreamGrant s = .next s) ∧
    (s.path.stream = [] → s.path.queue = [] → exec .downstreamGrant s = .next s) ∧
    (∀ b rest, waiting < 16 → s.path.stream = b :: rest → (s.path.queue = [] ∨ s.path.turnInternal = false) →
      exec .downstreamGrant s = .next { s with
        path := { s.path with
          stream := rest
          outstanding := s.path.outstanding ++ [b]
          turnInternal := true } }) ∧
    (∀ e rest b more, waiting < 16 → s.path.queue = e :: rest → e.bursts = b :: more →
      (s.path.stream = [] ∨ s.path.turnInternal = true) →
      exec .downstreamGrant s = .next { s with
        path := { s.path with
          queue := if more = [] then rest else { e with bursts := more } :: rest
          outstanding := s.path.outstanding ++ [b]
          turnInternal := false } })

/-- R8, R12, R14: the oldest burst is answered, one issued before a reset before any other. A write burst answered OKAY
is in memory, byte for byte where its strobes are set, and no other byte has changed; of one answered ERROR each such
byte may or may not be (a free value, log 8), and no other byte changes; a read changes no byte. R160: of a batch
summary cut by a reset memory holds only the bursts answered before the reset: a later answer writes nothing. R11: the
answer to a burst of an internal entry is kept with the entry, and with its last burst the entry is acknowledged to its
producer, ERROR if any of its bursts was; the answer to a burst issued before a reset is discarded; neither changes
anything else but memory. With no burst waiting, an answer changes nothing (the model's choice, log 2); that writes
land when they are answered is the model's (logs 9, 15). -/
def Obligations.AnswersReachMemory : Prop :=
  (∀ (s : State) (b : Burst) (okay : Bool) (data : List Byte), Quiet s →
    (s.path.abandoned ++ s.path.outstanding).head? = some b →
    ∃ t, exec (.downstreamAnswer okay data) s = .next t ∧
      (∀ beats, b.op = .write beats → ∀ a,
        (s.path.abandoned ≠ [] → (∃ last, b.origin = .internal .summary last) → t.dram = s.dram) ∧
        (s.path.abandoned = [] ∨ (∀ last, b.origin ≠ .internal .summary last) →
          (okay = true → memGet a t.dram = (burstByte b.addr beats a).or (memGet a s.dram)) ∧
          (okay = false → memGet a t.dram = memGet a s.dram ∨
            (burstByte b.addr beats a ≠ none ∧ memGet a t.dram = burstByte b.addr beats a)))) ∧
      (∀ length, b.op = .read length → t.dram = s.dram)) ∧
  ∀ (s : State) (okay : Bool) (data : List Byte), Quiet s →
    (∀ b rest, s.path.abandoned = b :: rest →
      ∃ dram free, exec (.downstreamAnswer okay data) s = .next { s with
        path := { s.path with abandoned := rest }
        dram := dram
        freeCount := free }) ∧
    (∀ b rest kind last, NoneAcceptable s → s.path.abandoned = [] → s.path.outstanding = b :: rest →
      b.origin = .internal kind last →
      ∃ dram free, exec (.downstreamAnswer okay data) s = .next { s with
        path := { s.path with
          outstanding := rest
          entryFailed := !last && (s.path.entryFailed || !okay)
          acks := if last then s.path.acks ++ [⟨kind, okay && !s.path.entryFailed⟩] else s.path.acks }
        dram := dram
        freeCount := free }) ∧
    (s.path.abandoned = [] → s.path.outstanding = [] → exec (.downstreamAnswer okay data) s = .next s)

/-- R1, R6, R7, R11: the answer to a pass-through burst goes to the oldest accepted transaction with a burst not yet
answered, ERROR failing it, the data of a read passed to it; and the complete transactions at the front are answered
upstream in acceptance order, ERROR where a beat was refused or a burst answered ERROR. R8: the status beats of a write
burst are shown when, and only when, it is answered OKAY, in beat order: those of the return words at 0x280 to 0x2A7 to
the reporting unit by their channel, those of the index word at 0x2A8 and of the ring slots at 0x400 to 0x5FF to the
directive unit by their offset, and no other beat to either. Then what has come to be acceptable is accepted (R1).
Apart from that nothing changes but memory. -/
def Obligations.PassThroughAnswersCompleteTransactions : Prop :=
  ∀ (s : State) (okay : Bool) (data : List Byte) (b : Burst) (rest : List Burst) (before : List UpTxn) (x : UpTxn)
    (after now : List UpTxn) (shown : List (Nat × Beat)), Quiet s → s.path.abandoned = [] →
    s.path.outstanding = b :: rest → b.origin = .passThrough → s.path.accepted = before ++ x :: after →
    (∀ y ∈ before, y.awaiting = 0) → x.awaiting ≠ 0 →
    now = before ++ { x with
      awaiting := x.awaiting - 1
      failed := x.failed || !okay
      data := if x.isRead then x.data ++ data else x.data } :: after →
    shown = (match okay, b.op with
      | true, .write beats => beats.zipIdx.filterMap fun p =>
        match classOf s.settings.map (b.addr + 8 * p.2) with
        | .status offset => some (offset, p.1)
        | _ => none
      | _, _ => []) →
    ∃ dram free, exec (.downstreamAnswer okay data) s = .next (reportDue (acceptOffered { s with
      path := { s.path with
        outstanding := rest
        responses := s.path.responses ++
          (now.takeWhile fun y => y.awaiting == 0).map fun y => ⟨y.isRead, !y.failed, y.data⟩
        accepted := now.dropWhile fun y => y.awaiting == 0
        shownReturns := s.path.shownReturns ++ shown.filterMap fun p =>
          if 0x280 ≤ p.1 ∧ p.1 < 0x2A8 then some ⟨(p.1 - 0x280) / 8, p.2⟩ else none
        shownDirectives := s.path.shownDirectives ++ shown.filterMap fun p =>
          if p.1 = 0x2A8 ∨ (0x400 ≤ p.1 ∧ p.1 < 0x600) then some ⟨p.1, p.2⟩ else none }
      dram := dram
      freeCount := free }))

/-! ### Status words -/

/-- R39: an acting return word of a window channel whose consumed index lies in the span from the consumed to the
release index, both ends included, frees exactly the slots at the indices it passes, and becomes the consumed index. No
release index, no hold, no other window and no lane changes. R40: a consumed index outside the span is ignored and
raises RETURN_IGNORED, before the rest of the return word is taken as ever (R172). R51: a return word with a strobe
clear is taken and not acted on. R162: neither is one of a channel that does not exist. With none shown nothing changes
(log 2). -/
def Obligations.ReturnWordsFreeSlots : Prop :=
  (∀ (s : State) (ch : Nat) (b : Beat) (rest : List ShownReturn), Quiet s → ch < 4 →
    s.path.shownReturns = ⟨ch, b⟩ :: rest → b.strobes = 255 → (channelAt s ch).present = true →
    (BitVec.ofNat 16 (beatNat b 2 2) - (windowSlots s ch).consumed).toNat ≤
      ((windowSlots s ch).release - (windowSlots s ch).consumed).toNat →
    s.intake.windows.length = 4 →
    ∃ t, exec .returnWord s = .next (reportDue t) ∧
      (windowSlots t ch).consumed = BitVec.ofNat 16 (beatNat b 2 2) ∧
      (windowSlots t ch).release = (windowSlots s ch).release ∧ (windowSlots t ch).gapAge = (windowSlots s ch).gapAge ∧
      (∀ j, j < (windowSlots s ch).slots.length →
        (windowSlots t ch).slots[j]? =
          if ∃ k < (BitVec.ofNat 16 (beatNat b 2 2) - (windowSlots s ch).consumed).toNat,
            slotOfIndex (windowSlots s ch) ((windowSlots s ch).consumed + BitVec.ofNat 16 k) = j
          then some .free else (windowSlots s ch).slots[j]?) ∧
      (windowSlots t ch).slots.length = (windowSlots s ch).slots.length ∧
      (∀ w ≠ ch, windowSlots t w = windowSlots s w) ∧
      t = { s with
        path := { s.path with shownReturns := rest }
        intake := { s.intake with windows := t.intake.windows }
        report := updAt s.report ch (returnTaken (beatNat b 0 1)) }) ∧
  (∀ (s : State) (ch : Nat) (b : Beat) (rest : List ShownReturn), Quiet s → ch < 4 →
    s.path.shownReturns = ⟨ch, b⟩ :: rest → b.strobes = 255 → (channelAt s ch).present = true →
    ((windowSlots s ch).release - (windowSlots s ch).consumed).toNat <
      (BitVec.ofNat 16 (beatNat b 2 2) - (windowSlots s ch).consumed).toNat →
    exec .returnWord s = .next (reportDue { s with
      path := { s.path with shownReturns := rest }
      report := updAt s.report ch fun c => returnTaken (beatNat b 0 1) (raiseReturnIgnored c) })) ∧
  (∀ (s : State) (ch : Nat) (b : Beat) (rest : List ShownReturn), Quiet s →
    s.path.shownReturns = ⟨ch, b⟩ :: rest → (b.strobes ≠ 255 ∨ (channelAt s ch).present = false) →
    exec .returnWord s = .next { s with path := { s.path with shownReturns := rest } }) ∧
  ∀ s : State, Quiet s → s.path.shownReturns = [] → exec .returnWord s = .next s

/-- R172 to R174: an acting return word clears pending and sets armed whatever its tag. A tag equal to the reported
tag, which is not 0, reduces each count by its snapshot, sets the snapshot to 0 and turns REPORTED attention flags
CLEAR, PENDING ones staying; any other tag changes no count and no flag, and makes a dirty channel owe a write. R82: a
STORE return word whose tag matches also clears every REPORTED event of every lane, keeps the PENDING ones, and clears
the silent latch of each lane whose SILENT event was REPORTED; one that does not match changes no lane. -/
def Obligations.ReturnWordsAcknowledgeTheBlock : Prop :=
  (∀ (c : Channel) (tag : Nat),
    (tag = c.reportedTag → c.reportedTag ≠ 0 →
      returnTaken tag c = { c with
        pending := false
        armed := true
        counts := reduceCounts c.counts c.snapshot
        snapshot := ⟨0, 0, 0, 0, 0, 0, 0, 0, 0⟩
        returnIgnored := if c.returnIgnored = .pending then .pending else .clear
        writeFault := if c.writeFault = .pending then .pending else .clear }) ∧
    (tag ≠ c.reportedTag ∨ c.reportedTag = 0 →
      returnTaken tag c = { c with
        pending := false
        armed := true
        owed := c.owed || c.dirty })) ∧
  (∀ a b : Counts, countsList (reduceCounts a b) = List.zipWith (· - ·) (countsList a) (countsList b)) ∧
  ∀ (s : State) (b : Beat) (rest : List ShownReturn), Quiet s → s.path.shownReturns = ⟨4, b⟩ :: rest →
    b.strobes = 255 → (channelAt s 4).present = true →
    (beatNat b 0 1 = (channelAt s 4).reportedTag ∧ (channelAt s 4).reportedTag ≠ 0 →
      exec .returnWord s = .next (reportDue { s with
        path := { s.path with shownReturns := rest }
        report := updAt s.report 4 (returnTaken (beatNat b 0 1))
        lanes := { s.lanes with entries := s.lanes.entries.map fun l => { l with
          enrolment := if l.enrolment = .reported then .clear else l.enrolment
          fault := if l.fault = .reported then .clear else l.fault
          silent := if l.silent = .reported then .clear else l.silent
          latch := if l.silent = .reported then false else l.latch } } })) ∧
    (¬(beatNat b 0 1 = (channelAt s 4).reportedTag ∧ (channelAt s 4).reportedTag ≠ 0) →
      exec .returnWord s = .next (reportDue { s with
        path := { s.path with shownReturns := rest }
        report := updAt s.report 4 (returnTaken (beatNat b 0 1)) }))

/-- R178: an index word with all strobes set reads p' from its bytes 0 and 1. With d = p' - done: the producer index
becomes done + 1 where d is 0 and a directive is in progress, else p' where d is at most 16, else done + 16. R51: with
a strobe clear it is taken and not acted on. R177: a beat shown for a ring slot copies its strobed bytes into that
slot's capture, each marked present, and changes no other byte of any capture. Where the oldest shown beat is none of
its kind, or none is shown, nothing changes (log 2). -/
def Obligations.DirectiveBeatsAreTaken : Prop :=
  (∀ (s : State) (b : Beat) (rest : List ShownBeat), Quiet s → s.path.shownDirectives = ⟨0x2A8, b⟩ :: rest →
    exec .directiveIndexWord s = .next { s with
      path := { s.path with shownDirectives := rest }
      directives := { s.directives with
        producer :=
          if b.strobes ≠ 255 then s.directives.producer
          else if BitVec.ofNat 16 (beatNat b 0 2) - s.directives.done = 0 ∧ s.directives.inProgress.isSome = true then
            s.directives.done + 1
          else if (BitVec.ofNat 16 (beatNat b 0 2) - s.directives.done).toNat ≤ 16 then BitVec.ofNat 16 (beatNat b 0 2)
          else s.directives.done + 16 } }) ∧
  (∀ s : State, Quiet s → (∀ x ∈ s.path.shownDirectives.head?, x.offset ≠ 0x2A8) →
    exec .directiveIndexWord s = .next s) ∧
  (∀ (s : State) (offset : Nat) (b : Beat) (rest : List ShownBeat), Quiet s →
    s.path.shownDirectives = ⟨offset, b⟩ :: rest → 0x400 ≤ offset → offset < 0x600 → offset % 8 = 0 →
    s.directives.captures.length = 16 → (∀ c ∈ s.directives.captures, c.length = 32) →
    ∃ t, exec .directiveSlotWrite s = .next t ∧
      (∀ slot < 16, ∀ i < 32,
        (t.directives.captures.getD slot []).getD i none =
          if 0x400 + 32 * slot + i < offset ∨ offset + 8 ≤ 0x400 + 32 * slot + i then
            (s.directives.captures.getD slot []).getD i none
          else if beatStrobe b (0x400 + 32 * slot + i - offset) then
            some (beatByte b (0x400 + 32 * slot + i - offset))
          else (s.directives.captures.getD slot []).getD i none) ∧
      t = { s with
        path := { s.path with shownDirectives := rest }
        directives := { s.directives with captures := t.directives.captures } }) ∧
  ∀ s : State, Quiet s → (∀ x ∈ s.path.shownDirectives.head?, x.offset = 0x2A8) →
    exec .directiveSlotWrite s = .next s

/-! ### Acknowledgements -/

/-- R36 to R38, R12: the acknowledgement of a write-back frees the slot's hold and makes the slot DONE; that of a void
record makes its slot DONE and frees no hold. An ERROR adds one to the write-back fault count of the window's channel.
Then the release cursor passes the DONE slots in front of it, making them RELEASED, and each release is told to the
channel, and the write that is then due is issued (R166). Nothing else changes. -/
def Obligations.SlotAcknowledgementsRelease : Prop :=
  ∀ (s : State) (c : Instr) (kind : EntryKind) (w slot : Nat) (okay : Bool) (before after : List Ack), Quiet s →
    s.path.acks = before ++ ⟨kind, okay⟩ :: after →
    (c = .writeBackAck ∧ kind = .writeBack w slot ∧ (∀ a ∈ before, isWriteBack a.kind = false) ∨
      c = .voidRecordAck ∧ kind = .voidRecord w slot ∧ (∀ a ∈ before, isVoid a.kind = false)) →
    w < s.intake.windows.length →
    ∃ t k, exec c s = .next (reportDue t) ∧
      Released { windowSlots s w with slots := updAt (windowSlots s w).slots slot fun _ => .done } (windowSlots t w) k ∧
      (∀ v ≠ w, windowSlots t v = windowSlots s v) ∧
      t.intake.holds = (if c = .writeBackAck then s.intake.holds.filter fun h => !(h.window == w && h.slot == slot)
        else s.intake.holds) ∧
      t.report = updAt s.report w (fun ch =>
        releaseTimes k (if okay then ch else countOn .writeFaults 1 ch)) ∧
      t = { s with
        path := { s.path with acks := before ++ after }
        intake := { s.intake with windows := t.intake.windows, holds := t.intake.holds }
        report := t.report }

/-- R169, R163, R170: the acknowledgement of a channel's status write clears in flight, leaves pending set and armed
clear, and advances the next tag to (next tag mod 255) + 1; ERROR raises WRITE_FAULT; the interrupt line is then
asserted. R157, R158, R12: the summary's acknowledgement records the closed batch's number as the last summary, sets
summary-ready, makes STORE dirty, and ends the close: STORE_FAULT where the batch number write failed, else NO_NEXT_KEY
where the roll was so answered, else DONE. R179: the result's acknowledgement advances the done index by one, makes
STORE dirty, and ends the directive. An ERROR also raises STORE's WRITE_FAULT. Each issues within it the status writes
that are then due (R166). With no acknowledgement of its kind delivered a command changes nothing (log 2). -/
def Obligations.ReportingAcknowledgementsAreTaken : Prop :=
  (∀ (s : State) (ch : Nat) (okay : Bool) (before after : List Ack), Quiet s →
    s.path.acks = before ++ ⟨.statusBlock ch, okay⟩ :: after → (∀ a ∈ before, isStatus a.kind = false) →
    ch < s.report.length → (channelAt s ch).armed = !(channelAt s ch).pending →
    ∃ t, t = { s with
        path := { s.path with acks := before ++ after }
        report := updAt s.report ch fun c => (if okay then id else raiseWriteFault (ch == 4)) { c with
          inFlight := false
          pending := true
          armed := false
          nextTag := c.nextTag % 255 + 1 } } ∧
      interruptLine t.report = true ∧ exec .statusWriteAck s = .next (reportDue t)) ∧
  (∀ (s : State) (okay : Bool) (before after : List Ack) (c : Close), Quiet s →
    s.path.acks = before ++ ⟨.summary, okay⟩ :: after → (∀ a ∈ before, a.kind ≠ .summary) →
    s.totals.close = some c →
    exec .summaryAck s = .next (reportDue { s with
      path := { s.path with acks := before ++ after }
      totals := { s.totals with lastSummary := c.snapshot.number, summaryReady := true, close := none }
      report := updAt s.report 4 fun ch => if okay then dirtyOn ch else raiseWriteFault true (dirtyOn ch)
      directives := { s.directives with
        inProgress := s.directives.inProgress.map fun p => { p with
          result := some
            (if c.numberOutcome = some false then .storeFault
            else if c.roll = .noNextKey then .noNextKey else .done) } } })) ∧
  (∀ (s : State) (okay : Bool) (before after : List Ack), Quiet s →
    s.path.acks = before ++ ⟨.directiveResult, okay⟩ :: after → (∀ a ∈ before, a.kind ≠ .directiveResult) →
    exec .directiveResultAck s = .next (reportDue { s with
      path := { s.path with acks := before ++ after }
      directives := { s.directives with done := s.directives.done + 1, inProgress := none }
      report := updAt s.report 4 fun ch => if okay then dirtyOn ch else raiseWriteFault true (dirtyOn ch) })) ∧
  ∀ (s : State) (c : Instr) (mine : EntryKind → Bool), Quiet s →
    (c, mine) ∈ [(Instr.writeBackAck, isWriteBack), (.voidRecordAck, isVoid), (.statusWriteAck, isStatus),
      (.summaryAck, isSummary), (.directiveResultAck, isResult)] →
    (∀ a ∈ s.path.acks, mine a.kind = false) → exec c s = .next s

/-! ### Directives -/

/-- R153 to R155, R140, R180, R152, R158, R144: a BATCH_CLOSE starts a close: the open batch becomes the snapshot, the
next batch opens empty with the next number, summary-ready clears, and the write of the closed batch's number is
requested. With the roll flag and a LOADED ACQ_NEXT the key unit first promotes it, with C and mark 1, requests its key
store write, and makes STORE owe a write; with an EMPTY one the answer NO_NEXT_KEY is kept. The directive is in
progress, its capture emptied. The status writes that are then due are issued (R166). Nothing else changes. -/
def Obligations.BatchCloseStartsTheClose : Prop :=
  ∀ (s : State) (roll : Bool), TakeDone s → s.directives.done ≠ s.directives.producer → s.directives.inProgress = none →
    codeOf (doneCapture s.directives) = .batchClose → (captureByte (doneCapture s.directives) 1).getLsbD 0 = roll →
    ∃ t, exec .batchClose s = .next (reportDue t) ∧
      t.totals = { s.totals with
        batch := Batch.fresh (if s.totals.batch.number = 4294967295 then 1 else s.totals.batch.number + 1) false
        lastClosed := s.totals.batch.number
        summaryReady := false
        close := some
          { snapshot := s.totals.batch
            roll := if roll = false then .notAsked
              else if s.keys.store.next.state = .loaded then .promoted s.keys.store.next.id else .noNextKey
            numberOutcome := none
            summary := none } } ∧
      (roll = true → s.keys.store.next.state = .loaded →
        t.keys = { s.keys with
          store := { s.keys.store with
            current := { s.keys.store.next with state := .active }
            currentMark := 1
            next := KeySlot.empty
            nextMark := 0
            highestId := s.keys.store.next.id }
          currentC := 1
          nextC := 0 } ∧
        t.nv.requests = s.nv.requests ++ [.keyStore none false, .batchNumber s.totals.batch.number] ∧
        t.report = updAt s.report 4 oweOn) ∧
      (roll = false ∨ s.keys.store.next.state ≠ .loaded →
        t.keys = s.keys ∧ t.nv.requests = s.nv.requests ++ [.batchNumber s.totals.batch.number] ∧
        t.report = s.report) ∧
      t = { s with
        totals := t.totals
        keys := t.keys
        nv := { s.nv with requests := t.nv.requests }
        report := t.report
        directives := { s.directives with
          captures := updAt s.directives.captures (s.directives.done.toNat % 16) fun _ => captureEmpty
          inProgress := some ⟨none, false⟩ } }

/-- R69 to R71, R181: LANE_SUSPEND sets the suspended flag of the lane of byte 2 and LANE_RESUME clears it, nothing
else of the lane changing. LANE_FORGET makes the lane ABSENT and wipes its offer, agreement, deadline, sequence window,
last lane counter, failures, latch and SILENT event, raising ENROLMENT (and owing a STORE write, issued where it is
due, R166) unless it was ABSENT; the suspended flag and the silence count are kept. Each ends DONE. A lane above 47
ends BAD_LANE, changing no lane. That the lane keeps its event in a part without a status window too is the model's
choice (log 32). -/
def Obligations.LaneDirectivesChangeTheirLane : Prop :=
  ∀ (s : State) (lane : Nat), TakeDone s → s.directives.done ≠ s.directives.producer →
    s.directives.inProgress = none → (captureByte (doneCapture s.directives) 2).toNat = lane →
    (∀ (c : Instr) (code : DirectiveCode) (flag : Bool),
      (c, code, flag) ∈ [(Instr.laneSuspend, DirectiveCode.laneSuspend, true), (.laneResume, .laneResume, false)] →
      codeOf (doneCapture s.directives) = code →
      exec c s = .next { s with
        lanes := { s.lanes with
          entries := if lane ≤ 47 then updAt s.lanes.entries lane fun l => { l with suspended := flag }
            else s.lanes.entries }
        directives := { s.directives with
          captures := updAt s.directives.captures (s.directives.done.toNat % 16) fun _ => captureEmpty
          inProgress := some ⟨some (if lane ≤ 47 then .done else .badLane), false⟩ } }) ∧
    (codeOf (doneCapture s.directives) = .laneForget →
      exec .laneForget s = .next (reportDue { s with
        lanes := { s.lanes with
          entries := if lane ≤ 47 then
              updAt s.lanes.entries lane fun l => { l with
                state := .absent
                offer := none
                agreement := none
                deadline := none
                high := 0
                seen := 0
                lastCounter := 0
                failures := 0
                latch := false
                silent := .clear
                silentDue := false
                enrolment := if l.state = .absent then l.enrolment else .pending }
            else s.lanes.entries }
        report := if lane ≤ 47 ∧ (laneAt s lane).state ≠ .absent then updAt s.report 4 oweOn else s.report
        directives := { s.directives with
          captures := updAt s.directives.captures (s.directives.done.toNat % 16) fun _ => captureEmpty
          inProgress := some ⟨some (if lane ≤ 47 then .done else .badLane), false⟩ } }))

/-- R181, R179: STATUS_NOW makes every channel that exists owe a write, issued where it is due (R166), and ends DONE; a
code that no directive has ends UNKNOWN_CODE; a capture that lacks one of bytes 0 to 7 ends INCOMPLETE, whatever its
code. The last two have no other effect. R53: the codes of whole captures. A directive command that is not the code of
the directive at index done, or comes while none can be taken, changes nothing (log 2). -/
def Obligations.OtherDirectivesEndAtOnce : Prop :=
  (∀ s : State, TakeDone s → s.directives.done ≠ s.directives.producer → s.directives.inProgress = none →
    ∀ taken : DirectiveResult → DirectiveUnit,
      (∀ r, taken r = { s.directives with
        captures := updAt s.directives.captures (s.directives.done.toNat % 16) fun _ => captureEmpty
        inProgress := some ⟨some r, false⟩ }) →
      (codeOf (doneCapture s.directives) = .statusNow →
        exec .statusNow s = .next (reportDue { s with
          directives := taken .done
          report := s.report.map fun c => { c with owed := c.owed || c.present } })) ∧
      (codeOf (doneCapture s.directives) = .unknown →
        exec .unknownCode s = .next { s with directives := taken .unknownCode }) ∧
      ((∃ i < 8, (doneCapture s.directives).getD i none = none) →
        exec .incomplete s = .next { s with directives := taken .incomplete })) ∧
  (∀ (c : List (Option Byte)) (b : Byte), (∀ i < 8, (c.getD i none).isSome = true) → c.getD 0 none = some b →
    codeOf c = if b = 1 then .batchClose else if b = 2 then .laneSuspend else if b = 3 then .laneResume
      else if b = 4 then .laneForget else if b = 5 then .statusNow else .unknown) ∧
  ∀ (s : State) (c : Instr) (code : DirectiveCode),
    (c, code) ∈ [(Instr.batchClose, DirectiveCode.batchClose), (.laneSuspend, .laneSuspend), (.laneResume, .laneResume),
      (.laneForget, .laneForget), (.statusNow, .statusNow), (.unknownCode, .unknown), (.incomplete, .incomplete)] →
    TakeDone s →
    (s.directives.done = s.directives.producer ∨ s.directives.inProgress.isSome = true ∨
      codeOf (doneCapture s.directives) ≠ code) →
    exec c s = .next s

/-! ### The sweep -/

/-- R28, R30, R78, R131, R165: at a sweep the count rises by one, each window's gap age rises where the slot at its
release cursor is FREE and another slot holds later work, and returns to 0 elsewhere; every lane's silence count rises,
stopping at 255, and LANE_SILENT comes due for an ENROLLED lane without a latch that this raises to the threshold; the
sweeps since dirty of each dirty channel rise, stopping at 255; and with COUNTER_STORE set and no key store write
pending the key unit requests a retry: a reservation write where ACQ_CURRENT is ACTIVE with C = M, else the working
state. The model's choices: an erase write in progress or waiting counts as a pending key store write (read from R145
and R190 by inference, log 25); that LANE_SILENT is due stands in a marker of the lane, silentDue, until its command
takes it (log 17); a gap age goes on where one gap has closed and another stands at the next sweep (log 30); and
outside a running part no sweep comes, so the command changes nothing (log 2). -/
def Obligations.SweepsReachEveryBlock : Prop :=
  (∀ s : State, Quiet s → s.phase = .running →
    exec .sweep s = .next { s with
      sweepCount := s.sweepCount + 1
      intake := { s.intake with
        windows := s.intake.windows.map fun t => { t with
          gapAge :=
            if t.slots[t.release.toNat % t.slots.length]? = some .free ∧
              (∃ x ∈ t.slots, x = .filling ∨ x = .queued ∨ x = .working ∨ x = .writing ∨ x = .done)
            then t.gapAge + 1 else 0 } }
      lanes := { s.lanes with
        entries := s.lanes.entries.map fun l => { l with
          silence := min 255 (l.silence + 1)
          silentDue := decide (l.silence < 255 ∧ l.silence + 1 = s.settings.silenceThreshold ∧ l.state = .enrolled ∧
            l.latch = false) } }
      report := s.report.map fun c => { c with
        sweeps := if c.present = true ∧ c.dirty = true then min 255 (c.sweeps + 1) else c.sweeps }
      nv := { s.nv with
        requests := s.nv.requests ++
          if s.keys.counterStore = true ∧ keyWritePending s.nv = false then
            [.keyStore
              (if s.keys.store.current.state = .active ∧ s.keys.currentC = s.keys.store.currentMark then
                some ⟨s.keys.store.current.id, min (s.keys.store.currentMark + 256) 1048576, true, true⟩
              else none) false]
          else [] } }) ∧
  ∀ s : State, s.phase ≠ .running → exec .sweep s = .next s

/-- R29, R26, R27, R87: of the FILLING holds whose age in sweeps has reached the hold expiry E, the first expires: the
first by window, and in a window by ring index, counted from the consumed index (read from R16 and R26 by inference,
log 19). An idle engine first takes what waits for it; then the slot becomes QUEUED, its hold is marked expired and
receives the completion serial, the serial rises by one, and the engine queue its entry. With none left that has
reached E nothing expires. The status writes wait until nothing that the sweep made due is left (R9, R166). -/
def Obligations.HoldsExpireInOrder : Prop :=
  (∀ (s v : State) (h : Hold), nextExpiring s = some h → v = takeNext s →
    h ∈ s.intake.holds ∧ slotState s h.window h.slot = some .filling ∧
    s.settings.holdExpiry ≤ (s.sweepCount - h.openedAt).toNat ∧
    (∀ k ∈ s.intake.holds, slotState s k.window k.slot = some .filling →
      s.settings.holdExpiry ≤ (s.sweepCount - k.openedAt).toNat →
      h.window < k.window ∨ (h.window = k.window ∧
        (h.ringIndex - (windowSlots s h.window).consumed).toNat ≤
          (k.ringIndex - (windowSlots s h.window).consumed).toNat)) ∧
    exec .holdExpiry s = .next (reportOnceSwept { v with
      intake :=
        { windows := updAt v.intake.windows h.window fun t => { t with
            slots := updAt t.slots h.slot fun _ => .queued }
          holds := s.intake.holds.map fun k =>
            if k.window = h.window ∧ k.slot = h.slot then { k with expired := true, serial := some s.intake.serial }
            else k
          serial := s.intake.serial + 1 }
      engine := { v.engine with queue := v.engine.queue ++ [⟨h.window, h.slot⟩] } })) ∧
  ∀ s : State, nextExpiring s = none →
    (∀ k ∈ s.intake.holds, ¬(slotState s k.window k.slot = some .filling ∧
      s.settings.holdExpiry ≤ (s.sweepCount - k.openedAt).toNat)) ∧
    exec .holdExpiry s = .next (reportOnceSwept s)

/-- R31, R50, R9: a window whose gap age has reached E while its cursor slot is FREE fills the gap: the slot becomes
WRITING without a hold, the gap age returns to 0, EXPIRED+SKIPPED rises by one, and the void record of the cursor's
ring index is issued over the whole slot: added to the internal write queue, or left waiting for room (that it is
counted then, and not when it is added, is the model's choice, log 29). A window in which none is due does not change.
GAP_FILL of a window fills the gaps of the windows before it, then its own, in this order (R9); the status writes wait
until nothing that the sweep made due is left (R166). -/
def Obligations.GapsAreFilledWithVoidRecords : Prop :=
  (∀ (s : State) (w : Nat) (t : WindowSlots) (cursor : Nat), t = windowSlots s w →
    cursor = t.release.toNat % t.slots.length →
    (s.settings.holdExpiry ≤ t.gapAge → t.slots[cursor]? = some .free →
      fillGap w s = { s with
        intake := { s.intake with
          windows := updAt s.intake.windows w fun t => { t with
            slots := updAt t.slots cursor fun _ => .writing
            gapAge := 0 } }
        report := updAt s.report w (countOn .expiredSkipped 1)
        path := entryIssued s.path (entryOfBytes (.voidRecord w cursor)
          ((windowOfMap s w).base + cursor * (windowOfMap s w).slotSize)
          (voidOutput (windowOfMap s w).slotSize t.release w)) }) ∧
    (t.gapAge < s.settings.holdExpiry ∨ t.slots[cursor]? ≠ some .free → fillGap w s = s)) ∧
  ∀ (s : State) (w : Window),
    exec (.gapFill w) s = .next (reportOnceSwept ((List.range (w + 1)).foldl (fun u v => fillGap v u) s))

/-- R66, R68: the confirm of a CONFIRMING lane whose deadline is the count of the last sweep times out: offer,
agreement and deadline are dropped, the failures rise by one, the lane is ABSENT with fewer than 4 failures and FAULTED
with 4, and ENROLMENT and FAULT are raised. R78: a lane whose silence count this sweep has raised to the threshold is
latched and raises SILENT. Each raise makes STORE owe a write (R80), issued once nothing that the sweep made due is
left (R9, R166). A lane for which neither is due does not change; and the four commands of what a sweep makes due
change nothing where nothing is due (log 2). That a lane keeps its events in a part without a status window too is the
model's choice (log 32). -/
def Obligations.LanesTimeOutAndFallSilent : Prop :=
  (∀ (s : State) (lane : LaneId) (l : Lane), s.lanes.entries[lane.val]? = some l →
    (l.state = .confirming → l.deadline = some s.sweepCount →
      exec (.confirmTimeout lane) s = .next (reportOnceSwept { s with
        lanes := { s.lanes with
          entries := updAt s.lanes.entries lane fun l => { l with
            state := if l.failures < 3 then .absent else .faulted
            offer := none
            agreement := none
            deadline := none
            failures := min 4 (l.failures + 1)
            enrolment := .pending
            fault := .pending } }
        report := updAt s.report 4 oweOn })) ∧
    (l.state ≠ .confirming ∨ l.deadline ≠ some s.sweepCount →
      exec (.confirmTimeout lane) s = .next (reportOnceSwept s)) ∧
    (l.silentDue = true →
      exec (.laneSilent lane) s = .next (reportOnceSwept { s with
        lanes := { s.lanes with
          entries := updAt s.lanes.entries lane fun l => { l with
            latch := true
            silent := .pending
            silentDue := false } }
        report := updAt s.report 4 oweOn })) ∧
    (l.silentDue = false → exec (.laneSilent lane) s = .next (reportOnceSwept s))) ∧
  ∀ (s : State) (c : Instr), Quiet s → s.phase = .running →
    (c = .holdExpiry ∨ (∃ w, c = .gapFill w) ∨ (∃ lane, c = .confirmTimeout lane ∨ c = .laneSilent lane)) →
    exec c s = .next s

/-- R166 to R168, R9, R81: a channel that is due (`ChannelDue`: it exists, is not in flight, and owes a write, or has
its releases at the coalesce count, or has been dirty for its coalesce time) issues its block of 128 bytes, as
`blockIssued` says; one that is not due does not change. The issue tests with which a running part ends an event run W0
to W3, then STORE; while something that a sweep made due is left they wait. STATUS_WRITE_ISSUE adds the channel's block
where it waits for room and is the longest to wait; else it makes the tests up to its channel's. COALESCE_TIME makes
the tests before its channel's, then issues the channel's block where it has been dirty for its coalesce time. That the
tests follow the other parts of an event, and the order of the at-once steps, are the model's (log 3). -/
def Obligations.DueChannelsIssueTheirBlocks : Prop :=
  (∀ (s : State) (ch : Nat), (ChannelDue s ch → reportChannel ch s = blockIssued s ch) ∧
    (¬ChannelDue s ch → reportChannel ch s = s)) ∧
  (∀ s : State,
    (s.phase = .running → reportDue s = (List.range 5).foldl (fun u ch => reportChannel ch u) s) ∧
    (s.phase ≠ .running → reportDue s = s) ∧ reportOnceSwept s = (if sweepPending s = true then s else reportDue s) ∧
    (sweepPending s = true ↔
      (∃ h ∈ s.intake.holds, slotState s h.window h.slot = some .filling ∧
        s.settings.holdExpiry ≤ (s.sweepCount - h.openedAt).toNat) ∨
      (∃ w < 4, ∃ t, t = windowSlots s w ∧ s.settings.holdExpiry ≤ t.gapAge ∧
        t.slots[t.release.toNat % t.slots.length]? = some .free) ∨
      ∃ lane < 48, ((laneAt s lane).state = .confirming ∧ (laneAt s lane).deadline = some s.sweepCount) ∨
        (laneAt s lane).silentDue = true)) ∧
  (∀ (s : State) (ch : ChannelId) (e : Entry) (rest : List Entry), s.path.waiting = e :: rest →
    s.path.queue.length < 32 → e.kind = .statusBlock ch →
    exec (.statusWriteIssue ch) s =
      .next { s with path := { s.path with queue := s.path.queue ++ [e], waiting := rest } }) ∧
  ∀ (s u : State) (ch : ChannelId), SweepDone s → u = (List.range ch).foldl (fun u v => reportChannel v u) s →
    ((∀ e ∈ s.path.waiting.head?, e.kind ≠ .statusBlock ch ∨ 32 ≤ s.path.queue.length) →
      exec (.statusWriteIssue ch) s = .next (reportChannel ch u)) ∧
    ((∀ v < ch.val, ¬ChannelDue s v) → u = s) ∧
    (ChannelDue u ch → (channelAt u ch).dirty = true →
      (if ch = 4 then s.settings.storeCoalesceTime else s.settings.coalesceTime) ≤ (channelAt u ch).sweeps →
      exec (.coalesceTime ch) s = .next (blockIssued u ch)) ∧
    (¬ChannelDue u ch ∨ (channelAt u ch).dirty = false ∨
      (channelAt u ch).sweeps < (if ch = 4 then s.settings.storeCoalesceTime else s.settings.coalesceTime) →
      exec (.coalesceTime ch) s = .next u)

/-- R164, R165, R38, R80, R150, R151: what raises a count, a flag or a total. A count addition saturates at 65,535 and
makes the channel dirty, as a release does, of which 64 are counted; the sweeps since dirty return to 0 only where the
channel was clean. RETURN_IGNORED or a window's WRITE_FAULT raised from CLEAR makes the channel dirty, STORE's
WRITE_FAULT makes it owe a write; raised again (REPORTED or PENDING) they only become PENDING. A channel that does not
exist keeps nothing. A total stops at its maximum, and its flag is set where the exact sum is above it, and stays. The
key serial range keeps its first value and takes each new one as its last. -/
def Obligations.CountsAndTotalsSaturate : Prop :=
  (∀ (c : Channel) (id : CountId) (n i : Nat), c.present = true →
    (id, i) ∈ [(CountId.wrapped, 0), (.passed, 1), (.duplicateStale, 2), (.rejected, 3), (.expiredSkipped, 4),
      (.overrun, 5), (.collision, 6), (.exhausted, 7), (.writeFaults, 8)] →
    (∀ j, (countsList (countOn id n c).counts)[j]? =
      if j = i then (countsList c.counts)[j]?.map fun k => min 65535 (k + n) else (countsList c.counts)[j]?) ∧
    countOn id n c = { c with
      counts := (countOn id n c).counts
      dirty := true
      sweeps := if c.dirty then c.sweeps else 0 }) ∧
  (∀ (c : Channel) (k : Nat), c.present = true →
    releaseTimes k c = (if k = 0 then c else { c with
      releases := min 64 (c.releases + k)
      dirty := true
      sweeps := if c.dirty then c.sweeps else 0 })) ∧
  (∀ c : Channel, c.present = true →
    dirtyOn c = { c with dirty := true, sweeps := if c.dirty then c.sweeps else 0 } ∧
    oweOn c = { c with owed := true } ∧
    raiseReturnIgnored c = { (if c.returnIgnored = .clear then dirtyOn c else c) with returnIgnored := .pending } ∧
    raiseWriteFault false c = { (if c.writeFault = .clear then dirtyOn c else c) with writeFault := .pending } ∧
    raiseWriteFault true c = { (if c.writeFault = .clear then oweOn c else c) with writeFault := .pending }) ∧
  (∀ (c : Channel) (id : CountId) (n : Nat) (store : Bool), c.present = false →
    countOn id n c = c ∧ releaseTimes n c = c ∧ dirtyOn c = c ∧ oweOn c = c ∧ raiseReturnIgnored c = c ∧
      raiseWriteFault store c = c) ∧
  (∀ (countMaximum sumMaximum amount : Nat) (t : TotalSet) (add : Nat → Nat → Total → Total),
    (∀ maximum n u, add maximum n u = ⟨min maximum (u.value + n), u.sat || decide (maximum < u.value + n)⟩) →
    addRecord countMaximum sumMaximum amount false t =
      { t with count := add countMaximum 1 t.count, sum := add sumMaximum amount t.sum } ∧
    addRecord countMaximum sumMaximum amount true t =
      { t with refundCount := add countMaximum 1 t.refundCount, refundSum := add sumMaximum amount t.refundSum }) ∧
  ∀ first last k : KeySerial, extendRange none k = some (k, k) ∧ extendRange (some (first, last)) k = some (first, k)

/-! ### The wrap engine -/

/-- R87, R88, R34, R72, R73, R86: the idle engine takes the entry of the highest priority of its class, and among those
the one with the earliest completion serial, counted back from the serial counter. The entry leaves the queue, its slot
becomes WORKING, and its record is in work; for a card record of a lane 0 to 47 that did not expire the lane table's
answer is kept with it: enrolment state, suspended flag, agreed kinds and lane key id (0 without an agreement), last
lane counter and sequence verdict. Nothing else changes. With an empty queue, or while the record in work waits for its
write-back to be issued or for a reservation write, nothing changes (log 2). -/
def Obligations.EngineTakesTheFirst : Prop :=
  (∀ (s : State) (e : QueueEntry) (h : Hold) (l : Lane), Takes s e h → l = laneAt s (headerLane h) →
    e ∈ s.engine.queue ∧
    (∀ f ∈ s.engine.queue, ∀ k m n p q, holdOf s f.window f.slot = some k → h.serial = some m → k.serial = some n →
      p = s.settings.priorities.getD (headerClass h) 0 → q = s.settings.priorities.getD (headerClass k) 0 →
      q < p ∨ (q = p ∧ (s.intake.serial - n).toNat ≤ (s.intake.serial - m).toNat)) ∧
    exec .engineTake s = .next { s with
      intake := { s.intake with
        windows := updAt s.intake.windows e.window fun t => { t with
          slots := updAt t.slots e.slot fun _ => .working } }
      engine :=
        { queue := s.engine.queue.filter (· ≠ e)
          work := some
            { window := e.window
              slot := e.slot
              stage := .judge
              admission :=
                if (headerKind h = 2 ∨ headerKind h = 3) ∧ headerLane h ≤ 47 ∧ h.expired = false then
                  some
                    { state := l.state
                      suspended := l.suspended
                      kinds := (l.agreement.map (·.kinds)).getD ⟨false, false⟩
                      keyId := (l.agreement.map (·.keyId)).getD 0
                      lastCounter := l.lastCounter
                      verdict :=
                        if heldSequence h = 0 then .badSeq
                        else if l.high < heldSequence h then .accept
                        else if heldSequence h + 32 ≤ l.high then .stale
                        else if l.seen.getLsbD (l.high - heldSequence h) = true then .duplicate else .accept }
                else none
              laneKeys := none
              body := none
              capture := none
              products := none
              agreement := none
              outcome := none
              output := none } } }) ∧
  (∀ s : State, ReportsDone s → s.engine.work = none → s.engine.queue = [] → exec .engineTake s = .next s) ∧
  ∀ (s : State) (st : Stage) (w : Work) (h : Hold), EngineAt s st w h → st = .write ∨ st = .reservation →
    exec .engineTake s = .next s

/-- R89 to R95, R84, R45, R47, R77: the judge stage. An expired hold ends EXPIRED, or REJECTED with BAD_LENGTH where
its length fault is set, and hears no lane. Any other ends REJECTED with BAD_KIND for a kind outside 1 to 5,
BAD_VERSION for a version other than 1, BAD_LENGTH for a length fault or a length below the kind's minimum. A PLAIN
record of good shape ends PASSED; a card or enrolment record of a lane above 47 ends REJECTED with BAD_LANE. A card
record meets its admission copy: NOT_ENROLLED, LANE_SUSPENDED, KIND_NOT_AGREED, then the sequence verdict BAD_SEQ,
DUPLICATE or STALE; one that is admitted goes on, a clear one with its 88 body bytes to the body stage, a sealed one to
the sealed lane stage. The outcome is reported as it is decided, with the status writes that makes due (R90, R166).
That ENGINE_TAKE also moves the record in work on, one stage at a time, is the model's (log 22). -/
def Obligations.JudgeStageDecides : Prop :=
  ∀ (s : State) (w : Work) (h : Hold), EngineAt s .judge w h →
    (h.expired = true → h.lengthFault = true →
      exec .engineTake s = .next (reportDue (recordRefused s w h .rejected .badLength))) ∧
    (h.expired = true → h.lengthFault = false →
      exec .engineTake s = .next (reportDue (recordRefused s w h .expired .none))) ∧
    (h.expired = false → headerKind h < 1 ∨ 5 < headerKind h →
      exec .engineTake s = .next (reportDue (recordRefused s w h .rejected .badKind))) ∧
    (h.expired = false → 1 ≤ headerKind h → headerKind h ≤ 5 → headerVersion h ≠ 1 →
      exec .engineTake s = .next (reportDue (recordRefused s w h .rejected .badVersion))) ∧
    (h.expired = false → 1 ≤ headerKind h → headerKind h ≤ 5 → headerVersion h = 1 → ¬Shaped h →
      exec .engineTake s = .next (reportDue (recordRefused s w h .rejected .badLength))) ∧
    (h.expired = false → Shaped h → headerKind h = 1 →
      exec .engineTake s = .next (reportDue (outcomeDecided s w h .passed .none
        (passedOutput (windowOfMap s h.window).slotSize h (headerLength h))))) ∧
    (h.expired = false → Shaped h → headerKind h ≠ 1 → 47 < headerLane h →
      exec .engineTake s = .next (reportDue (recordRefused s w h .rejected .badLane))) ∧
    ∀ a, w.admission = some a → h.expired = false → Shaped h → headerKind h = 2 ∨ headerKind h = 3 →
      headerLane h ≤ 47 →
      (a.state ≠ .enrolled → exec .engineTake s = .next (reportDue (recordRefused s w h .rejected .notEnrolled))) ∧
      (a.state = .enrolled → a.suspended = true →
        exec .engineTake s = .next (reportDue (recordRefused s w h .rejected .laneSuspended))) ∧
      (a.state = .enrolled → a.suspended = false →
        (headerKind h = 2 ∧ a.kinds.clear = false ∨ headerKind h = 3 ∧ a.kinds.sealed = false) →
        exec .engineTake s = .next (reportDue (recordRefused s w h .rejected .kindNotAgreed))) ∧
      (a.state = .enrolled → a.suspended = false →
        (headerKind h = 2 → a.kinds.clear = true) → (headerKind h = 3 → a.kinds.sealed = true) →
        (a.verdict = .badSeq → exec .engineTake s = .next (reportDue (recordRefused s w h .rejected .badSeq))) ∧
        (a.verdict = .duplicate → exec .engineTake s = .next (reportDue (recordRefused s w h .duplicate .none))) ∧
        (a.verdict = .stale → exec .engineTake s = .next (reportDue (recordRefused s w h .stale .none)))) ∧
      (CopyAdmits 2 a → headerKind h = 2 →
        exec .engineTake s = .next (withWork s { w with stage := .body, body := some (heldBytes h 32 88) })) ∧
      (CopyAdmits 3 a → headerKind h = 3 → exec .engineTake s = .next (withWork s { w with stage := .laneKeys }))

/-- R96 to R98, R84, R116, R120, R121: the stages of a sealed record, each of them on the stores as they stand when it
is reached (R108). The request for the lane working keys is refused NO_LANE_KEY where its lane's slot is not LOADED
with the agreed key id, else it is answered with both keys, from the record's lane counter. Then a lane counter not
above that of the admission copy ends LANE_REPLAY; the 88 recovered bytes are formed and kept with the record; a
computed lane tag that is not the received one ends LANE_TAG, the recovered bytes still kept, and an equal one passes
the record to the body stage. That an ENGINE_TAKE with a record in work makes exactly one stage, here the key request
or the unsealing with its checks, is the model's choice (log 22). -/
def Obligations.SealedStagesDecide : Prop :=
  (∀ (s : State) (w : Work) (h : Hold) (a : Admission) (k : KeySlot), EngineAt s .laneKeys w h →
    w.admission = some a → s.keys.store.lanes[headerLane h]? = some k →
    (k.state ≠ .loaded ∨ k.id ≠ a.keyId.toNat →
      exec .engineTake s = .next (reportDue (recordRefused s w h .rejected .noLaneKey))) ∧
    (k.state = .loaded → k.id = a.keyId.toNat →
      exec .engineTake s = .next (withWork s { w with
        stage := .unseal
        laneKeys := some
          (transform k.key (laneBlock 0x11 (headerLane h) (heldNat h 32 4) k.id),
            transform k.key (laneBlock 0x12 (headerLane h) (heldNat h 32 4) k.id)) }))) ∧
  ∀ (s : State) (w : Work) (h : Hold) (a : Admission) (unsealKey tagKey body tag : List Byte), EngineAt s .unseal w h →
    w.admission = some a → w.laneKeys = some (unsealKey, tagKey) →
    body = unsealBody unsealKey (heldBytes h 40 88) (headerLane h) (heldSequence h) (heldNat h 32 4) →
    tag = laneTag tagKey (heldBytes h 40 88) (headerKind h) (headerLane h) (headerClass h) (heldSequence h)
      (heldNat h 12 4) (heldNat h 32 4) →
    (heldNat h 32 4 ≤ a.lastCounter →
      exec .engineTake s = .next (reportDue (recordRefused s w h .rejected .laneReplay))) ∧
    (a.lastCounter < heldNat h 32 4 → tag ≠ heldBytes h 128 8 →
      exec .engineTake s = .next (reportDue (recordRefused s { w with body := some body } h .rejected .laneTag))) ∧
    (a.lastCounter < heldNat h 32 4 → tag = heldBytes h 128 8 →
      exec .engineTake s = .next (withWork s { w with stage := .body, body := some body }))

/-- R99 to R102, R135, R138, R139, R144: the body of an admitted record is refused BAD_PAN for its card number, then
BAD_BODY for another field, then BAD_AMOUNT; a good one goes on to the key request. That is refused NO_KEY where the
SURROGATE slot is EMPTY or ACQ_CURRENT is not ACTIVE; answered with the value C where C is below the mark, as
`valueHandedOut` says; and where C has reached the mark it waits, undecided, for a reservation write of the mark raised
by up to 256, requested unless a retry's is pending. That an ENGINE_TAKE with a record in work makes exactly one stage,
here the body checks or the key request, is the model's choice (log 22). -/
def Obligations.BodyAndKeyStagesDecide : Prop :=
  (∀ (s : State) (w : Work) (h : Hold) (body : List Byte), EngineAt s .body w h → w.body = some body →
    (¬CardNumberGood body → exec .engineTake s = .next (reportDue (recordRefused s w h .rejected .badPan))) ∧
    (CardNumberGood body → ¬FieldsGood body →
      exec .engineTake s = .next (reportDue (recordRefused s w h .rejected .badBody))) ∧
    (CardNumberGood body → FieldsGood body → 9999999999 < bodyAmount body →
      exec .engineTake s = .next (reportDue (recordRefused s w h .rejected .badAmount))) ∧
    (BodyGood body → exec .engineTake s = .next (withWork s { w with stage := .keys }))) ∧
  ∀ (s : State) (w : Work) (h : Hold), EngineAt s .keys w h →
    (s.keys.store.surrogate.state = .empty ∨ s.keys.store.current.state ≠ .active →
      exec .engineTake s = .next (reportDue (recordRefused s w h .rejected .noKey))) ∧
    (KeyReady s.keys → exec .engineTake s = .next (reportDue (valueHandedOut s w))) ∧
    (s.keys.store.surrogate.state ≠ .empty → s.keys.store.current.state = .active →
      s.keys.store.currentMark ≤ s.keys.currentC →
      exec .engineTake s = .next { withWork s { w with stage := .reservation } with
        keys := { s.keys with waiting := true }
        nv := if retryPending s.nv then s.nv
          else { s.nv with
            requests := s.nv.requests ++
              [.keyStore (some ⟨s.keys.store.current.id, min (s.keys.store.currentMark + 256) 1048576, false, true⟩)
                false] } })

/-- R103 to R105, R74, R75, R109, R148, R149, R151: a record that has captured a value goes through its commits, each
on the blocks as they stand when it is reached. At the compute stage surrogate and ciphertext are formed from body and
capture, and the record is committed to its lane: the sequence window moves to its number or marks it, and a sealed one
sets the last lane counter. The totals commit adds it to the open batch, in the lane's totals and the store's, whose
maxima R148 gives, and answers with the batch number. The record is then concluded: the envelope tag formed over that
number, WRAPPED counted, the lane heard, the output built. R94, R49: the result of an enrolment record is built from
the lane table's answer, with the acquirer key id as ACQ_CURRENT stands. That an ENGINE_TAKE with a record in work makes
exactly one stage, so that the computation with the lane commit, the totals commit, the conclusion and the result of an
enrolment are each one ENGINE_TAKE, is the model's choice (log 22). -/
def Obligations.RecordsAreCommittedAndConcluded : Prop :=
  (∀ (s : State) (w : Work) (h : Hold) (body : List Byte) (c : Capture) (lane q : Nat), lane = headerLane h →
    q = heldSequence h → w.body = some body → w.capture = some c →
    (EngineAt s .compute w h →
      exec .engineTake s = .next { withWork s { w with
          stage := .totalsCommit
          products := some
            { surrogate := surrogateDigits c.surrogate (cardDigits body)
              cipher := envelopeCipher c.envKey body lane q c.keyId c.counter
              batch := none
              tag := none } } with
        lanes := { s.lanes with
          entries := updAt s.lanes.entries lane fun l => { l with
            high := max l.high q
            seen := if l.high < q then (l.seen <<< (q - l.high)) ||| 1
              else if l.high < q + 32 then l.seen ||| (1 <<< (l.high - q)) else l.seen
            lastCounter := if headerKind h = 3 then heldNat h 32 4 else l.lastCounter } } }) ∧
    (EngineAt s .totalsCommit w h → ∀ p, w.products = some p →
      exec .engineTake s = .next { withWork s { w with
          stage := .conclude
          products := some { p with batch := some s.totals.batch.number } } with
        totals := { s.totals with
          batch := { s.totals.batch with
            lanes := updAt s.totals.batch.lanes lane
              (addRecord 65535 1099511627775 (bodyAmount body) (bodyRefund body))
            store := addRecord 16777215 281474976710655 (bodyAmount body) (bodyRefund body) s.totals.batch.store
            range := extendRange s.totals.batch.range ⟨c.keyId, c.counter⟩ } } }) ∧
    (EngineAt s .conclude w h → ∀ p batch tag, w.products = some p → p.batch = some batch →
      tag = envelopeTag c.tagKey body p.cipher lane q c.keyId c.counter batch →
      exec .engineTake s = .next (reportDue (outcomeDecided s
        { w with products := some { p with tag := some tag } } h .wrapped .none
        (wrappedOutput (windowOfMap s h.window).slotSize h body ⟨c.keyId, c.counter, batch⟩ p.surrogate p.cipher
          tag))))) ∧
  ∀ (s : State) (w : Work) (h : Hold) (d : Disposition) (r : Reason), EngineAt s .result w h →
    w.outcome = some (d, r) →
    exec .engineTake s = .next (withWork s { w with
      stage := .write
      output := some (enrolmentOutput (windowOfMap s h.window).slotSize h (headerKind h == 4) d r w.agreement
        (if s.keys.store.current.state = .active then s.keys.store.current.id else 0) s.settings.storeNumber) })

/-- R89, R90, R95, R107 to R109, R128: the engine takes the record in work from stage to stage in the order of R89, and
each stage reaches the other blocks only where the rules let it: the key unit and the store's requests at the key stage
alone, the totals at the totals commit alone, and a card or PLAIN record a lane's enrolment, sequence window and last
counter at the compute stage alone. Only the last stage, after both commits, ends a record WRAPPED. No stage changes
slots, holds, the engine queue, directives, the stored image or memory. That the engine's work is cut into these
stages, between which any other event can come, is the model's (log 22). -/
def Obligations.StagesReachOnlyTheirBlocks : Prop :=
  ∀ (s : State) (w : Work) (h : Hold), Quiet s → s.engine.work = some w → holdOf s w.window w.slot = some h →
    ∃ t v, exec .engineTake s = .next t ∧ t.engine = { s.engine with work := some v } ∧ v.window = w.window ∧
      v.slot = w.slot ∧
      (v.stage = w.stage ∨ (w.stage, v.stage) ∈
        [(.judge, .result), (.judge, .laneKeys), (.judge, .body), (.laneKeys, .unseal), (.unseal, .body),
          (.body, .keys), (.keys, .reservation), (.keys, .compute), (.compute, .totalsCommit),
          (.totalsCommit, .conclude), (.judge, .write), (.laneKeys, .write), (.unseal, .write), (.body, .write),
          (.keys, .write), (.conclude, .write), (.result, .write)]) ∧
      (∀ r, v.outcome = some (.wrapped, r) → w.outcome ≠ some (.wrapped, r) → w.stage = .conclude) ∧
      (w.stage ≠ .keys → t.keys = s.keys ∧ t.nv = s.nv) ∧ (w.stage ≠ .totalsCommit → t.totals = s.totals) ∧
      (w.stage ≠ .compute → (w.stage = .judge → headerKind h ≤ 3) →
        ∀ i : Nat, ∀ l m, s.lanes.entries[i]? = some l → t.lanes.entries[i]? = some m →
          m.state = l.state ∧ m.offer = l.offer ∧ m.agreement = l.agreement ∧ m.deadline = l.deadline ∧
          m.suspended = l.suspended ∧ m.failures = l.failures ∧ m.high = l.high ∧ m.seen = l.seen ∧
          m.lastCounter = l.lastCounter) ∧
      t.intake = s.intake ∧ t.directives = s.directives ∧ t.dram = s.dram ∧ t.nv.keys = s.nv.keys ∧
      t.nv.groups = s.nv.groups ∧ t.port = s.port ∧ t.sweepCount = s.sweepCount ∧ t.settings = s.settings

/-- R58 to R63, R68, R94: what an ENROL_OFFER does to its lane, and how its record ends. A first offer, a changed one,
one of a CONFIRMING or ENROLLED lane, and one of a FAULTED lane with fewer than 4 failures is noted (ENROLMENT raised
unless the lane was OFFERED). An identical second copy is refused NO_COMMON_KIND with no kind agreed (the lane FAULTED,
one more failure), refused NO_KEY with SURROGATE EMPTY (the lane unchanged), and otherwise ANSWERED: the lane is
CONFIRMING, with an agreement of the agreed kinds, key id and answer nonce, and a deadline. A FAULTED lane with 4
failures refuses LANE_LOCKED. A raised event makes STORE owe a write (R80), the outcome is counted (R90) and the lane
is heard (R77). That the request to the lane table is one ENGINE_TAKE, the judge stage, which leaves the enrolment
result to a later one (stage result), is the model's choice (log 22), and so is that the lane keeps its events in a
part without a status window too (log 32). -/
def Obligations.OffersMoveTheLane : Prop :=
  ∀ (s : State) (w : Work) (h : Hold) (l : Lane) (o : Offer) (policy : Kinds) (k : KeySlot), EngineAt s .judge w h →
    h.expired = false → Shaped h → headerKind h = 4 → headerLane h ≤ 47 →
    s.lanes.entries[headerLane h]? = some l → s.settings.policies[headerLane h]? = some policy →
    s.keys.store.lanes[headerLane h]? = some k →
    o = ⟨⟨(heldByte h 32).getLsbD 0, (heldByte h 32).getLsbD 1⟩, heldByte h 33, heldBytes h 36 8⟩ →
    ∀ (sealed_ : Bool) (kinds : Kinds) (a : Agreement),
      sealed_ = (o.kinds.sealed && policy.sealed && decide (k.state = .loaded) && decide (k.id = o.keyId.toNat)) →
      kinds = ⟨o.kinds.clear && policy.clear, sealed_⟩ →
      a = ⟨kinds, if sealed_ then o.keyId else 0,
        answerNonce s.keys.store.surrogate.key (headerLane h) o.nonce s.lanes.answerSerial⟩ →
    ∀ ended : Disposition → Reason → Option Agreement → Bool → BitVec 32 → Lane → State,
      (∀ d r answer raised serial m, ended d r answer raised serial m = reportDue
        { withWork s { w with stage := .result, agreement := answer, outcome := some (d, r) } with
          report := match countOf d with
            | some id => updAt (if raised then updAt s.report 4 oweOn else s.report) h.window (countOn id 1)
            | none => if raised then updAt s.report 4 oweOn else s.report
          lanes :=
            { entries := updAt s.lanes.entries (headerLane h) fun _ => { m with silence := 0 }
              answerSerial := serial } }) →
      (l.state = .absent ∨ l.state = .confirming ∨ l.state = .enrolled ∨ (l.state = .faulted ∧ l.failures ≠ 4) ∨
        (l.state = .offered ∧ l.offer ≠ some o) →
        exec .engineTake s = .next (ended .noted .none none (decide (l.state ≠ .offered)) s.lanes.answerSerial
          { l with
            state := .offered
            offer := some o
            agreement := none
            deadline := none
            enrolment := if l.state = .offered then l.enrolment else .pending })) ∧
      (l.state = .offered → l.offer = some o → kinds = ⟨false, false⟩ →
        exec .engineTake s = .next (ended .refused .noCommonKind none true s.lanes.answerSerial
          { l with
            state := .faulted
            offer := none
            agreement := none
            deadline := none
            failures := min 4 (l.failures + 1)
            enrolment := .pending
            fault := .pending })) ∧
      (l.state = .offered → l.offer = some o → kinds ≠ ⟨false, false⟩ → s.keys.store.surrogate.state = .empty →
        exec .engineTake s = .next (ended .refused .noKey none false s.lanes.answerSerial l)) ∧
      (l.state = .offered → l.offer = some o → kinds ≠ ⟨false, false⟩ → s.keys.store.surrogate.state ≠ .empty →
        exec .engineTake s = .next (ended .answered .none (some a) true (s.lanes.answerSerial + 1)
          { l with
            state := .confirming
            agreement := some a
            deadline := some (s.sweepCount + BitVec.ofNat 32 s.settings.confirmTimeout)
            enrolment := .pending })) ∧
      (l.state = .faulted → l.failures = 4 →
        exec .engineTake s = .next (ended .refused .laneLocked none true s.lanes.answerSerial
          { l with fault := .pending }))

/-- R64, R65, R68, R94: what an ENROL_CONFIRM does to its lane, and how its record ends. On a CONFIRMING lane one that
repeats the agreement and the offer's nonce is CONFIRMED: the lane is ENROLLED with a fresh sequence window and no
failures; any other is refused CONFIRM_MISMATCH, the lane FAULTED with one more failure. On an ENROLLED lane a
repetition of the agreement is CONFIRMED and changes nothing. Every other confirm is refused CONFIRM_UNEXPECTED and
changes nothing. A raised event makes STORE owe a write (R80), the outcome is counted (R90) and the lane is heard
(R77). That the request to the lane table is one ENGINE_TAKE, the judge stage, which leaves the enrolment result to a
later one (stage result), is the model's choice (log 22), and so is that the lane keeps its events in a part without a
status window too (log 32). -/
def Obligations.ConfirmsMoveTheLane : Prop :=
  ∀ (s : State) (w : Work) (h : Hold) (l : Lane), EngineAt s .judge w h →
    h.expired = false → Shaped h → headerKind h = 5 → headerLane h ≤ 47 →
    s.lanes.entries[headerLane h]? = some l →
    ∀ repeats : Agreement → Prop,
      (∀ a, repeats a ↔ a.kinds = ⟨(heldByte h 32).getLsbD 0, (heldByte h 32).getLsbD 1⟩ ∧ a.keyId = heldByte h 33 ∧
        a.nonce = heldBytes h 44 8) →
    ∀ ended : Disposition → Reason → Option Agreement → Bool → Lane → State,
      (∀ d r answer raised m, ended d r answer raised m = reportDue
        { withWork s { w with stage := .result, agreement := answer, outcome := some (d, r) } with
          report := match countOf d with
            | some id => updAt (if raised then updAt s.report 4 oweOn else s.report) h.window (countOn id 1)
            | none => if raised then updAt s.report 4 oweOn else s.report
          lanes := { s.lanes with
            entries := updAt s.lanes.entries (headerLane h) fun _ => { m with silence := 0 } } }) →
      (∀ o a, l.state = .confirming → l.offer = some o → l.agreement = some a → repeats a →
        o.nonce = heldBytes h 36 8 →
        exec .engineTake s = .next (ended .confirmed .none (some a) true
          { l with
            state := .enrolled
            offer := none
            deadline := none
            high := 0
            seen := 0
            lastCounter := 0
            failures := 0
            enrolment := .pending })) ∧
      (∀ o a, l.state = .confirming → l.offer = some o → l.agreement = some a →
        ¬repeats a ∨ o.nonce ≠ heldBytes h 36 8 →
        exec .engineTake s = .next (ended .refused .confirmMismatch none true
          { l with
            state := .faulted
            offer := none
            agreement := none
            deadline := none
            failures := min 4 (l.failures + 1)
            enrolment := .pending
            fault := .pending })) ∧
      (∀ a, l.state = .enrolled → l.agreement = some a → repeats a →
        exec .engineTake s = .next (ended .confirmed .none (some a) false l)) ∧
      (l.state = .absent ∨ l.state = .offered ∨ l.state = .faulted ∨
        (l.state = .enrolled ∧ ¬∃ a, l.agreement = some a ∧ repeats a) →
        exec .engineTake s = .next (ended .refused .confirmUnexpected none false l))

/-! ### Entries of the internal write queue -/

/-- R9, R106, R35, R157, R179: the built output is issued as one entry over the whole slot, the built summary once over
its 848 bytes of the status window, the result of the directive in progress once as one beat whose byte 3 alone is
strobed. With room in the internal write queue and no producer waiting an entry is added, else it waits. When a
write-back's entry is added its slot becomes WRITING, and the engine discards the record and is idle. A waiting
producer's entry is added by its command when it is the one that waits longest and there is room. Where none of this
applies nothing changes (log 2); that what is due before a summary or a result in the model's order comes first is the
model's (log 3). -/
def Obligations.IssuesAddEntries : Prop :=
  (∀ (s : State) (c : Instr) (mine : EntryKind → Bool) (e : Entry) (rest : List Entry), s.path.waiting = e :: rest →
    s.path.queue.length < 32 → mine e.kind = true →
    (c, mine) ∈ [(Instr.writeBackIssue, isWriteBack), (.voidRecordIssue, isVoid), (.summaryIssue, isSummary),
      (.directiveResultIssue, isResult)] →
    ∀ u, u = { s with path := { s.path with queue := s.path.queue ++ [e], waiting := rest } } →
    exec c s = .next (match e.kind with
      | .writeBack w slot => { u with
        intake := { s.intake with
          windows := updAt s.intake.windows w fun t => { t with slots := updAt t.slots slot fun _ => .writing } }
        engine := { s.engine with work := none } }
      | _ => u)) ∧
  (∀ (s : State) (w : Work) (output : List Byte) (e : Entry), Quiet s → s.engine.work = some w →
    w.output = some output → (∀ f ∈ s.path.waiting, isWriteBack f.kind = false) →
    e = entryOfBytes (.writeBack w.window w.slot)
      ((windowOfMap s w.window).base + w.slot * (windowOfMap s w.window).slotSize) output →
    exec .writeBackIssue s = .next (if s.path.queue.length < 32 ∧ s.path.waiting = [] then
        { s with
          path := { s.path with queue := s.path.queue ++ [e] }
          intake := { s.intake with
            windows := updAt s.intake.windows w.window fun t => { t with
              slots := updAt t.slots w.slot fun _ => .writing } }
          engine := { s.engine with work := none } }
      else { s with path := { s.path with waiting := s.path.waiting ++ [e] } })) ∧
  (∀ (s : State) (c : Close) (bytes : List Byte), StoreDone s → s.phase = .running → s.totals.close = some c →
    c.summary = some bytes → (∀ e ∈ s.path.waiting.head?, e.kind ≠ .summary ∨ 32 ≤ s.path.queue.length) →
    exec .summaryIssue s = .next { s with
      totals := { s.totals with close := some { c with summary := none } }
      path := entryIssued s.path (entryOfBytes .summary (s.settings.map.statusBase + 0x600) bytes) }) ∧
  (∀ (s : State) (r : DirectiveResult), SummaryDone s → s.phase = .running →
    s.directives.inProgress = some ⟨some r, false⟩ →
    (∀ e ∈ s.path.waiting.head?, e.kind ≠ .directiveResult ∨ 32 ≤ s.path.queue.length) →
    exec .directiveResultIssue s = .next { s with
      directives := { s.directives with inProgress := some ⟨some r, true⟩ }
      path := entryIssued s.path ⟨.directiveResult, [⟨.internal .directiveResult true,
        s.settings.map.statusBase + 0x400 + 32 * (s.directives.done.toNat % 16),
        .write [⟨BitVec.ofNat 64 (16777216 * resultCode r), 8⟩]⟩]⟩ }) ∧
  ∀ (s : State) (c : Instr) (mine : EntryKind → Bool), Quiet s →
    (∀ e ∈ s.path.waiting.head?, mine e.kind = false ∨ 32 ≤ s.path.queue.length) →
    ((c, mine) ∈ [(Instr.voidRecordIssue, isVoid), (.summaryIssue, isSummary), (.directiveResultIssue, isResult)] ∨
      c = .writeBackIssue ∧ mine = isWriteBack ∧
        ((∃ f ∈ s.path.waiting, isWriteBack f.kind = true) ∨ (∀ w ∈ s.engine.work, w.output = none))) →
    exec c s = .next s

/-- R9: the bursts of an entry that writes bytes, a multiple of 8 of them, from an address, write exactly these bytes
to these addresses in ascending order, every strobe set; every burst but the last has exactly 16 beats, the last one 1
to 16, and the last one alone ends the entry. So a slot of 512 bytes is four bursts of 16 beats, and the 848 bytes of a
summary are six of 16 and one of 10. -/
def Obligations.EntriesWriteTheirBytes : Prop :=
  ∀ (kind : EntryKind) (addr : Nat) (bytes : List Byte), bytes.length % 8 = 0 → bytes ≠ [] →
    (entryOfBytes kind addr bytes).kind = kind ∧
    (entryOfBytes kind addr bytes).bursts.flatMap (fun b =>
      match b.op with
      | .write beats => beatsCells b.addr beats
      | .read _ => []) = (List.range bytes.length).map (fun i => (addr + i, bytes.getD i 0)) ∧
    ∃ first last, (entryOfBytes kind addr bytes).bursts = first ++ [last] ∧
      (last.origin = .internal kind true ∧ ∃ beats, last.op = .write beats ∧ 1 ≤ beats.length ∧ beats.length ≤ 16) ∧
      ∀ b ∈ first, b.origin = .internal kind false ∧ ∃ beats, b.op = .write beats ∧ beats.length = 16

/-! ### The non-volatile store -/

/-- R130, R135: the store begins the write requested first, when none is in progress. A key store write copies the
working state as it stands; a reservation write with the mark it was made for, while ACQ_CURRENT holds the key id of
the reservation (and never a lower one: the model's choice, log 27). With a write in progress, no request, or before
start-up has ended, nothing begins (log 2). That what is due before it in the model's order comes first is the model's
(log 3). -/
def Obligations.StoreWritesBeginInOrder : Prop :=
  (∀ (s : State) (q : StoreRequest) (rest : List StoreRequest), DirectiveDone s → s.phase = .running →
    s.nv.writing = none → s.nv.requests = q :: rest →
    exec .storeWriteBegin s = .next { s with
      nv := { s.nv with
        requests := rest
        writing := some (match q with
          | .keyStore none forPort => .keyStore s.keys.store none forPort
          | .keyStore (some v) forPort =>
            .keyStore
              (if s.keys.store.current.state ≠ .empty ∧ s.keys.store.current.id = v.keyId then
                { s.keys.store with currentMark := max s.keys.store.currentMark v.mark }
              else s.keys.store) (some v) forPort
          | .batchNumber number => .batchNumber number
          | .imageGroup group words => .imageGroup group words
          | .imageLock => .imageLock
          | .erase => .erase) } }) ∧
  ∀ s : State, s.phase ≠ .running ∨ (DirectiveDone s ∧ (s.nv.writing ≠ none ∨ s.nv.requests = [])) →
    exec .storeWriteBegin s = .next s

/-- R130, R131, R136, R155, R156, R184, R188 to R190: what the end of a store write does. A completed write is in the
store, whole; a failed one leaves it as it was. The key unit sets or clears COUNTER_STORE at the end of a key store
write and of the erase write, and takes a completed reservation's mark; the totals unit keeps the outcome of the batch
number write and builds the summary of the close; the port records the end of its own write. With no write in progress
nothing changes (log 2). That the erase write counts as a key store write is the model's (log 25); so is that a mark is
never lowered, and that a reservation requested before an ERASE raises none (log 27). -/
def Obligations.StoreWritesEnd : Prop :=
  ∀ (s : State) (completed : Bool), Quiet s →
    (∀ content r forPort, s.nv.writing = some (.keyStore content r forPort) → (r = none ∨ s.keys.waiting = false) →
      exec (.storeWriteEnd completed) s = .next (reportDue (keyWriteSettled s content r forPort completed))) ∧
    (∀ number, s.nv.writing = some (.batchNumber number) →
      exec (.storeWriteEnd completed) s = .next { s with
        nv := { s.nv with lastClosed := if completed then number else s.nv.lastClosed, writing := none }
        totals := { s.totals with
          close := s.totals.close.map fun c => { c with
            numberOutcome := some completed
            summary := some (buildSummary c.snapshot s.settings.storeNumber s.keys.store.batch) } } }) ∧
    (∀ group words, s.nv.writing = some (.imageGroup group words) →
      exec (.storeWriteEnd completed) s = .next { s with
        nv := { s.nv with
          groups := if completed then updAt s.nv.groups group (fun _ => words) else s.nv.groups
          control := if completed ∧ group ≠ 0 then s.nv.control ||| (1 <<< group) else s.nv.control
          writing := none }
        port := { s.port with
          outstanding := false
          lastOutcome := if completed then .completed else .failed } }) ∧
    (s.nv.writing = some .imageLock →
      exec (.storeWriteEnd completed) s = .next { s with
        nv := { s.nv with locked := completed || s.nv.locked, writing := none }
        port := { s.port with
          outstanding := false
          lastOutcome := if completed then .completed else .failed } }) ∧
    (s.nv.writing = some .erase →
      exec (.storeWriteEnd completed) s = .next (reportDue { s with
        nv := if completed then
            { s.nv with
              keys := KeyStore.empty
              control := 0
              locked := false
              groups := [6, 21, 9, 10, 49].map fun n => List.replicate n 0
              lastClosed := 0
              writing := none }
          else { s.nv with writing := none }
        keys := { s.keys with counterStore := !completed }
        report := if s.keys.counterStore = completed then updAt s.report 4 oweOn else s.report
        port := { s.port with
          outstanding := false
          lastOutcome := if completed then .completed else .failed } })) ∧
    (s.nv.writing = none → exec (.storeWriteEnd completed) s = .next s)

/-- R102, R136: at the end of a reservation write the waiting key request is judged against the working state as it
then stands: REJECTED with NO_KEY where SURROGATE is EMPTY or ACQ_CURRENT is not ACTIVE; REJECTED with COUNTER_STORE
where the write failed; answered with the value C where C is below the mark; and with C at the mark another reservation
write is requested and the request waits on. A mark that is never lowered, a retry's reservation among those that judge
the wait, and one requested before an ERASE that raises none are the model's (log 27). -/
def Obligations.ReservationEndJudgesTheWait : Prop :=
  ∀ (s u : State) (completed forPort : Bool) (content : KeyStore) (v : Reservation) (w : Work) (h : Hold), Quiet s →
    s.nv.writing = some (.keyStore content (some v) forPort) → s.keys.waiting = true →
    s.engine.work = some w → holdOf s w.window w.slot = some h →
    u = keyWriteSettled s content (some v) forPort completed →
    (u.keys.store.surrogate.state = .empty ∨ u.keys.store.current.state ≠ .active →
      exec (.storeWriteEnd completed) s = .next (reportDue
        { recordRefused u w h .rejected .noKey with keys := { u.keys with waiting := false } })) ∧
    (u.keys.store.surrogate.state ≠ .empty → u.keys.store.current.state = .active → completed = false →
      exec (.storeWriteEnd completed) s = .next (reportDue
        { recordRefused u w h .rejected .counterStore with keys := { u.keys with waiting := false } })) ∧
    (KeyReady u.keys → completed = true →
      exec (.storeWriteEnd completed) s = .next (reportDue (valueHandedOut u w))) ∧
    (u.keys.store.surrogate.state ≠ .empty → u.keys.store.current.state = .active → completed = true →
      u.keys.store.currentMark ≤ u.keys.currentC →
      exec (.storeWriteEnd completed) s = .next (reportDue { u with
        nv := { u.nv with
          requests := u.nv.requests ++
            [.keyStore (some ⟨u.keys.store.current.id, min (u.keys.store.currentMark + 256) 1048576, false, true⟩)
              false] } }))

/-! ### The provisioning port -/

/-- R182, R183, R185: a frame of an open port shifts out the answer that waited, NO_ANSWER where none did, then zeros
for every further byte, and its own answer waits in turn. A frame cut short is answered BAD_FRAME (3), a command byte
that the table does not list BAD_COMMAND (4), a length byte that is wrong for the command BAD_FRAME. A well-formed
frame taken while a write of the port is outstanding is answered BUSY (2). None of these has another effect. The
command bytes 0x01 to 0x05 are QUERY, LOAD_KEY, LOAD_IMAGE, LOCK_IMAGE and ERASE: a frame is judged by its bytes,
whichever command brings it. A closed port shifts out zeros and ignores the frame. A frame without a whole byte is
ignored. -/
def Obligations.FramesAreJudgedAndRefused : Prop :=
  (∀ (s : State) (length : Byte) (clocked : List Byte) (c : Instr) (wanted : Nat),
    (c, wanted) ∈ [(Instr.query length clocked, 0), (.loadKey length clocked, 21), (.lockImage length clocked, 0),
      (.erase length clocked, 0)] →
    Quiet s → s.phase = .running →
    (clocked.length < length.toNat ∨ length.toNat ≠ wanted →
      exec c s = .next (frameAnswered s (clocked.length + 2) 3)) ∧
    (length.toNat ≤ clocked.length → length.toNat = wanted → s.port.outstanding = true →
      exec c s = .next (frameAnswered s (clocked.length + 2) 2))) ∧
  (∀ (s : State) (command length : Byte) (clocked : List Byte), Quiet s → s.phase = .running →
    command = 0 ∨ 5 < command.toNat →
    exec (.badCommand command length clocked) s = .next (frameAnswered s (clocked.length + 2)
      (if clocked.length < length.toNat then 3 else 4))) ∧
  (∀ (s : State) (length : Byte) (clocked : List Byte),
    exec (.badCommand 1 length clocked) s = exec (.query length clocked) s ∧
    exec (.badCommand 2 length clocked) s = exec (.loadKey length clocked) s ∧
    exec (.badCommand 3 length clocked) s = exec (.loadImage length clocked) s ∧
    exec (.badCommand 4 length clocked) s = exec (.lockImage length clocked) s ∧
    exec (.badCommand 5 length clocked) s = exec (.erase length clocked) s ∧
    ∀ command, exec (.badFrame (command :: length :: clocked)) s = exec (.badCommand command length clocked) s) ∧
  (∀ (s : State) (clocked : List Byte), Quiet s → s.phase = .running →
    (clocked.length = 1 ∨ ∃ command length rest, clocked = command :: length :: rest ∧ rest.length < length.toNat) →
    exec (.badFrame clocked) s = .next (frameAnswered s clocked.length 3)) ∧
  (∀ (s : State) (command length : Byte) (clocked : List Byte) (c : Instr) (bytes : Nat),
    (c, bytes) ∈ [(Instr.query length clocked, clocked.length + 2), (.loadKey length clocked, clocked.length + 2),
      (.loadImage length clocked, clocked.length + 2), (.lockImage length clocked, clocked.length + 2),
      (.erase length clocked, clocked.length + 2), (.badCommand command length clocked, clocked.length + 2),
      (.badFrame clocked, clocked.length)] →
    s.phase ≠ .running → 0 < bytes →
    exec c s = .next { s with port := { s.port with shiftedOut := List.replicate bytes 0 } }) ∧
  (∀ s : State, exec .emptyFrame s = .next s) ∧
  ∀ s : State, Quiet s → exec (.badFrame []) s = .next s

/-- R186, R183: a QUERY is answered OK with 294 bytes that show the identity word, the lock, the control word, the last
write outcome, the start-up outcomes, the overlap byte, the highest id, the stored batch number, C and M of both
acquirer slots, and the state, id and check value of each of the 52 slots (an EMPTY one zeros), and changes nothing
else. -/
def Obligations.QueryShowsTheStores : Prop :=
  ∀ (s : State) (clocked : List Byte), PortFree s → s.keys.store.lanes.length = 48 → s.settings.outcomes.length = 5 →
    ∃ (t : State) (answer : List Byte), exec (.query 0 clocked) s = .next t ∧ t = { s with port := t.port } ∧
      t.port = { s.port with
        shiftedOut := (s.port.answer.getD [0] ++ zeros (clocked.length + 2)).take (clocked.length + 2)
        answer := some answer } ∧
      answer.length = 295 ∧ answer[0]? = some 1 ∧ leNat (slice answer 1 4) = 0x00300A31 ∧
      answer[5]? = some (if s.nv.locked then 1 else 0) ∧
      answer[6]? = some (BitVec.ofNat 8 s.nv.control.toNat) ∧
      answer[7]? = some (show Byte from match s.port.lastOutcome with
        | .none => 0
        | .completed => 1
        | .failed => 2) ∧
      slice answer 8 5 = s.settings.outcomes.map (fun o => match o with
        | .loaded => 0
        | .defaulted => 1
        | .checkFailed => 2) ∧
      (∃ b, answer[13]? = some b ∧ ∀ w < 4, b.getLsbD w = s.settings.overlap.getD w false) ∧
      answer[14]? = some (BitVec.ofNat 8 s.keys.store.highestId) ∧
      leNat (slice answer 15 4) = s.nv.lastClosed % 2 ^ 32 ∧
      leNat (slice answer 19 4) = s.keys.currentC % 2 ^ 32 ∧
      leNat (slice answer 23 4) = s.keys.store.currentMark % 2 ^ 32 ∧
      leNat (slice answer 27 4) = s.keys.nextC % 2 ^ 32 ∧
      leNat (slice answer 31 4) = s.keys.store.nextMark % 2 ^ 32 ∧
      ∀ n k, ([s.keys.store.current, s.keys.store.next, s.keys.store.surrogate, s.keys.store.batch] ++
          s.keys.store.lanes)[n]? = some k → k.check.length = 3 →
        slice answer (35 + 5 * n) 5 = match k.state with
          | .empty => [0, 0, 0, 0, 0]
          | .loaded => 1 :: BitVec.ofNat 8 k.id :: k.check
          | .active => 2 :: BitVec.ofNat 8 k.id :: k.check
          | .spent => 3 :: BitVec.ofNat 8 k.id :: k.check

/-- R132, R133, R134, R144, R187: a LOAD_KEY is answered BAD_SLOT for a slot above 51, BAD_CHECK for a wrong check
value, BAD_ID for id 0, for an acquirer id not above the highest ever active, or for an ACQ_CURRENT id not below that
of a LOADED ACQ_NEXT, SLOT_BUSY for ACQ_CURRENT while it is ACTIVE, in this order, with no other effect. Any other is
OK: the slot takes key, id and check value; ACQ_CURRENT becomes ACTIVE with C and mark 1 and its id the highest;
ACQ_NEXT becomes LOADED with C and mark 1; the other slots LOADED. Its key store write is requested as the port's
outstanding write, and STORE comes to owe a write where an acquirer slot changes or NO_KEY clears, issued where it is
due (R166). -/
def Obligations.LoadsAreJudgedAndTaken : Prop :=
  ∀ (s : State) (clocked : List Byte) (slot id : Nat) (key check : List Byte) (answered : Nat → State)
    (ok : KeyUnit → Bool → State), PortFree s → 21 ≤ clocked.length →
    slot = (clocked.getD 0 0).toNat → id = (clocked.getD 1 0).toNat → key = (clocked.drop 2).take 16 →
    check = (clocked.drop 18).take 3 → (∀ st, answered st = frameAnswered s (clocked.length + 2) st) →
    (∀ k attention, ok k attention = reportDue { answered 1 with
      keys := k
      nv := { s.nv with requests := s.nv.requests ++ [.keyStore none true] }
      report := if attention then updAt s.report 4 oweOn else s.report
      port := { (answered 1).port with outstanding := true } }) →
    ∀ good : Prop, (good ↔ slot ≤ 51 ∧ (transform key (List.replicate 16 0)).take 3 = check) →
    ∀ free : Prop, (free ↔ id ≠ 0 ∧ (slot ≤ 1 → s.keys.store.highestId < id) ∧
      (slot = 0 → s.keys.store.next.state = .loaded → id < s.keys.store.next.id)) →
    (51 < slot → exec (.loadKey 21 clocked) s = .next (answered 5)) ∧
    (slot ≤ 51 → ¬good → exec (.loadKey 21 clocked) s = .next (answered 6)) ∧
    (good → ¬free → exec (.loadKey 21 clocked) s = .next (answered 7)) ∧
    (good → free → slot = 0 → s.keys.store.current.state = .active →
      exec (.loadKey 21 clocked) s = .next (answered 8)) ∧
    (good → free → slot = 0 → s.keys.store.current.state ≠ .active →
      exec (.loadKey 21 clocked) s = .next (ok { s.keys with
        store := { s.keys.store with current := ⟨.active, id, key, check⟩, currentMark := 1, highestId := id }
        currentC := 1 } true)) ∧
    (good → free → slot = 1 →
      exec (.loadKey 21 clocked) s = .next (ok { s.keys with
        store := { s.keys.store with next := ⟨.loaded, id, key, check⟩, nextMark := 1 }
        nextC := 1 } (decide (s.keys.store.next.state ≠ .loaded ∨ s.keys.store.next.id ≠ id)))) ∧
    (good → free → slot = 2 →
      exec (.loadKey 21 clocked) s = .next (ok { s.keys with
        store := { s.keys.store with surrogate := ⟨.loaded, id, key, check⟩ } }
        (decide (s.keys.store.surrogate.state = .empty ∧ s.keys.store.current.state = .active)))) ∧
    (good → free → slot = 3 →
      exec (.loadKey 21 clocked) s = .next (ok { s.keys with
        store := { s.keys.store with batch := ⟨.loaded, id, key, check⟩ } } false)) ∧
    ∀ lane, good → free → slot = 4 + lane →
      exec (.loadKey 21 clocked) s = .next (ok { s.keys with
        store := { s.keys.store with lanes := updAt s.keys.store.lanes lane fun _ => ⟨.loaded, id, key, check⟩ } }
        false)

/-- R185, R188, R189: a LOAD_IMAGE is answered BAD_GROUP (10) for a group above 4, then BAD_FRAME for a length that
does not fit the group, BUSY, LOCKED (9) while the image is locked, BAD_CHECK (6) where its words do not sum to 0
modulo 65536, and otherwise OK: the write of the group's little-endian words is requested as the port's outstanding
write. LOCK_IMAGE is answered OK, and requests the lock's write unless the image is locked. (A length byte of 0 leaves
no group byte: BAD_FRAME is the model's choice, log 20.) -/
def Obligations.ImageFramesAreJudgedAndTaken : Prop :=
  (∀ (s : State) (length : Byte) (clocked : List Byte) (group count : Nat) (words : List (BitVec 16))
    (answered : Nat → State), Quiet s → s.phase = .running →
    (∀ st, answered st = frameAnswered s (clocked.length + 2) st) →
    group = (clocked.getD 0 0).toNat → count = [6, 21, 9, 10, 49].getD group 0 →
    words = (List.range count).map (fun i =>
      BitVec.ofNat 16 ((clocked.getD (1 + 2 * i) 0).toNat + 256 * (clocked.getD (2 + 2 * i) 0).toNat)) →
    (clocked.length < length.toNat ∨ length.toNat = 0 →
      exec (.loadImage length clocked) s = .next (answered 3)) ∧
    (0 < length.toNat → length.toNat ≤ clocked.length →
      (4 < group → exec (.loadImage length clocked) s = .next (answered 10)) ∧
      (group ≤ 4 → length.toNat ≠ 1 + 2 * count → exec (.loadImage length clocked) s = .next (answered 3)) ∧
      (group ≤ 4 → length.toNat = 1 + 2 * count →
        (s.port.outstanding = true → exec (.loadImage length clocked) s = .next (answered 2)) ∧
        (s.port.outstanding = false → s.nv.locked = true →
          exec (.loadImage length clocked) s = .next (answered 9)) ∧
        (s.port.outstanding = false → s.nv.locked = false → (words.map (·.toNat)).sum % 65536 ≠ 0 →
          exec (.loadImage length clocked) s = .next (answered 6)) ∧
        (s.port.outstanding = false → s.nv.locked = false → (words.map (·.toNat)).sum % 65536 = 0 →
          exec (.loadImage length clocked) s = .next { answered 1 with
            nv := { s.nv with requests := s.nv.requests ++ [.imageGroup group words] }
            port := { (answered 1).port with outstanding := true } })))) ∧
  ∀ (s : State) (clocked : List Byte), PortFree s →
    exec (.lockImage 0 clocked) s = .next (if s.nv.locked then frameAnswered s (clocked.length + 2) 1
      else { frameAnswered s (clocked.length + 2) 1 with
        nv := { s.nv with requests := s.nv.requests ++ [.imageLock] }
        port := { (frameAnswered s (clocked.length + 2) 1).port with outstanding := true } })

/-- R145, R190: an ERASE is answered OK whatever the lock: every key slot EMPTY, marks, C values and the highest id 0,
COUNTER_STORE clear; STORE comes to owe a write; the erase write is requested as the port's outstanding write; and the
ends of the reservation writes in progress or waiting raise no working mark (the model's reading, log 27). A key
request that waits ends: its record is REJECTED with NO_KEY. Settings, totals and lanes' agreements are untouched. -/
def Obligations.EraseEmptiesTheKeyUnit : Prop :=
  ∀ (s u : State) (clocked : List Byte), PortFree s →
    u = { frameAnswered s (clocked.length + 2) 1 with
      keys :=
        { store :=
            { current := ⟨.empty, 0, List.replicate 16 0, List.replicate 3 0⟩
              currentMark := 0
              next := ⟨.empty, 0, List.replicate 16 0, List.replicate 3 0⟩
              nextMark := 0
              surrogate := ⟨.empty, 0, List.replicate 16 0, List.replicate 3 0⟩
              batch := ⟨.empty, 0, List.replicate 16 0, List.replicate 3 0⟩
              lanes := List.replicate 48 ⟨.empty, 0, List.replicate 16 0, List.replicate 3 0⟩
              highestId := 0 }
          currentC := 0
          nextC := 0
          counterStore := false
          waiting := false }
      nv := { s.nv with
        requests := (s.nv.requests.map fun q => match q with
          | .keyStore r forPort => .keyStore (r.map fun v => { v with live := false }) forPort
          | q => q) ++ [.erase]
        writing := s.nv.writing.map fun w => match w with
          | .keyStore content r forPort => .keyStore content (r.map fun v => { v with live := false }) forPort
          | w => w }
      report := updAt s.report 4 oweOn
      port := { (frameAnswered s (clocked.length + 2) 1).port with outstanding := true } } →
    (s.keys.waiting = false → exec (.erase 0 clocked) s = .next (reportDue u)) ∧
    (s.keys.waiting = true → ∀ w h, s.engine.work = some w → holdOf s w.window w.slot = some h →
      exec (.erase 0 clocked) s = .next (reportDue (recordRefused u w h .rejected .noKey)))

/-! ### Computation and formats -/

/-- R123 to R126, R122, R55: the surrogate of a card number of 12 to 19 digits has its length, its first six and its
last four digits, holds digits only, and fails the check-digit rule. Its shifts are drawn from the transform of the
surrogate block under the SURROGATE key, and then from the transform of the source before, as often as needed: the
bytes below 250, modulo 10, in order. Each middle digit is shifted by its own, and where the result passes the rule the
digit at position n - 4 is raised by one. (What the digits are where no source ever yields enough shifts is free: log
11.) -/
def Obligations.SurrogatesKeepTheEndsAndFailTheCheck : Prop :=
  (∀ (key : List Byte) (digits : List Nat), 12 ≤ digits.length → digits.length ≤ 19 → (∀ d ∈ digits, d ≤ 9) →
    (surrogateDigits key digits).length = digits.length ∧
    (surrogateDigits key digits).take 6 = digits.take 6 ∧
    (surrogateDigits key digits).drop (digits.length - 4) = digits.drop (digits.length - 4) ∧
    (∀ d ∈ surrogateDigits key digits, d ≤ 9) ∧
    passesCheck (surrogateDigits key digits) = false) ∧
  (∀ (key : List Byte) (digits shifts moved : List Nat) (source : Nat → List Byte) (count : Nat),
    12 ≤ digits.length → digits.length ≤ 19 →
    source 0 = transform key ((digits.length :: (digits.take 6 ++ digits.drop (digits.length - 4))).map
      (BitVec.ofNat 8) ++ [0, 0, 0, 0, 0]) →
    (∀ j, source (j + 1) = transform key (source j)) → count ≤ 2 ^ 132 →
    shifts = ((List.range count).flatMap source).filterMap (fun b =>
      if b.toNat < 250 then some (b.toNat % 10) else none) →
    digits.length - 10 ≤ shifts.length →
    moved = digits.take 6 ++
      List.zipWith (fun p k => (p + k) % 10) ((digits.drop 6).take (digits.length - 10)) shifts ++
      digits.drop (digits.length - 4) →
    surrogateDigits key digits =
      if passesCheck moved then updAt moved (digits.length - 5) fun d => (d + 1) % 10 else moved) ∧
  ∀ digits : List Nat, passesCheck digits = true ↔
    ((digits.reverse.zipIdx.map fun x =>
      if x.2 % 2 = 0 then x.1 else if 2 * x.1 ≤ 9 then 2 * x.1 else 2 * x.1 - 9).sum) % 10 = 0

/-- R114: the chained tag of blocks under a key: from a chaining value of 16 zero bytes each block in turn is combined
with it byte by byte and taken through the transform; the tag is the first 8 bytes of the last value. R118, R120: the
envelope ciphertext, taken once more through the keystream of its key, lane, sequence, key id and counter, gives back
the envelope plaintext; and what the unsealing key unseals of 88 bytes seals back to them. R117, R44: the plaintext
holds the card number length and digits, expiry, service code, remainder length and remainder, unused positions and the
end 0. R55: every block that enters the transform, as little-endian fields (offset, bytes, value) that cover its 16
bytes. R115, R116: the derivation blocks of the acquirer working keys (purposes 0x01 and 0x02) and of the lane working
keys (0x11 and 0x12; the high byte of the lane counter in byte 9). R118, R120: the keystream blocks of envelope and
lane. R119: the envelope tag is the chained tag of B1, B2 and the five ciphertext blocks. R121: the lane tag is that of
B1 and the 88 sealed bytes filled up with 8 bytes of 0. R62: the answer nonce is the first 8 bytes of the transform of
the answer nonce block. -/
def Obligations.EnvelopesOpenAndTagsChain : Prop :=
  (∀ (key : List Byte) (blocks values : List (List Byte)),
    values.length = blocks.length + 1 → values[0]? = some (List.replicate 16 0) →
    (∀ i v b, values[i]? = some v → blocks[i]? = some b →
      values[i + 1]? = some (transform key (List.zipWith (· ^^^ ·) v b))) →
    ∀ last, values[blocks.length]? = some last → chainedTag key blocks = last.take 8) ∧
  (∀ (envKey body : List Byte) (lane sequence keyId counter : Nat), 16 ≤ envKey.length → body.length = 88 →
    (envelopeCipher envKey body lane sequence keyId counter).length = 80 ∧
    xorBytes (envelopeCipher envKey body lane sequence keyId counter)
      ((List.range 5).flatMap fun j => transform envKey (envelopeStreamBlock lane sequence keyId counter j)) =
    envelopePlaintext body) ∧
  (∀ (unsealKey sealedBytes : List Byte) (lane sequence counter : Nat), 16 ≤ unsealKey.length →
    sealedBytes.length = 88 →
    unsealBody unsealKey sealedBytes lane sequence counter = List.zipWith (· ^^^ ·) sealedBytes
      ((List.range 6).flatMap fun j => transform unsealKey (laneStreamBlock lane sequence counter j)) ∧
    unsealBody unsealKey (unsealBody unsealKey sealedBytes lane sequence counter) lane sequence counter =
      sealedBytes) ∧
  (∀ (body plaintext : List Byte) (n r : Nat), body.length = 88 → n = (body.getD 0 0).toNat → n ≤ 19 →
    r = (body.getD 40 0).toNat → r ≤ 47 → plaintext = envelopePlaintext body →
    plaintext.length = 80 ∧
    ∀ i < 80, plaintext.getD i 0 =
      if i < n + 1 then body.getD i 0 else if i < 20 then 0 else if i < 27 then body.getD i 0
      else if i < 28 + r then body.getD (i + 13) 0 else 0) ∧
  ∀ shows : List Byte → List (Nat × Nat × Nat) → Prop,
    (∀ block fields, shows block fields ↔ block.length = 16 ∧
      ∀ f ∈ fields, leNat (slice block f.1 f.2.1) = f.2.2 % 256 ^ f.2.1) →
    (∀ (key : List Byte) (keyId counter store : Nat),
      (∀ purpose, shows (acquirerBlock purpose keyId counter store)
        [(0, 1, purpose), (1, 1, keyId), (2, 3, counter), (5, 4, store), (9, 7, 0)]) ∧
      acquirerKeys key keyId counter store =
        (transform key (acquirerBlock 1 keyId counter store), transform key (acquirerBlock 2 keyId counter store))) ∧
    (∀ (key : List Byte) (lane counter keyId : Nat),
      (∀ purpose, shows (laneBlock purpose lane counter keyId)
        [(0, 1, purpose), (1, 1, lane), (2, 3, counter), (5, 1, keyId), (6, 3, 0), (9, 1, counter / 256 ^ 3),
          (10, 6, 0)]) ∧
      laneWorkingKeys key lane counter keyId =
        (transform key (laneBlock 0x11 lane counter keyId), transform key (laneBlock 0x12 lane counter keyId))) ∧
    (∀ lane sequence keyId counter j : Nat,
      shows (envelopeStreamBlock lane sequence keyId counter j)
        [(0, 1, lane), (1, 4, sequence), (5, 1, keyId), (6, 3, counter), (9, 1, j), (10, 6, 0)] ∧
      shows (laneStreamBlock lane sequence counter j)
        [(0, 1, lane), (1, 4, sequence), (5, 4, counter), (9, 1, j), (10, 6, 0)]) ∧
    (∀ (tagKey body cipher : List Byte) (lane sequence keyId counter batch : Nat), body.length = 88 →
      cipher.length = 80 →
      ∃ b1 b2,
        shows b1 [(0, 1, lane), (1, 4, sequence), (5, 1, keyId), (6, 3, counter), (9, 4, batch),
          (13, 2, leNat (slice body 28 2)), (15, 1, 0)] ∧
        shows b2 [(0, 5, leNat (slice body 32 5)), (5, 1, (body.getD 27 0).toNat % 2), (6, 10, 0)] ∧
        envelopeTag tagKey body cipher lane sequence keyId counter batch =
          chainedTag tagKey ([b1, b2] ++ (List.range 5).map fun i => slice cipher (16 * i) 16)) ∧
    (∀ (tagKey sealedBytes : List Byte) (kind lane cls sequence time counter : Nat), sealedBytes.length = 88 →
      ∃ b1,
        shows b1 [(0, 1, kind), (1, 1, lane), (2, 1, cls), (3, 4, sequence), (7, 4, time), (11, 4, counter), (15, 1, 0)] ∧
        laneTag tagKey sealedBytes kind lane cls sequence time counter =
          chainedTag tagKey ([b1] ++
            (List.range 6).map fun i => slice (sealedBytes ++ List.replicate 8 0) (16 * i) 16)) ∧
    ∀ (key nonce : List Byte) (lane : Nat) (serial : BitVec 32), nonce.length = 8 →
      ∃ block,
        shows block [(0, 1, lane), (1, 8, leNat nonce), (9, 4, serial.toNat), (13, 3, 0)] ∧
        answerNonce key lane nonce serial = (transform key block).take 8

/-- R46 to R49, R45: the bytes of the part's output records of a hold, of a slot size of 256 or 512, as little-endian
fields (offset, bytes, value) that cover the whole slot. The header copies kind, version, lane, class byte, lane
sequence and till time where the hold's header is known, else it shows lane 255; then the output's length, disposition
and reason code, the key id, counter and batch number of a WRAPPED record alone, the ring index and the window. What
follows is zeros, the held bytes of a PASSED record up to its length, the fields of a WRAPPED one, or the enrolment
result. -/
def Obligations.OutputsAreLaidOut : Prop :=
  ∀ (size : Nat) (h : Hold) (d : Disposition) (r : Reason) (dCode rCode : Nat), size = 256 ∨ size = 512 →
    (d, dCode) ∈ [(Disposition.passed, 1), (.wrapped, 2), (.duplicate, 3), (.stale, 4), (.rejected, 5), (.expired, 6),
      (.skipped, 7), (.noted, 8), (.answered, 9), (.refused, 10), (.confirmed, 11)] →
    (r, rCode) ∈ [(Reason.none, 0), (.badKind, 1), (.badVersion, 2), (.badLength, 3), (.badBody, 4), (.badPan, 5),
      (.badAmount, 6), (.badLane, 16), (.notEnrolled, 17), (.laneSuspended, 18), (.kindNotAgreed, 19), (.badSeq, 20),
      (.laneTag, 32), (.laneReplay, 33), (.noLaneKey, 34), (.noKey, 48), (.counterStore, 49), (.noCommonKind, 64),
      (.laneLocked, 65), (.confirmMismatch, 66), (.confirmUnexpected, 67)] →
    ∀ (shows : List Byte → List (Nat × Nat × Nat) → Prop) (header : Nat → Nat → Nat → Nat → Nat → Nat →
        List (Nat × Nat × Nat)),
      (∀ out fields, shows out fields ↔ out.length = size ∧
        ∀ f ∈ fields, leNat (slice out f.1 f.2.1) = f.2.2 % 256 ^ f.2.1) →
      (∀ length dc rc key counter batch, header length dc rc key counter batch =
        (if h.header.isSome = true then [(0, 4, heldNat h 0 4), (8, 8, heldNat h 8 8)]
          else [(0, 2, 0), (2, 1, 255), (3, 1, 0), (8, 8, 0)]) ++
        [(4, 2, length), (6, 1, dc), (7, 1, rc), (16, 1, key), (17, 3, counter), (20, 4, batch),
          (24, 2, h.ringIndex.toNat), (26, 1, h.window), (27, 5, 0)]) →
      shows (headerOnlyOutput size h d r) (header 32 dCode rCode 0 0 0 ++ [(32, size - 32, 0)]) ∧
      (∀ length, 32 ≤ length → length ≤ size →
        shows (passedOutput size h length) (header length 1 0 0 0 0 ++
          [(32, length - 32, heldNat h 32 (length - 32)), (length, size - length, 0)])) ∧
      (∀ (body : List Byte) (key counter batch : Nat) (surrogate : List Nat) (cipher tag : List Byte),
        surrogate.length ≤ 19 → cipher.length = 80 → tag.length = 8 →
        shows (wrappedOutput size h body ⟨key, counter, batch⟩ surrogate cipher tag) (header 168 2 0 key counter batch ++
          [(32, 1, (body.getD 0 0).toNat), (33, 19, leNat (surrogate.map (BitVec.ofNat 8))), (52, 7, 0),
            (59, 1, (body.getD 27 0).toNat % 2), (60, 2, leNat (slice body 28 2)), (62, 2, 0),
            (64, 5, leNat (slice body 32 5)), (69, 3, 0), (72, 1, 80), (73, 7, 0), (80, 80, leNat cipher),
            (160, 8, leNat tag), (168, size - 168, 0)])) ∧
      ∀ (isOffer : Bool) (answer : Option Agreement) (id store : Nat), (∀ a ∈ answer, a.nonce.length = 8) →
        shows (enrolmentOutput size h isOffer d r answer id store) (header 64 dCode rCode 0 0 0 ++
          [(32, 1, match answer with
              | some a => (if a.kinds.clear then 1 else 0) + (if a.kinds.sealed then 2 else 0)
              | none => 0),
            (33, 1, match answer with
              | some a => a.keyId.toNat
              | none => 0),
            (34, 1, id), (35, 1, 0), (36, 8, heldNat h 36 8),
            (44, 8, match answer with
              | some a => leNat a.nonce
              | none => 0),
            (52, 4, store), (56, 4, if isOffer then heldNat h 44 4 else 0), (60, 4, 0), (64, size - 64, 0)])

/-- R50: a void record, of a slot size of 256 or 512: its bytes are 0 but for the lane byte 255, the length 32, the
disposition 7 (SKIPPED), the ring index of the cursor slot and the window number. Byte 6 tells it from a header-only
EXPIRED output, whose byte 6 is 6. -/
def Obligations.VoidRecordsAreLaidOut : Prop :=
  ∀ (size w : Nat) (ring : BitVec 16), size = 256 ∨ size = 512 → w ≤ 3 →
    voidOutput size ring w =
      [0, 0, 255, 0, 32, 0, 7, 0] ++ List.replicate 16 0 ++
        [BitVec.ofNat 8 ring.toNat, BitVec.ofNat 8 (ring.toNat / 256), BitVec.ofNat 8 w] ++
        List.replicate (size - 27) 0 ∧
    ∀ h : Hold, (headerOnlyOutput size h .expired .none)[6]? = some 6

/-- R52, R53, R54, R81, R138, R143, R144, R156, R168: the bytes of status blocks and of the batch summary, as
little-endian fields (offset, bytes, value) that cover the whole of each: a window's block with its indices, its nine
counts and its attention flags; the STORE block with sweep count, image outcomes, overlap bits, acquirer slots, C, key
flags, done index, last summary, lane events and lane states; the summary with its header, its 48 lane entries, and the
chained tag of its first 832 bytes under the BATCH key, or zeros and the untagged flag where that slot is EMPTY. The
codes of causes, outcomes, key and lane states, and of directive results (R53). -/
def Obligations.BlocksAreLaidOut : Prop :=
  ∀ (shows : List Byte → List (Nat × Nat × Nat) → Prop) (flag : Prop → Nat),
    (∀ out fields, shows out fields ↔ ∀ f ∈ fields, leNat (slice out f.1 f.2.1) = f.2.2 % 256 ^ f.2.1) →
    (∀ p : Prop, (p → flag p = 1) ∧ (¬p → flag p = 0)) →
    (∀ (c : Channel) (ch cCode : Nat) (cause : ResetCause) (w : WindowSlots),
      (cause, cCode) ∈ [(ResetCause.powerOn, 1), (.resetLine, 2)] →
      (windowBlock c ch cause w).length = 128 ∧ shows (windowBlock c ch cause w)
        [(0, 1, 1), (1, 1, c.nextTag), (2, 1, ch), (3, 1, cCode), (4, 2, w.release.toNat), (6, 2, w.consumed.toNat),
          (8, 2, c.counts.wrapped), (10, 2, c.counts.passed), (12, 2, c.counts.duplicateStale),
          (14, 2, c.counts.rejected), (16, 2, c.counts.expiredSkipped), (18, 2, c.counts.overrun),
          (20, 2, c.counts.collision), (22, 2, c.counts.exhausted), (24, 2, c.counts.writeFaults),
          (26, 2, flag (c.returnIgnored ≠ .clear) + 2 * flag (c.writeFault ≠ .clear)), (28, 100, 0)]) ∧
    (∀ (c : Channel) (cCode : Nat) (cause : ResetCause) (sweepCount : BitVec 32) (cfg : Settings) (k : KeyUnit)
      (done : BitVec 16) (t : Totals) (lanes : LaneTable) (block : List Byte) (keyCode : KeyState → Nat),
      (cause, cCode) ∈ [(ResetCause.powerOn, 1), (.resetLine, 2)] → cfg.outcomes.length = 5 → cfg.overlap.length = 4 →
      lanes.entries.length = 48 → block = storeBlock c cause sweepCount cfg k done t lanes →
      (keyCode .empty = 0 ∧ keyCode .loaded = 1 ∧ keyCode .active = 2 ∧ keyCode .spent = 3) →
      block.length = 128 ∧ shows block
        [(0, 1, 1), (1, 1, c.nextTag), (2, 1, 4), (3, 1, cCode), (4, 4, sweepCount.toNat),
          (13, 1, flag (cfg.overlap[0]? = some true) + 2 * flag (cfg.overlap[1]? = some true) +
            4 * flag (cfg.overlap[2]? = some true) + 8 * flag (cfg.overlap[3]? = some true)),
          (14, 2, flag (c.writeFault ≠ .clear)),
          (16, 1, flag (k.store.current.state ≠ .empty) * k.store.current.id), (17, 1, keyCode k.store.current.state),
          (18, 1, flag (k.store.next.state ≠ .empty) * k.store.next.id), (19, 1, keyCode k.store.next.state),
          (20, 4, flag (k.store.current.state ≠ .empty) * k.currentC),
          (24, 1, flag ((k.store.current.state = .active ∨ k.store.current.state = .spent) ∧
              cfg.warnThreshold ≤ k.currentC) +
            2 * flag (k.store.surrogate.state = .empty ∨ k.store.current.state ≠ .active) +
            4 * flag (k.counterStore = true)),
          (25, 1, 0), (26, 2, done.toNat), (28, 4, t.lastSummary), (32, 1, flag (t.summaryReady = true)), (33, 7, 0),
          (46, 2, 0), (96, 32, 0)] ∧
      (∀ g o oCode, cfg.outcomes[g]? = some o →
        (o, oCode) ∈ [(GroupOutcome.loaded, 0), (.defaulted, 1), (.checkFailed, 2)] → shows block [(8 + g, 1, oCode)]) ∧
      ∀ lane l lCode, lanes.entries[lane]? = some l →
        (l.state, lCode) ∈ [(LaneState.absent, 0), (.offered, 1), (.confirming, 2), (.enrolled, 3), (.faulted, 4)] →
        ((leNat (slice block 40 6)).testBit lane = true ↔
          l.enrolment ≠ .clear ∨ l.fault ≠ .clear ∨ l.silent ≠ .clear) ∧
        shows block [(48 + lane, 1, lCode + 8 * flag (l.suspended = true) + 16 * flag (l.latch = true) +
          32 * flag (l.state = .faulted ∧ l.failures = 4) + 64 * flag (∃ a ∈ l.agreement, a.kinds.clear = true) +
          128 * flag (∃ a ∈ l.agreement, a.kinds.sealed = true))]) ∧
    (∀ (b : Batch) (store : Nat) (k : KeySlot) (out : List Byte), b.lanes.length = 48 → k.key.length = 16 →
      out = buildSummary b store k →
      out.length = 848 ∧ shows out
        [(0, 4, b.number), (4, 4, store),
          (8, 1, flag (b.afterReset = true) + 2 * flag (k.state = .empty) + 4 * flag (b.store.sum.sat = true) +
            8 * flag (b.store.count.sat = true) + 16 * flag (b.store.refundSum.sat = true) +
            32 * flag (b.store.refundCount.sat = true)),
          (9, 1, (b.range.map (·.1.keyId)).getD 0), (10, 3, (b.range.map (·.1.counter)).getD 0),
          (13, 1, (b.range.map (·.2.keyId)).getD 0), (14, 3, (b.range.map (·.2.counter)).getD 0),
          (17, 3, b.store.count.value), (20, 6, b.store.sum.value), (26, 3, b.store.refundCount.value),
          (29, 6, b.store.refundSum.value), (35, 29, 0), (840, 8, 0)] ∧
      (∀ lane t, b.lanes[lane]? = some t → shows out
        [(64 + 16 * lane, 2, t.count.value), (66 + 16 * lane, 5, t.sum.value), (71 + 16 * lane, 2, t.refundCount.value),
          (73 + 16 * lane, 5, t.refundSum.value),
          (78 + 16 * lane, 1, flag (t.count.sat = true) + 2 * flag (t.sum.sat = true) +
            4 * flag (t.refundCount.sat = true) + 8 * flag (t.refundSum.sat = true)),
          (79 + 16 * lane, 1, 0)]) ∧
      (k.state = .empty → shows out [(832, 8, 0)]) ∧
      (k.state ≠ .empty → slice out 832 8 = chainedTag k.key ((List.range 52).map fun i => slice out (16 * i) 16))) ∧
    ∀ (r : DirectiveResult) (rCode : Nat),
      (r, rCode) ∈ [(DirectiveResult.done, 1), (.noNextKey, 2), (.storeFault, 3), (.badLane, 4), (.unknownCode, 5),
        (.incomplete, 6)] → resultCode r = rCode

/-! ### Invariants -/

/-- The state after power-on meets every invariant stated below. -/
def Obligations.ResetMeetsTheInvariants : Prop :=
  MemoryCanonical State.reset ∧ LanesSound State.reset ∧ AcquirersLegal State.reset ∧ MarksHold State.reset ∧
    ChannelsSound State.reset ∧ BuffersFit State.reset ∧ IntakeSound State.reset ∧ PathSound State.reset ∧
    WorkSound State.reset

/-- R8, R14: every command keeps the record of memory in its canonical form, the model's representation (log 9). -/
def Obligations.MemoryStaysCanonical : Prop :=
  ∀ (s t : State), MemoryCanonical s → step s = .next t → MemoryCanonical t

/-- R56, R64, R66, R68, R70, R77, R78, R83: at every step of the part each of the 48 lanes stays sound: an offer
exactly while OFFERED or CONFIRMING, an agreement exactly while CONFIRMING or ENROLLED, a deadline exactly while
CONFIRMING, at most 4 failures, a silence count of at most 255, and the latch set exactly while SILENT is pending or
reported. -/
def Obligations.LanesStaySound : Prop :=
  ∀ (s t : State), LanesSound s → step s = .next t → LanesSound t

/-- R134, R142, R129: in the working key store, the stored one and the one being written, at every step, ACQ_CURRENT is
never LOADED, ACQ_NEXT is EMPTY or LOADED, a LOADED ACQ_NEXT has an id above the highest ever active, and ACQ_CURRENT's
id is not above it. -/
def Obligations.AcquirerSlotsStayLegal : Prop :=
  ∀ (s t : State), AcquirersLegal s → step s = .next t → AcquirersLegal t

/-- R137, R130, R136: at every step C stays within the working mark, and every stored image that a reset could bring
back, the stored one and the one being written, carries for the key in use a mark at least as high, so that no counter
value below it is handed out again. It rests on a mark never being lowered, the model's reading (log 27). -/
def Obligations.StoredMarksCoverTheCounter : Prop :=
  ∀ (s t : State), MarksHold s → step s = .next t → MarksHold t

/-- R162 to R165, R169, R170, R173: at every step each channel is armed exactly while it is not pending, its next tag
is 1 to 255, its counts stay within 65,535 and at or above what they were in the last taken content, and its coalescing
values stay within 64 and 255. -/
def Obligations.ChannelsStaySound : Prop :=
  ∀ (s t : State), ChannelsSound s → step s = .next t → ChannelsSound t

/-- R1, R9, R10, R18: at every step at most 8 accepted transactions wait for a response, the internal write queue holds
at most 32 entries, at most 16 bursts wait for an answer, and at most 16 holds stand. That bursts issued before a reset
and not yet answered count among the 16 is read from R10 and R14 by inference (log 15). -/
def Obligations.BuffersStayWithinTheirSizes : Prop :=
  ∀ (s t : State), BuffersFit s → step s = .next t → BuffersFit t

/-- R16, R18, R27, R34, R35: at every step, in each window, the slots at the indices from the consumed index up to the
release index are exactly the RELEASED ones; a slot has a hold, and one alone, exactly when it is FILLING, QUEUED,
WORKING, or WRITING with a write-back; the engine queue names exactly the QUEUED slots, each once; the record in work
is that of the one WORKING slot; and a slot is WRITING exactly while one entry that writes it is under way. -/
def Obligations.IntakeStaysSound : Prop :=
  ∀ (s t : State), IntakeSound s → step s = .next t → IntakeSound t

/-- R4, R9, R162: at every step what passes through writes to no enabled intake window, and every internal entry or
burst that writes to one, waiting, queued or gone downstream, belongs to a write-back or a void record over one whole
slot; a part without a status window has no channel, no directive and no close. -/
def Obligations.PathStaysSound : Prop :=
  ∀ (s t : State), PathSound s → step s = .next t → PathSound t

/-- R84, R89, R95, R102, R106: at every step the record in work holds what its stage needs: an output exactly at the
write-back stage, a body, a capture and products where the stages before have left them; past the admission stage its
copy says ENROLLED, not suspended, ACCEPT; only a record so admitted, with a counter value, a batch number and an
envelope tag, ends WRAPPED. A key request waits only for a record at the reservation wait, and a write-back for room
only for one at the write-back stage. (The stages are the model's, log 22.) -/
def Obligations.WorkStaysSound : Prop :=
  ∀ (s t : State), WorkSound s → step s = .next t → WorkSound t
end

