-- ==== Sys2Proof/Laws/State.lean ====
section
/-! SUPPORT. What each block update leaves in each field of the state: one lemma for each field and update, by rfl. -/

namespace Sys2Proof.Laws

open Sys2Proof.Machine

variable (s : State)

@[simp] theorem onPath_phase (f : PathFront → PathFront) : (onPath f s).phase = s.phase := rfl
@[simp] theorem onPath_cause (f : PathFront → PathFront) : (onPath f s).cause = s.cause := rfl
@[simp] theorem onPath_settings (f : PathFront → PathFront) : (onPath f s).settings = s.settings := rfl
@[simp] theorem onPath_path (f : PathFront → PathFront) : (onPath f s).path = f s.path := rfl
@[simp] theorem onPath_intake (f : PathFront → PathFront) : (onPath f s).intake = s.intake := rfl
@[simp] theorem onPath_engine (f : PathFront → PathFront) : (onPath f s).engine = s.engine := rfl
@[simp] theorem onPath_lanes (f : PathFront → PathFront) : (onPath f s).lanes = s.lanes := rfl
@[simp] theorem onPath_keys (f : PathFront → PathFront) : (onPath f s).keys = s.keys := rfl
@[simp] theorem onPath_totals (f : PathFront → PathFront) : (onPath f s).totals = s.totals := rfl
@[simp] theorem onPath_report (f : PathFront → PathFront) : (onPath f s).report = s.report := rfl
@[simp] theorem onPath_directives (f : PathFront → PathFront) : (onPath f s).directives = s.directives := rfl
@[simp] theorem onPath_sweepCount (f : PathFront → PathFront) : (onPath f s).sweepCount = s.sweepCount := rfl
@[simp] theorem onPath_port (f : PathFront → PathFront) : (onPath f s).port = s.port := rfl
@[simp] theorem onPath_nv (f : PathFront → PathFront) : (onPath f s).nv = s.nv := rfl
@[simp] theorem onPath_dram (f : PathFront → PathFront) : (onPath f s).dram = s.dram := rfl
@[simp] theorem onPath_freeCount (f : PathFront → PathFront) : (onPath f s).freeCount = s.freeCount := rfl
@[simp] theorem onPath_pending (f : PathFront → PathFront) : (onPath f s).pending = s.pending := rfl

@[simp] theorem onIntake_phase (f : Intake → Intake) : (onIntake f s).phase = s.phase := rfl
@[simp] theorem onIntake_cause (f : Intake → Intake) : (onIntake f s).cause = s.cause := rfl
@[simp] theorem onIntake_settings (f : Intake → Intake) : (onIntake f s).settings = s.settings := rfl
@[simp] theorem onIntake_path (f : Intake → Intake) : (onIntake f s).path = s.path := rfl
@[simp] theorem onIntake_intake (f : Intake → Intake) : (onIntake f s).intake = f s.intake := rfl
@[simp] theorem onIntake_engine (f : Intake → Intake) : (onIntake f s).engine = s.engine := rfl
@[simp] theorem onIntake_lanes (f : Intake → Intake) : (onIntake f s).lanes = s.lanes := rfl
@[simp] theorem onIntake_keys (f : Intake → Intake) : (onIntake f s).keys = s.keys := rfl
@[simp] theorem onIntake_totals (f : Intake → Intake) : (onIntake f s).totals = s.totals := rfl
@[simp] theorem onIntake_report (f : Intake → Intake) : (onIntake f s).report = s.report := rfl
@[simp] theorem onIntake_directives (f : Intake → Intake) : (onIntake f s).directives = s.directives := rfl
@[simp] theorem onIntake_sweepCount (f : Intake → Intake) : (onIntake f s).sweepCount = s.sweepCount := rfl
@[simp] theorem onIntake_port (f : Intake → Intake) : (onIntake f s).port = s.port := rfl
@[simp] theorem onIntake_nv (f : Intake → Intake) : (onIntake f s).nv = s.nv := rfl
@[simp] theorem onIntake_dram (f : Intake → Intake) : (onIntake f s).dram = s.dram := rfl
@[simp] theorem onIntake_freeCount (f : Intake → Intake) : (onIntake f s).freeCount = s.freeCount := rfl
@[simp] theorem onIntake_pending (f : Intake → Intake) : (onIntake f s).pending = s.pending := rfl

@[simp] theorem onEngine_phase (f : Engine → Engine) : (onEngine f s).phase = s.phase := rfl
@[simp] theorem onEngine_cause (f : Engine → Engine) : (onEngine f s).cause = s.cause := rfl
@[simp] theorem onEngine_settings (f : Engine → Engine) : (onEngine f s).settings = s.settings := rfl
@[simp] theorem onEngine_path (f : Engine → Engine) : (onEngine f s).path = s.path := rfl
@[simp] theorem onEngine_intake (f : Engine → Engine) : (onEngine f s).intake = s.intake := rfl
@[simp] theorem onEngine_engine (f : Engine → Engine) : (onEngine f s).engine = f s.engine := rfl
@[simp] theorem onEngine_lanes (f : Engine → Engine) : (onEngine f s).lanes = s.lanes := rfl
@[simp] theorem onEngine_keys (f : Engine → Engine) : (onEngine f s).keys = s.keys := rfl
@[simp] theorem onEngine_totals (f : Engine → Engine) : (onEngine f s).totals = s.totals := rfl
@[simp] theorem onEngine_report (f : Engine → Engine) : (onEngine f s).report = s.report := rfl
@[simp] theorem onEngine_directives (f : Engine → Engine) : (onEngine f s).directives = s.directives := rfl
@[simp] theorem onEngine_sweepCount (f : Engine → Engine) : (onEngine f s).sweepCount = s.sweepCount := rfl
@[simp] theorem onEngine_port (f : Engine → Engine) : (onEngine f s).port = s.port := rfl
@[simp] theorem onEngine_nv (f : Engine → Engine) : (onEngine f s).nv = s.nv := rfl
@[simp] theorem onEngine_dram (f : Engine → Engine) : (onEngine f s).dram = s.dram := rfl
@[simp] theorem onEngine_freeCount (f : Engine → Engine) : (onEngine f s).freeCount = s.freeCount := rfl
@[simp] theorem onEngine_pending (f : Engine → Engine) : (onEngine f s).pending = s.pending := rfl

@[simp] theorem onLanes_phase (f : LaneTable → LaneTable) : (onLanes f s).phase = s.phase := rfl
@[simp] theorem onLanes_cause (f : LaneTable → LaneTable) : (onLanes f s).cause = s.cause := rfl
@[simp] theorem onLanes_settings (f : LaneTable → LaneTable) : (onLanes f s).settings = s.settings := rfl
@[simp] theorem onLanes_path (f : LaneTable → LaneTable) : (onLanes f s).path = s.path := rfl
@[simp] theorem onLanes_intake (f : LaneTable → LaneTable) : (onLanes f s).intake = s.intake := rfl
@[simp] theorem onLanes_engine (f : LaneTable → LaneTable) : (onLanes f s).engine = s.engine := rfl
@[simp] theorem onLanes_lanes (f : LaneTable → LaneTable) : (onLanes f s).lanes = f s.lanes := rfl
@[simp] theorem onLanes_keys (f : LaneTable → LaneTable) : (onLanes f s).keys = s.keys := rfl
@[simp] theorem onLanes_totals (f : LaneTable → LaneTable) : (onLanes f s).totals = s.totals := rfl
@[simp] theorem onLanes_report (f : LaneTable → LaneTable) : (onLanes f s).report = s.report := rfl
@[simp] theorem onLanes_directives (f : LaneTable → LaneTable) : (onLanes f s).directives = s.directives := rfl
@[simp] theorem onLanes_sweepCount (f : LaneTable → LaneTable) : (onLanes f s).sweepCount = s.sweepCount := rfl
@[simp] theorem onLanes_port (f : LaneTable → LaneTable) : (onLanes f s).port = s.port := rfl
@[simp] theorem onLanes_nv (f : LaneTable → LaneTable) : (onLanes f s).nv = s.nv := rfl
@[simp] theorem onLanes_dram (f : LaneTable → LaneTable) : (onLanes f s).dram = s.dram := rfl
@[simp] theorem onLanes_freeCount (f : LaneTable → LaneTable) : (onLanes f s).freeCount = s.freeCount := rfl
@[simp] theorem onLanes_pending (f : LaneTable → LaneTable) : (onLanes f s).pending = s.pending := rfl

@[simp] theorem onKeys_phase (f : KeyUnit → KeyUnit) : (onKeys f s).phase = s.phase := rfl
@[simp] theorem onKeys_cause (f : KeyUnit → KeyUnit) : (onKeys f s).cause = s.cause := rfl
@[simp] theorem onKeys_settings (f : KeyUnit → KeyUnit) : (onKeys f s).settings = s.settings := rfl
@[simp] theorem onKeys_path (f : KeyUnit → KeyUnit) : (onKeys f s).path = s.path := rfl
@[simp] theorem onKeys_intake (f : KeyUnit → KeyUnit) : (onKeys f s).intake = s.intake := rfl
@[simp] theorem onKeys_engine (f : KeyUnit → KeyUnit) : (onKeys f s).engine = s.engine := rfl
@[simp] theorem onKeys_lanes (f : KeyUnit → KeyUnit) : (onKeys f s).lanes = s.lanes := rfl
@[simp] theorem onKeys_keys (f : KeyUnit → KeyUnit) : (onKeys f s).keys = f s.keys := rfl
@[simp] theorem onKeys_totals (f : KeyUnit → KeyUnit) : (onKeys f s).totals = s.totals := rfl
@[simp] theorem onKeys_report (f : KeyUnit → KeyUnit) : (onKeys f s).report = s.report := rfl
@[simp] theorem onKeys_directives (f : KeyUnit → KeyUnit) : (onKeys f s).directives = s.directives := rfl
@[simp] theorem onKeys_sweepCount (f : KeyUnit → KeyUnit) : (onKeys f s).sweepCount = s.sweepCount := rfl
@[simp] theorem onKeys_port (f : KeyUnit → KeyUnit) : (onKeys f s).port = s.port := rfl
@[simp] theorem onKeys_nv (f : KeyUnit → KeyUnit) : (onKeys f s).nv = s.nv := rfl
@[simp] theorem onKeys_dram (f : KeyUnit → KeyUnit) : (onKeys f s).dram = s.dram := rfl
@[simp] theorem onKeys_freeCount (f : KeyUnit → KeyUnit) : (onKeys f s).freeCount = s.freeCount := rfl
@[simp] theorem onKeys_pending (f : KeyUnit → KeyUnit) : (onKeys f s).pending = s.pending := rfl

@[simp] theorem onTotals_phase (f : Totals → Totals) : (onTotals f s).phase = s.phase := rfl
@[simp] theorem onTotals_cause (f : Totals → Totals) : (onTotals f s).cause = s.cause := rfl
@[simp] theorem onTotals_settings (f : Totals → Totals) : (onTotals f s).settings = s.settings := rfl
@[simp] theorem onTotals_path (f : Totals → Totals) : (onTotals f s).path = s.path := rfl
@[simp] theorem onTotals_intake (f : Totals → Totals) : (onTotals f s).intake = s.intake := rfl
@[simp] theorem onTotals_engine (f : Totals → Totals) : (onTotals f s).engine = s.engine := rfl
@[simp] theorem onTotals_lanes (f : Totals → Totals) : (onTotals f s).lanes = s.lanes := rfl
@[simp] theorem onTotals_keys (f : Totals → Totals) : (onTotals f s).keys = s.keys := rfl
@[simp] theorem onTotals_totals (f : Totals → Totals) : (onTotals f s).totals = f s.totals := rfl
@[simp] theorem onTotals_report (f : Totals → Totals) : (onTotals f s).report = s.report := rfl
@[simp] theorem onTotals_directives (f : Totals → Totals) : (onTotals f s).directives = s.directives := rfl
@[simp] theorem onTotals_sweepCount (f : Totals → Totals) : (onTotals f s).sweepCount = s.sweepCount := rfl
@[simp] theorem onTotals_port (f : Totals → Totals) : (onTotals f s).port = s.port := rfl
@[simp] theorem onTotals_nv (f : Totals → Totals) : (onTotals f s).nv = s.nv := rfl
@[simp] theorem onTotals_dram (f : Totals → Totals) : (onTotals f s).dram = s.dram := rfl
@[simp] theorem onTotals_freeCount (f : Totals → Totals) : (onTotals f s).freeCount = s.freeCount := rfl
@[simp] theorem onTotals_pending (f : Totals → Totals) : (onTotals f s).pending = s.pending := rfl

@[simp] theorem onReport_phase (f : List Channel → List Channel) : (onReport f s).phase = s.phase := rfl
@[simp] theorem onReport_cause (f : List Channel → List Channel) : (onReport f s).cause = s.cause := rfl
@[simp] theorem onReport_settings (f : List Channel → List Channel) : (onReport f s).settings = s.settings := rfl
@[simp] theorem onReport_path (f : List Channel → List Channel) : (onReport f s).path = s.path := rfl
@[simp] theorem onReport_intake (f : List Channel → List Channel) : (onReport f s).intake = s.intake := rfl
@[simp] theorem onReport_engine (f : List Channel → List Channel) : (onReport f s).engine = s.engine := rfl
@[simp] theorem onReport_lanes (f : List Channel → List Channel) : (onReport f s).lanes = s.lanes := rfl
@[simp] theorem onReport_keys (f : List Channel → List Channel) : (onReport f s).keys = s.keys := rfl
@[simp] theorem onReport_totals (f : List Channel → List Channel) : (onReport f s).totals = s.totals := rfl
@[simp] theorem onReport_report (f : List Channel → List Channel) : (onReport f s).report = f s.report := rfl
@[simp] theorem onReport_directives (f : List Channel → List Channel) : (onReport f s).directives = s.directives := rfl
@[simp] theorem onReport_sweepCount (f : List Channel → List Channel) : (onReport f s).sweepCount = s.sweepCount := rfl
@[simp] theorem onReport_port (f : List Channel → List Channel) : (onReport f s).port = s.port := rfl
@[simp] theorem onReport_nv (f : List Channel → List Channel) : (onReport f s).nv = s.nv := rfl
@[simp] theorem onReport_dram (f : List Channel → List Channel) : (onReport f s).dram = s.dram := rfl
@[simp] theorem onReport_freeCount (f : List Channel → List Channel) : (onReport f s).freeCount = s.freeCount := rfl
@[simp] theorem onReport_pending (f : List Channel → List Channel) : (onReport f s).pending = s.pending := rfl

@[simp] theorem onDirectives_phase (f : DirectiveUnit → DirectiveUnit) : (onDirectives f s).phase = s.phase := rfl
@[simp] theorem onDirectives_cause (f : DirectiveUnit → DirectiveUnit) : (onDirectives f s).cause = s.cause := rfl
@[simp] theorem onDirectives_settings (f : DirectiveUnit → DirectiveUnit) : (onDirectives f s).settings = s.settings := rfl
@[simp] theorem onDirectives_path (f : DirectiveUnit → DirectiveUnit) : (onDirectives f s).path = s.path := rfl
@[simp] theorem onDirectives_intake (f : DirectiveUnit → DirectiveUnit) : (onDirectives f s).intake = s.intake := rfl
@[simp] theorem onDirectives_engine (f : DirectiveUnit → DirectiveUnit) : (onDirectives f s).engine = s.engine := rfl
@[simp] theorem onDirectives_lanes (f : DirectiveUnit → DirectiveUnit) : (onDirectives f s).lanes = s.lanes := rfl
@[simp] theorem onDirectives_keys (f : DirectiveUnit → DirectiveUnit) : (onDirectives f s).keys = s.keys := rfl
@[simp] theorem onDirectives_totals (f : DirectiveUnit → DirectiveUnit) : (onDirectives f s).totals = s.totals := rfl
@[simp] theorem onDirectives_report (f : DirectiveUnit → DirectiveUnit) : (onDirectives f s).report = s.report := rfl
@[simp] theorem onDirectives_directives (f : DirectiveUnit → DirectiveUnit) : (onDirectives f s).directives = f s.directives := rfl
@[simp] theorem onDirectives_sweepCount (f : DirectiveUnit → DirectiveUnit) : (onDirectives f s).sweepCount = s.sweepCount := rfl
@[simp] theorem onDirectives_port (f : DirectiveUnit → DirectiveUnit) : (onDirectives f s).port = s.port := rfl
@[simp] theorem onDirectives_nv (f : DirectiveUnit → DirectiveUnit) : (onDirectives f s).nv = s.nv := rfl
@[simp] theorem onDirectives_dram (f : DirectiveUnit → DirectiveUnit) : (onDirectives f s).dram = s.dram := rfl
@[simp] theorem onDirectives_freeCount (f : DirectiveUnit → DirectiveUnit) : (onDirectives f s).freeCount = s.freeCount := rfl
@[simp] theorem onDirectives_pending (f : DirectiveUnit → DirectiveUnit) : (onDirectives f s).pending = s.pending := rfl

@[simp] theorem onPort_phase (f : Port → Port) : (onPort f s).phase = s.phase := rfl
@[simp] theorem onPort_cause (f : Port → Port) : (onPort f s).cause = s.cause := rfl
@[simp] theorem onPort_settings (f : Port → Port) : (onPort f s).settings = s.settings := rfl
@[simp] theorem onPort_path (f : Port → Port) : (onPort f s).path = s.path := rfl
@[simp] theorem onPort_intake (f : Port → Port) : (onPort f s).intake = s.intake := rfl
@[simp] theorem onPort_engine (f : Port → Port) : (onPort f s).engine = s.engine := rfl
@[simp] theorem onPort_lanes (f : Port → Port) : (onPort f s).lanes = s.lanes := rfl
@[simp] theorem onPort_keys (f : Port → Port) : (onPort f s).keys = s.keys := rfl
@[simp] theorem onPort_totals (f : Port → Port) : (onPort f s).totals = s.totals := rfl
@[simp] theorem onPort_report (f : Port → Port) : (onPort f s).report = s.report := rfl
@[simp] theorem onPort_directives (f : Port → Port) : (onPort f s).directives = s.directives := rfl
@[simp] theorem onPort_sweepCount (f : Port → Port) : (onPort f s).sweepCount = s.sweepCount := rfl
@[simp] theorem onPort_port (f : Port → Port) : (onPort f s).port = f s.port := rfl
@[simp] theorem onPort_nv (f : Port → Port) : (onPort f s).nv = s.nv := rfl
@[simp] theorem onPort_dram (f : Port → Port) : (onPort f s).dram = s.dram := rfl
@[simp] theorem onPort_freeCount (f : Port → Port) : (onPort f s).freeCount = s.freeCount := rfl
@[simp] theorem onPort_pending (f : Port → Port) : (onPort f s).pending = s.pending := rfl

@[simp] theorem onNv_phase (f : NvStore → NvStore) : (onNv f s).phase = s.phase := rfl
@[simp] theorem onNv_cause (f : NvStore → NvStore) : (onNv f s).cause = s.cause := rfl
@[simp] theorem onNv_settings (f : NvStore → NvStore) : (onNv f s).settings = s.settings := rfl
@[simp] theorem onNv_path (f : NvStore → NvStore) : (onNv f s).path = s.path := rfl
@[simp] theorem onNv_intake (f : NvStore → NvStore) : (onNv f s).intake = s.intake := rfl
@[simp] theorem onNv_engine (f : NvStore → NvStore) : (onNv f s).engine = s.engine := rfl
@[simp] theorem onNv_lanes (f : NvStore → NvStore) : (onNv f s).lanes = s.lanes := rfl
@[simp] theorem onNv_keys (f : NvStore → NvStore) : (onNv f s).keys = s.keys := rfl
@[simp] theorem onNv_totals (f : NvStore → NvStore) : (onNv f s).totals = s.totals := rfl
@[simp] theorem onNv_report (f : NvStore → NvStore) : (onNv f s).report = s.report := rfl
@[simp] theorem onNv_directives (f : NvStore → NvStore) : (onNv f s).directives = s.directives := rfl
@[simp] theorem onNv_sweepCount (f : NvStore → NvStore) : (onNv f s).sweepCount = s.sweepCount := rfl
@[simp] theorem onNv_port (f : NvStore → NvStore) : (onNv f s).port = s.port := rfl
@[simp] theorem onNv_nv (f : NvStore → NvStore) : (onNv f s).nv = f s.nv := rfl
@[simp] theorem onNv_dram (f : NvStore → NvStore) : (onNv f s).dram = s.dram := rfl
@[simp] theorem onNv_freeCount (f : NvStore → NvStore) : (onNv f s).freeCount = s.freeCount := rfl
@[simp] theorem onNv_pending (f : NvStore → NvStore) : (onNv f s).pending = s.pending := rfl

@[simp] theorem onDram_phase (f : List Host.Cell → List Host.Cell) : (onDram f s).phase = s.phase := rfl
@[simp] theorem onDram_cause (f : List Host.Cell → List Host.Cell) : (onDram f s).cause = s.cause := rfl
@[simp] theorem onDram_settings (f : List Host.Cell → List Host.Cell) : (onDram f s).settings = s.settings := rfl
@[simp] theorem onDram_path (f : List Host.Cell → List Host.Cell) : (onDram f s).path = s.path := rfl
@[simp] theorem onDram_intake (f : List Host.Cell → List Host.Cell) : (onDram f s).intake = s.intake := rfl
@[simp] theorem onDram_engine (f : List Host.Cell → List Host.Cell) : (onDram f s).engine = s.engine := rfl
@[simp] theorem onDram_lanes (f : List Host.Cell → List Host.Cell) : (onDram f s).lanes = s.lanes := rfl
@[simp] theorem onDram_keys (f : List Host.Cell → List Host.Cell) : (onDram f s).keys = s.keys := rfl
@[simp] theorem onDram_totals (f : List Host.Cell → List Host.Cell) : (onDram f s).totals = s.totals := rfl
@[simp] theorem onDram_report (f : List Host.Cell → List Host.Cell) : (onDram f s).report = s.report := rfl
@[simp] theorem onDram_directives (f : List Host.Cell → List Host.Cell) : (onDram f s).directives = s.directives := rfl
@[simp] theorem onDram_sweepCount (f : List Host.Cell → List Host.Cell) : (onDram f s).sweepCount = s.sweepCount := rfl
@[simp] theorem onDram_port (f : List Host.Cell → List Host.Cell) : (onDram f s).port = s.port := rfl
@[simp] theorem onDram_nv (f : List Host.Cell → List Host.Cell) : (onDram f s).nv = s.nv := rfl
@[simp] theorem onDram_dram (f : List Host.Cell → List Host.Cell) : (onDram f s).dram = f s.dram := rfl
@[simp] theorem onDram_freeCount (f : List Host.Cell → List Host.Cell) : (onDram f s).freeCount = s.freeCount := rfl
@[simp] theorem onDram_pending (f : List Host.Cell → List Host.Cell) : (onDram f s).pending = s.pending := rfl

end Sys2Proof.Laws
end

