-- ==== Sys2Proof/Laws/Footprint.lean ====
section
/-! SUPPORT. The footprint of every operation: which fields of the state it can change. A proof about another field
cites the footprint instead of unfolding the operation. -/

namespace Sys2Proof.Laws

open Sys2Proof.Machine

/-- The fields of the state. -/
inductive Field where
  | phase | cause | settings | path | intake | engine | lanes | keys | totals | report | directives | sweepCount | port | nv | dram | freeCount | pending
  deriving DecidableEq, Repr

/-- From `s` to `t` no field outside `fs` has changed. -/
structure Touches (fs : List Field) (s t : State) : Prop where
  phase : .phase ∉ fs → t.phase = s.phase
  cause : .cause ∉ fs → t.cause = s.cause
  settings : .settings ∉ fs → t.settings = s.settings
  path : .path ∉ fs → t.path = s.path
  intake : .intake ∉ fs → t.intake = s.intake
  engine : .engine ∉ fs → t.engine = s.engine
  lanes : .lanes ∉ fs → t.lanes = s.lanes
  keys : .keys ∉ fs → t.keys = s.keys
  totals : .totals ∉ fs → t.totals = s.totals
  report : .report ∉ fs → t.report = s.report
  directives : .directives ∉ fs → t.directives = s.directives
  sweepCount : .sweepCount ∉ fs → t.sweepCount = s.sweepCount
  port : .port ∉ fs → t.port = s.port
  nv : .nv ∉ fs → t.nv = s.nv
  dram : .dram ∉ fs → t.dram = s.dram
  freeCount : .freeCount ∉ fs → t.freeCount = s.freeCount
  pending : .pending ∉ fs → t.pending = s.pending

namespace Touches

variable {fs gs : List Field} {s t u : State}

theorem refl (fs : List Field) (s : State) : Touches fs s s := by constructor <;> intros <;> rfl

theorem mono (h : Touches fs s t) (sub : ∀ f ∈ fs, f ∈ gs) : Touches gs s t where
  phase := fun n => h.phase fun m => n (sub _ m)
  cause := fun n => h.cause fun m => n (sub _ m)
  settings := fun n => h.settings fun m => n (sub _ m)
  path := fun n => h.path fun m => n (sub _ m)
  intake := fun n => h.intake fun m => n (sub _ m)
  engine := fun n => h.engine fun m => n (sub _ m)
  lanes := fun n => h.lanes fun m => n (sub _ m)
  keys := fun n => h.keys fun m => n (sub _ m)
  totals := fun n => h.totals fun m => n (sub _ m)
  report := fun n => h.report fun m => n (sub _ m)
  directives := fun n => h.directives fun m => n (sub _ m)
  sweepCount := fun n => h.sweepCount fun m => n (sub _ m)
  port := fun n => h.port fun m => n (sub _ m)
  nv := fun n => h.nv fun m => n (sub _ m)
  dram := fun n => h.dram fun m => n (sub _ m)
  freeCount := fun n => h.freeCount fun m => n (sub _ m)
  pending := fun n => h.pending fun m => n (sub _ m)

theorem trans (h : Touches fs s t) (k : Touches fs t u) : Touches fs s u where
  phase := fun n => (k.phase n).trans (h.phase n)
  cause := fun n => (k.cause n).trans (h.cause n)
  settings := fun n => (k.settings n).trans (h.settings n)
  path := fun n => (k.path n).trans (h.path n)
  intake := fun n => (k.intake n).trans (h.intake n)
  engine := fun n => (k.engine n).trans (h.engine n)
  lanes := fun n => (k.lanes n).trans (h.lanes n)
  keys := fun n => (k.keys n).trans (h.keys n)
  totals := fun n => (k.totals n).trans (h.totals n)
  report := fun n => (k.report n).trans (h.report n)
  directives := fun n => (k.directives n).trans (h.directives n)
  sweepCount := fun n => (k.sweepCount n).trans (h.sweepCount n)
  port := fun n => (k.port n).trans (h.port n)
  nv := fun n => (k.nv n).trans (h.nv n)
  dram := fun n => (k.dram n).trans (h.dram n)
  freeCount := fun n => (k.freeCount n).trans (h.freeCount n)
  pending := fun n => (k.pending n).trans (h.pending n)

/-- A step with a smaller footprint follows. -/
theorem andThen (h : Touches fs s t) (k : Touches gs t u) (sub : ∀ f ∈ gs, f ∈ fs) : Touches fs s u :=
  h.trans (k.mono sub)

/-- A choice between two steps of one footprint. -/
theorem ite {c : Prop} [Decidable c] (h : Touches fs s t) (k : Touches fs s u) :
    Touches fs s (if c then t else u) := by split <;> assumption

end Touches

/-! ### The block updates -/

variable (s : State)

theorem onPath_touches (f : PathFront → PathFront) : Touches [.path] s (onPath f s) := by
  constructor <;> simp
theorem onIntake_touches (f : Intake → Intake) : Touches [.intake] s (onIntake f s) := by
  constructor <;> simp
theorem onEngine_touches (f : Engine → Engine) : Touches [.engine] s (onEngine f s) := by
  constructor <;> simp
theorem onLanes_touches (f : LaneTable → LaneTable) : Touches [.lanes] s (onLanes f s) := by
  constructor <;> simp
theorem onKeys_touches (f : KeyUnit → KeyUnit) : Touches [.keys] s (onKeys f s) := by
  constructor <;> simp
theorem onTotals_touches (f : Totals → Totals) : Touches [.totals] s (onTotals f s) := by
  constructor <;> simp
theorem onReport_touches (f : List Channel → List Channel) : Touches [.report] s (onReport f s) := by
  constructor <;> simp
theorem onDirectives_touches (f : DirectiveUnit → DirectiveUnit) : Touches [.directives] s (onDirectives f s) := by
  constructor <;> simp
theorem onPort_touches (f : Port → Port) : Touches [.port] s (onPort f s) := by
  constructor <;> simp
theorem onNv_touches (f : NvStore → NvStore) : Touches [.nv] s (onNv f s) := by
  constructor <;> simp
theorem onDram_touches (f : List Host.Cell → List Host.Cell) : Touches [.dram] s (onDram f s) := by
  constructor <;> simp

theorem onChannel_touches (ch : Nat) (f : Channel → Channel) : Touches [.report] s (onChannel ch f s) :=
  onReport_touches s _
theorem addCount_touches (w : Nat) (id : CountId) (n : Nat) : Touches [.report] s (addCount w id n s) :=
  onChannel_touches s w _
theorem oweStore_touches : Touches [.report] s (oweStore s) := onChannel_touches s 4 _
theorem onWindow_touches (w : Nat) (f : WindowSlots → WindowSlots) : Touches [.intake] s (onWindow w f s) :=
  onIntake_touches s _
theorem setSlot_touches (w slot : Nat) (st : SlotState) : Touches [.intake] s (setSlot w slot st s) :=
  onWindow_touches s w _
theorem onHold_touches (w slot : Nat) (f : Hold → Hold) : Touches [.intake] s (onHold w slot f s) :=
  onIntake_touches s _
theorem onLane_touches (lane : Nat) (f : Lane → Lane) : Touches [.lanes] s (onLane lane f s) := onLanes_touches s _
theorem onWork_touches (f : Work → Work) : Touches [.engine] s (onWork f s) := onEngine_touches s _
theorem requestWrite_touches (r : StoreRequest) : Touches [.nv] s (requestWrite r s) := onNv_touches s _
theorem requestKeyWrite_touches : Touches [.nv] s (requestKeyWrite s) := requestWrite_touches s _

theorem keyChange_touches (f : KeyUnit → KeyUnit) : Touches [.keys, .report] s (keyChange f s) := by
  have h := (onKeys_touches s f).mono (gs := [.keys, .report]) (by decide)
  unfold keyChange
  split
  · exact h.andThen (oweStore_touches _) (by decide)
  · exact h

/-! ### The internal write queue -/

theorem addEntry_touches (e : Entry) : Touches [.path, .engine, .intake] s (addEntry e s) := by
  have h := (onPath_touches s fun p => { p with queue := p.queue ++ [e] }).mono
    (gs := [.path, .engine, .intake]) (by decide)
  unfold addEntry
  dsimp only
  split
  · exact (h.andThen (setSlot_touches _ _ _ _) (by decide)).andThen (onEngine_touches _ _) (by decide)
  · exact h

theorem offerEntry_touches (e : Entry) : Touches [.path, .engine, .intake] s (offerEntry e s) :=
  (addEntry_touches s e).ite ((onPath_touches s _).mono (by decide))

theorem addLongestWaiting_touches (p : EntryKind → Bool) :
    Touches [.path, .engine, .intake] s (addLongestWaiting p s) := by
  unfold addLongestWaiting
  split
  · exact .refl _ _
  · exact (((onPath_touches s _).mono (by decide)).andThen (addEntry_touches _ _) (by decide)).ite (.refl _ _)

theorem issueStep_touches (p : EntryKind → Bool) (act : State → State) {fs : List Field}
    (sub : ∀ f ∈ [Field.path, .engine, .intake], f ∈ fs) (h : Touches fs s (act s)) : Touches fs s (issueStep p act s) :=
  ((addLongestWaiting_touches s p).mono sub).ite h

/-! ### Steps one after another -/

theorem forBelow_touches (n : Nat) (f : Nat → State → State) {fs : List Field}
    (h : ∀ i s, Touches fs s (f i s)) : Touches fs s (forBelow n f s) := by
  unfold forBelow
  generalize List.range n = l
  induction l generalizing s with
  | nil => exact .refl _ _
  | cons i l ih => exact (h i s).trans (ih _)

theorem whenRunning_touches {f : State → State} {fs : List Field} (h : Touches fs s (f s)) :
    Touches fs s (whenRunning f s) := h.ite (.refl _ _)

/-! ### The take -/

theorem startWork_touches (e : QueueEntry) (h : Hold) : Touches [.intake, .engine] s (startWork e h s) :=
  ((setSlot_touches s _ _ _).mono (by decide)).andThen (onEngine_touches _ _) (by decide)

theorem takeNext_touches : Touches [.intake, .engine] s (takeNext s) := by
  unfold takeNext
  split
  · split
    · exact startWork_touches s _ _
    · exact .refl _ _
  · exact .refl _ _

/-! ### The intake unit -/

theorem openHold_touches (w slot : Nat) : Touches [.intake] s (openHold w slot s) :=
  (onIntake_touches s _).trans (setSlot_touches _ _ _ _)

theorem joinQueue_touches (w slot : Nat) (expired : Bool) :
    Touches [.intake, .engine] s (joinQueue w slot expired s) :=
  (((setSlot_touches s _ _ _).trans (onHold_touches _ _ _ _)).trans (onIntake_touches _ _)).mono
    (gs := [.intake, .engine]) (by decide) |>.andThen (onEngine_touches _ _) (by decide)

theorem queueSlot_touches (w slot : Nat) (expired : Bool) :
    Touches [.intake, .engine] s (queueSlot w slot expired s) := (takeNext_touches s).trans (joinQueue_touches _ w slot expired)

theorem completionTest_touches (w slot : Nat) : Touches [.intake, .engine] s (completionTest w slot s) := by
  unfold completionTest
  split
  · exact (queueSlot_touches s w slot false).ite (.refl _ _)
  · exact .refl _ _

theorem ensureHold_touches (w slot : Nat) : Touches [.intake] s (ensureHold w slot s) :=
  (openHold_touches s w slot).ite (.refl _ _)

theorem mergeSlotWrite_touches (sw : SlotWrite) : Touches [.intake, .engine] s (mergeSlotWrite sw s) :=
  ((ensureHold_touches s _ _).trans (onHold_touches _ _ _ _)).mono (gs := [.intake, .engine]) (by decide)
    |>.trans (completionTest_touches _ _ _)

theorem takeSlotWrite_touches (sw : SlotWrite) : Touches [.intake, .engine, .report] s (takeSlotWrite sw s) := by
  unfold takeSlotWrite
  split
  · exact (addCount_touches s _ _ _).mono (by decide)
  · exact (mergeSlotWrite_touches s sw).mono (by decide)

theorem releaseWindow_touches (w : Nat) : Touches [.intake, .report] s (releaseWindow w s) :=
  ((onWindow_touches s _ _).mono (gs := [.intake, .report]) (by decide)).andThen (onChannel_touches _ _ _) (by decide)

theorem slotDone_touches (w slot : Nat) (okay : Bool) : Touches [.intake, .report] s (slotDone w slot okay s) := by
  have h := (setSlot_touches s w slot .done).mono (gs := [.intake, .report]) (by decide)
  exact (h.ite (h.andThen (addCount_touches _ _ _ _) (by decide))).trans (releaseWindow_touches _ _)

theorem freeHold_touches (w slot : Nat) : Touches [.intake] s (freeHold w slot s) := onIntake_touches s _

theorem takeConsumed_touches (w : Nat) (c : BitVec 16) : Touches [.intake, .report] s (takeConsumed w c s) :=
  ((onWindow_touches s _ _).mono (by decide)).ite ((onChannel_touches s _ _).mono (by decide))

theorem expireNext_touches : Touches [.intake, .engine] s (expireNext s) := by
  unfold expireNext
  split
  · exact queueSlot_touches s _ _ _
  · exact .refl _ _

theorem fillGap_touches (w : Nat) : Touches [.path, .engine, .intake, .report] s (fillGap w s) := by
  have h := (((setSlot_touches s w (slotOfIndex (windowSlots s w) (windowSlots s w).release) .writing).trans
    (onWindow_touches _ w fun t => { t with gapAge := 0 })).mono (gs := [.path, .engine, .intake, .report])
      (by decide)).andThen (addCount_touches _ w .expiredSkipped 1) (by decide)
  exact (h.andThen (offerEntry_touches _ _) (by decide)).ite (.refl _ _)

/-! ### The lane table -/

theorem enterEnrolment_touches (lane : Nat) (a : EnrolmentAnswer) :
    Touches [.lanes, .report] s (enterEnrolment lane a s) := by
  have h := (onLanes_touches s fun t => { t with
    entries := updAt t.entries lane fun _ => a.lane
    answerSerial := if a.usedSerial then t.answerSerial + 1 else t.answerSerial }).mono
      (gs := [.lanes, .report]) (by decide)
  exact (h.andThen (oweStore_touches _) (by decide)).ite h

theorem timeoutLane_touches (lane : Nat) : Touches [.lanes, .report] s (timeoutLane lane s) :=
  (((onLane_touches s _ _).mono (by decide)).andThen (oweStore_touches _) (by decide)).ite (.refl _ _)

theorem silentLane_touches (lane : Nat) : Touches [.lanes, .report] s (silentLane lane s) :=
  (((onLane_touches s _ _).mono (by decide)).andThen (oweStore_touches _) (by decide)).ite (.refl _ _)

theorem forgetOn_touches (lane : Nat) : Touches [.lanes, .report] s (forgetOn lane s) := by
  have h := (onLane_touches s lane forgetLane).mono (gs := [.lanes, .report]) (by decide)
  exact h.ite (h.andThen (oweStore_touches _) (by decide))

/-! ### The key unit and the store -/

theorem retryWrite_touches : Touches [.nv] s (retryWrite s) :=
  ((requestWrite_touches s _).ite (requestKeyWrite_touches s)).ite (.refl _ _)

theorem beginNextWrite_touches : Touches [.nv] s (beginNextWrite s) := by
  unfold beginNextWrite
  split
  · exact onNv_touches s _
  · exact .refl _ _

/-! ### The wrap engine -/

/-- What leading a record through the stages can change. -/
abbrev engineFields : List Field := [.intake, .engine, .lanes, .keys, .totals, .report, .nv]

theorem countOutcome_touches (w : Nat) (d : Disposition) : Touches [.report] s (countOutcome w d s) := by
  unfold countOutcome
  split
  · exact addCount_touches s _ _ _
  · exact .refl _ _

theorem reportDecision_touches (h : Hold) (d : Disposition) : Touches [.lanes, .report] s (reportDecision h d s) := by
  have k := (countOutcome_touches s h.window d).mono (gs := [.lanes, .report]) (by decide)
  exact (k.andThen (onLane_touches _ _ _) (by decide)).ite k

theorem passTo_touches (st : Stage) : Touches [.engine] s (passTo st s) := onWork_touches s _

theorem decideRecord_touches (h : Hold) (d : Disposition) (r : Reason) (output : List Byte) :
    Touches [.engine, .lanes, .report] s (decideRecord h d r output s) :=
  ((reportDecision_touches s h d).mono (by decide)).andThen (onWork_touches _ _) (by decide)

theorem decideHeaderOnly_touches (h : Hold) (d : Disposition) (r : Reason) :
    Touches [.engine, .lanes, .report] s (decideHeaderOnly h d r s) := decideRecord_touches s h d r _

theorem admissionStage_touches (h : Hold) (a : Admission) :
    Touches [.engine, .lanes, .report] s (admissionStage h a s) := by
  unfold admissionStage
  split
  · exact decideHeaderOnly_touches s _ _ _
  · exact ((passTo_touches s _).mono (by decide)).ite ((onWork_touches s _).mono (by decide))

theorem enrolmentStage_touches (h : Hold) : Touches [.engine, .lanes, .report] s (enrolmentStage h s) :=
  (((enterEnrolment_touches s _ _).trans (reportDecision_touches _ _ _)).mono (by decide)).andThen
    (onWork_touches _ _) (by decide)

theorem resultStage_touches (h : Hold) (w : Work) : Touches [.engine] s (resultStage h w s) := by
  unfold resultStage
  split
  · exact onWork_touches s _
  · exact .refl _ _

theorem judgeStage_touches (h : Hold) (a : Option Admission) :
    Touches [.engine, .lanes, .report] s (judgeStage h a s) := by
  unfold judgeStage
  refine .ite ((decideHeaderOnly_touches s _ _ _).ite (decideHeaderOnly_touches s _ _ _)) ?_
  split
  · exact decideHeaderOnly_touches s _ _ _
  · refine .ite (decideRecord_touches s _ _ _ _) (.ite (decideHeaderOnly_touches s _ _ _)
      (.ite (enrolmentStage_touches s h) ?_))
    split
    · exact admissionStage_touches s h _
    · exact .refl _ _

theorem laneKeyStage_touches (h : Hold) (a : Admission) :
    Touches [.engine, .lanes, .report] s (laneKeyStage h a s) :=
  ((onWork_touches s _).mono (by decide)).ite (decideHeaderOnly_touches s _ _ _)

theorem unsealStage_touches (h : Hold) (a : Admission) (keys : List Byte × List Byte) :
    Touches [.engine, .lanes, .report] s (unsealStage h a keys s) := by
  unfold unsealStage
  refine .ite (decideHeaderOnly_touches s _ _ _) ?_
  dsimp only
  generalize hk : onWork _ s = t
  have k : Touches [.engine, .lanes, .report] s t := hk ▸ (onWork_touches s _).mono (by decide)
  exact (k.trans (decideHeaderOnly_touches t _ _ _)).ite (k.andThen (passTo_touches t _) (by decide))

theorem bodyStage_touches (h : Hold) (body : List Byte) :
    Touches [.engine, .lanes, .report] s (bodyStage h body s) := by
  unfold bodyStage
  split
  · exact decideHeaderOnly_touches s _ _ _
  · exact (passTo_touches s _).mono (by decide)

theorem handOutToRecord_touches : Touches engineFields s (handOutToRecord s) := by
  have k := (keyChange_touches s handOutKey).mono (gs := engineFields) (by decide)
  exact ((k.andThen (requestKeyWrite_touches _) (by decide)).ite k).andThen (onWork_touches _ _) (by decide)

theorem waitForReservation_touches : Touches [.engine, .keys, .nv] s (waitForReservation s) := by
  have k := ((onKeys_touches s fun k => { k with waiting := true }).mono (gs := [.engine, .keys, .nv])
    (by decide)).andThen (passTo_touches _ .reservation) (by decide)
  exact k.ite (k.andThen (requestWrite_touches _ _) (by decide))

theorem keyStage_touches (h : Hold) : Touches engineFields s (keyStage h s) :=
  ((decideHeaderOnly_touches s _ _ _).mono (by decide)).ite
    ((handOutToRecord_touches s).ite ((waitForReservation_touches s).mono (by decide)))

theorem endWaiting_touches (r : Reason) (h : Hold) :
    Touches [.keys, .engine, .lanes, .report] s (endWaiting r h s) :=
  ((onKeys_touches s _).mono (by decide)).andThen (decideHeaderOnly_touches _ _ _ _) (by decide)

theorem judgeWaiting_touches (completed : Bool) : Touches engineFields s (judgeWaiting completed s) := by
  unfold judgeWaiting
  refine .ite (.refl _ _) ?_
  split
  · exact .refl _ _
  · exact ((endWaiting_touches s _ _).mono (by decide)).ite (((endWaiting_touches s _ _).mono (by decide)).ite
      ((handOutToRecord_touches s).ite ((requestWrite_touches s _).mono (by decide))))

theorem computeStage_touches (h : Hold) (body : List Byte) (c : Capture) :
    Touches [.engine, .lanes] s (computeStage h body c s) :=
  ((onLane_touches s _ _).mono (by decide)).andThen (onWork_touches _ _) (by decide)

theorem totalsStage_touches (h : Hold) (body : List Byte) (c : Capture) :
    Touches [.engine, .totals] s (totalsStage h body c s) :=
  ((onTotals_touches s _).mono (by decide)).andThen (onWork_touches _ _) (by decide)

theorem concludeStage_touches (h : Hold) (body : List Byte) (c : Capture) (p : Products) :
    Touches [.engine, .lanes, .report] s (concludeStage h body c p s) := by
  unfold concludeStage
  split
  · exact ((onWork_touches s _).mono (by decide)).trans (decideRecord_touches _ _ _ _ _)
  · exact .refl _ _

theorem runStage_touches (h : Hold) (w : Work) : Touches engineFields s (runStage h w s) := by
  unfold runStage
  split
  · exact (judgeStage_touches s _ _).mono (by decide)
  · exact (resultStage_touches s _ _).mono (by decide)
  · exact (laneKeyStage_touches s _ _).mono (by decide)
  · exact (unsealStage_touches s _ _ _).mono (by decide)
  · exact (bodyStage_touches s _ _).mono (by decide)
  · exact keyStage_touches s _
  · exact (computeStage_touches s _ _ _).mono (by decide)
  · exact (totalsStage_touches s _ _ _).mono (by decide)
  · exact (concludeStage_touches s _ _ _ _).mono (by decide)
  · exact .refl _ _

theorem stageStep_touches : Touches engineFields s (stageStep s) := by
  unfold stageStep
  split
  · split
    · exact runStage_touches s _ _
    · exact .refl _ _
  · exact .refl _ _

theorem issueWriteBack_touches : Touches [.path, .engine, .intake] s (issueWriteBack s) := by
  unfold issueWriteBack
  refine .ite (.refl _ _) ?_
  split
  · split
    · exact offerEntry_touches s _
    · exact .refl _ _
  · exact .refl _ _

/-! ### The reporting unit -/

theorem reportLanes_touches (ch : Nat) : Touches [.lanes] s (reportLanes ch s) :=
  (onLanes_touches s _).ite (.refl _ _)

/-- What issuing a status block can change. -/
abbrev statusFields : List Field := [.path, .engine, .intake, .lanes, .report]

theorem issueStatus_touches (ch : Nat) : Touches statusFields s (issueStatus ch s) :=
  (((onChannel_touches s _ _).mono (by decide)).andThen (reportLanes_touches _ _) (by decide)).andThen
    (offerEntry_touches _ _) (by decide)

theorem reportChannel_touches (ch : Nat) : Touches statusFields s (reportChannel ch s) :=
  (issueStatus_touches s ch).ite (.refl _ _)

theorem reportDue_touches : Touches statusFields s (reportDue s) :=
  whenRunning_touches s (forBelow_touches s _ _ fun ch s => reportChannel_touches s ch)

theorem coalesceStep_touches (ch : Nat) : Touches statusFields s (coalesceStep ch s) :=
  (issueStatus_touches s ch).ite (.refl _ _)

theorem handConsumed_touches (ch : Nat) (b : Beat) : Touches [.intake, .report] s (handConsumed ch b s) :=
  .ite (.refl _ _) (takeConsumed_touches s _ _)

theorem takeReturn_touches (ch : Nat) (b : Beat) : Touches [.intake, .lanes, .report] s (takeReturn ch b s) := by
  have h := (handConsumed_touches s ch b).mono (gs := [.intake, .lanes, .report]) (by decide)
  exact ((h.andThen (onLanes_touches _ _) (by decide)).ite h).andThen (onChannel_touches _ _ _) (by decide)

theorem returnStep_touches : Touches [.path, .intake, .lanes, .report] s (returnStep s) := by
  unfold returnStep
  split
  · exact .refl _ _
  · have h (rest : List ShownReturn) := (onPath_touches s fun p => { p with shownReturns := rest }).mono
      (gs := [.path, .intake, .lanes, .report]) (by decide)
    exact ((h _).andThen (takeReturn_touches _ _ _) (by decide)).ite (h _)

theorem takeAck_touches {p : EntryKind → Bool} {a : Ack} {t : State} (h : takeAck p s = some (a, t)) :
    Touches [.path] s t := by
  unfold takeAck at h
  cases hf : takeFirst (fun a : Ack => p a.kind) s.path.acks with
  | none => simp [hf] at h
  | some r =>
    simp only [hf, Option.map_some, Option.some.injEq, Prod.mk.injEq] at h
    exact h.2 ▸ onPath_touches s _

theorem statusAckStep_touches : Touches [.path, .report] s (statusAckStep s) := by
  unfold statusAckStep
  split
  · next h => exact ((takeAck_touches s h).mono (by decide)).andThen (onChannel_touches _ _ _) (by decide)
  · exact .refl _ _

theorem writeBackAckStep_touches : Touches [.path, .intake, .report] s (writeBackAckStep s) := by
  unfold writeBackAckStep
  split
  · next h =>
    exact (((takeAck_touches s h).mono (by decide)).andThen (freeHold_touches _ _ _) (by decide)).andThen
      (slotDone_touches _ _ _ _) (by decide)
  · exact .refl _ _

theorem voidAckStep_touches : Touches [.path, .intake, .report] s (voidAckStep s) := by
  unfold voidAckStep
  split
  · next h => exact ((takeAck_touches s h).mono (by decide)).andThen (slotDone_touches _ _ _ _) (by decide)
  · exact .refl _ _

/-! ### The path front -/

theorem takeSlotWrites_touches (l : List SlotWrite) : Touches statusFields s (takeSlotWrites l s).1 := by
  induction l generalizing s with
  | nil => exact .refl _ _
  | cons sw rest ih =>
    exact (((takeSlotWrite_touches s sw).mono (by decide)).andThen (reportDue_touches _) (by decide)).trans (ih _)

theorem acceptWrite_touches (addr : BitVec 40) (beats : List Beat) :
    Touches statusFields s (acceptWrite addr beats s) := by
  unfold acceptWrite
  exact (takeSlotWrites_touches s _).andThen (onPath_touches _ _) (by decide)

theorem acceptOne_touches (o : Offered) : Touches statusFields s (acceptOne o s) := by
  cases o with
  | write addr beats => exact acceptWrite_touches s addr beats
  | read addr length => exact (onPath_touches s fun p => { p with
    stream := p.stream ++ [⟨.passThrough, addr.toNat, .read length⟩]
    accepted := p.accepted ++ [⟨true, 1, false, []⟩] }).mono (by decide)

theorem acceptFrom_touches (l : List Offered) : Touches statusFields s (acceptFrom l s) := by
  induction l generalizing s with
  | nil => exact (onPath_touches s _).mono (by decide)
  | cons o os ih =>
    exact ((acceptOne_touches s o).trans (ih _)).ite ((onPath_touches s _).mono (by decide))

theorem acceptOffered_touches : Touches statusFields s (acceptOffered s) := acceptFrom_touches s _

theorem offerUpstream_touches (o : Offered) : Touches [.path] s (offerUpstream o s) := onPath_touches s _

theorem answerMemory_touches (b : Burst) (okay : Bool) : Touches [.dram, .freeCount] s (answerMemory b okay s) := by
  unfold answerMemory
  split
  · exact .refl _ _
  · split <;> constructor <;> simp

theorem abandonedMemory_touches (b : Burst) (okay : Bool) :
    Touches [.dram, .freeCount] s (abandonedMemory b okay s) := .ite (.refl _ _) (answerMemory_touches s b okay)

theorem answerStep_touches (okay : Bool) (data : List Byte) :
    Touches (.dram :: .freeCount :: statusFields) s (answerStep okay data s) := by
  unfold answerStep
  split
  · exact ((onPath_touches s _).mono (by decide)).andThen (abandonedMemory_touches _ _ _) (by decide)
  · split
    · exact (((onPath_touches s _).mono (by decide)).andThen (answerMemory_touches _ _ _) (by decide)).andThen
        (acceptOffered_touches _) (by decide)
    · exact .refl _ _

/-! ### The totals unit and the directive unit -/

theorem rollStep_touches (roll : Bool) : Touches [.keys, .report, .nv] s (rollStep roll s) :=
  (((keyChange_touches s _).mono (by decide)).andThen (requestKeyWrite_touches _) (by decide)).ite (.refl _ _)

theorem startClose_touches (roll : Bool) : Touches [.keys, .report, .nv, .totals] s (startClose roll s) :=
  (((rollStep_touches s roll).mono (by decide)).andThen (onTotals_touches _ _) (by decide)).andThen
    (requestWrite_touches _ _) (by decide)

theorem numberWritten_touches (completed : Bool) : Touches [.totals] s (numberWritten completed s) :=
  onTotals_touches s _

theorem summaryStep_touches : Touches [.path, .engine, .intake, .totals] s (summaryStep s) := by
  unfold summaryStep
  split
  · exact ((onTotals_touches s _).mono (by decide)).andThen (offerEntry_touches _ _) (by decide)
  · exact .refl _ _

theorem storeFaultUnless_touches (okay : Bool) : Touches [.report] s (storeFaultUnless okay s) :=
  .ite (.refl _ _) (onChannel_touches s _ _)

theorem giveResult_touches (r : DirectiveResult) : Touches [.directives] s (giveResult r s) := onDirectives_touches s _

theorem summaryAckStep_touches : Touches [.path, .totals, .report, .directives] s (summaryAckStep s) := by
  unfold summaryAckStep
  split
  · next h =>
    have k := (takeAck_touches s h).mono (gs := [.path, .totals, .report, .directives]) (by decide)
    split
    · exact (((k.andThen (onTotals_touches _ _) (by decide)).andThen (onChannel_touches _ _ _) (by decide)).andThen
        (storeFaultUnless_touches _ _) (by decide)).andThen (giveResult_touches _ _) (by decide)
    · exact k
  · exact .refl _ _

theorem captureStep_touches : Touches [.path, .directives] s (captureStep s) := by
  unfold captureStep
  split
  · exact .ite (.refl _ _) (((onPath_touches s _).mono (by decide)).andThen (onDirectives_touches _ _) (by decide))
  · exact .refl _ _

theorem indexStep_touches : Touches [.path, .directives] s (indexStep s) := by
  unfold indexStep
  split
  · have k (rest : List ShownBeat) := (onPath_touches s fun p => { p with shownDirectives := rest }).mono
      (gs := [.path, .directives]) (by decide)
    exact .ite (.ite ((k _).andThen (onDirectives_touches _ _) (by decide)) (k _)) (.refl _ _)
  · exact .refl _ _

theorem takeDirective_touches (r : Option DirectiveResult) : Touches [.directives] s (takeDirective r s) :=
  onDirectives_touches s _

/-- What a directive can change. -/
abbrev directiveFields : List Field := [.directives, .lanes, .keys, .report, .nv, .totals]

theorem laneDirective_touches (lane : Nat) (f : State → State) (hf : ∀ s, Touches [.lanes, .report] s (f s)) :
    Touches [.directives, .lanes, .report] s (laneDirective lane f s) :=
  ((takeDirective_touches s _).mono (by decide)).ite
    (((takeDirective_touches s _).mono (by decide)).andThen (hf _) (by decide))

theorem runDirective_touches (code : DirectiveCode) : Touches directiveFields s (runDirective code s) := by
  have k (r : Option DirectiveResult) := (takeDirective_touches s r).mono (gs := directiveFields) (by decide)
  have l (f : Lane → Lane) (lane : Nat) (s : State) : Touches [.lanes, .report] s (onLane lane f s) :=
    (onLane_touches s lane f).mono (by decide)
  cases code with
  | incomplete => exact k _
  | unknown => exact k _
  | statusNow => exact (k _).andThen (onReport_touches _ _) (by decide)
  | laneSuspend => exact (laneDirective_touches s _ _ (l _ _)).mono (by decide)
  | laneResume => exact (laneDirective_touches s _ _ (l _ _)).mono (by decide)
  | laneForget => exact (laneDirective_touches s _ _ fun s => forgetOn_touches s _).mono (by decide)
  | batchClose => exact (k _).andThen (startClose_touches _ _) (by decide)

theorem directiveStep_touches (code : DirectiveCode) : Touches directiveFields s (directiveStep code s) :=
  (runDirective_touches s code).ite (.refl _ _)

theorem resultStep_touches : Touches [.path, .engine, .intake, .directives] s (resultStep s) := by
  unfold resultStep
  split
  · exact ((onDirectives_touches s _).mono (by decide)).andThen (offerEntry_touches _ _) (by decide)
  · exact .refl _ _

theorem resultAckStep_touches : Touches [.path, .report, .directives] s (resultAckStep s) := by
  unfold resultAckStep
  split
  · next h =>
    exact ((((takeAck_touches s h).mono (by decide)).andThen (onDirectives_touches _ _) (by decide)).andThen
      (onChannel_touches _ _ _) (by decide)).andThen (storeFaultUnless_touches _ _) (by decide)
  · exact .refl _ _

/-! ### The port and the ends of store writes -/

theorem answerFrame_touches (n : Nat) (a : List Byte) : Touches [.port] s (answerFrame n a s) := onPort_touches s _

theorem judgedFrame_touches (wanted : Nat) (length : Byte) (clocked : List Byte) (act : State → State)
    {fs : List Field} (sub : Field.port ∈ fs) (h : Touches fs s (act s)) :
    Touches fs s (judgedFrame wanted length clocked act s) := by
  unfold judgedFrame
  split
  · exact (answerFrame_touches s _ _).mono (by simpa using sub)
  · exact h

theorem holdOutstanding_touches : Touches [.port] s (holdOutstanding s) := onPort_touches s _

theorem acceptLoad_touches (p : LoadPayload) : Touches [.port, .keys, .report, .nv] s (acceptLoad p s) :=
  (((keyChange_touches s _).mono (by decide)).andThen (requestWrite_touches _ _) (by decide)).andThen
    (holdOutstanding_touches _) (by decide)

theorem loadKeyFrame_touches (clocked : List Byte) :
    Touches [.port, .keys, .report, .nv] s (loadKeyFrame clocked s) := by
  have k (a : List Byte) := (answerFrame_touches s (frameBytes clocked) a).mono (gs := [.port, .keys, .report, .nv])
    (by decide)
  exact ((k _).trans (acceptLoad_touches _ _)).ite (k _)

theorem loadImageFrame_touches (length : Byte) (clocked : List Byte) :
    Touches [.port, .nv] s (loadImageFrame length clocked s) := by
  have k (a : List Byte) := (answerFrame_touches s (frameBytes clocked) a).mono (gs := [.port, .nv]) (by decide)
  exact (((k _).andThen (requestWrite_touches _ _) (by decide)).andThen (holdOutstanding_touches _) (by decide)).ite
    (k _)

theorem lockFrame_touches (clocked : List Byte) : Touches [.port, .nv] s (lockFrame clocked s) := by
  have k (a : List Byte) := (answerFrame_touches s (frameBytes clocked) a).mono (gs := [.port, .nv]) (by decide)
  exact .ite (k _) (((k _).andThen (requestWrite_touches _ _) (by decide)).andThen (holdOutstanding_touches _)
    (by decide))

theorem eraseStep_touches : Touches [.keys, .report, .nv, .engine, .lanes] s (eraseStep s) := by
  have k := (((onNv_touches s voidReservations).mono (gs := [.keys, .report, .nv, .engine, .lanes]) (by decide)).andThen
    (onKeys_touches _ eraseKeys) (by decide)).andThen (oweStore_touches _) (by decide)
  unfold eraseStep
  dsimp only
  split
  · exact k.andThen (endWaiting_touches _ _ _) (by decide)
  · exact k

theorem eraseFrame_touches (clocked : List Byte) :
    Touches [.port, .keys, .report, .nv, .engine, .lanes] s (eraseFrame clocked s) :=
  ((((answerFrame_touches s _ _).mono (by decide)).andThen (eraseStep_touches _) (by decide)).andThen
    (requestWrite_touches _ _) (by decide)).andThen (holdOutstanding_touches _) (by decide)

/-- What a frame can change. -/
abbrev frameFields : List Field := [.port, .keys, .report, .nv, .engine, .lanes]

theorem actOnCommand_touches (command length : Byte) (clocked : List Byte) :
    Touches frameFields s (actOnCommand command length clocked s) := by
  unfold actOnCommand
  refine .ite ((answerFrame_touches s _ _).mono (by decide)) ?_
  split
  · exact judgedFrame_touches s _ _ _ _ (by decide) ((answerFrame_touches s _ _).mono (by decide))
  · exact judgedFrame_touches s _ _ _ _ (by decide) ((loadKeyFrame_touches s _).mono (by decide))
  · exact (loadImageFrame_touches s _ _).mono (by decide)
  · exact judgedFrame_touches s _ _ _ _ (by decide) ((lockFrame_touches s _).mono (by decide))
  · exact judgedFrame_touches s _ _ _ _ (by decide) ((eraseFrame_touches s _).mono (by decide))
  · exact (answerFrame_touches s _ _).mono (by decide)

theorem takeFrame_touches (bytes : List Byte) : Touches frameFields s (takeFrame bytes s) := by
  refine .ite (.refl _ _) (.ite ?_ ((onPort_touches s _).mono (by decide)))
  unfold actOnFrame
  split
  · exact actOnCommand_touches s _ _ _
  · exact (answerFrame_touches s _ _).mono (by decide)

theorem portOutcome_touches (completed : Bool) : Touches [.port] s (portOutcome completed s) := onPort_touches s _

/-- What the end of a store write can change. -/
abbrev storeEndFields : List Field := [.port, .intake, .engine, .lanes, .keys, .totals, .report, .nv]

theorem keyWriteEnded_touches (r : Option Reservation) (forPort completed : Bool) :
    Touches storeEndFields s (keyWriteEnded r forPort completed s) := by
  have k := (keyChange_touches s (endKeyWrite completed r)).mono (gs := storeEndFields) (by decide)
  have l := (k.andThen (portOutcome_touches _ completed) (by decide)).ite (c := forPort) k
  exact (l.andThen (judgeWaiting_touches _ _) (by decide)).ite l

theorem requesterActs_touches (w : StoreWrite) (completed : Bool) :
    Touches storeEndFields s (requesterActs w completed s) := by
  cases w with
  | keyStore _ r forPort => exact keyWriteEnded_touches s r forPort completed
  | batchNumber _ => exact (numberWritten_touches s completed).mono (by decide)
  | imageGroup _ _ => exact (portOutcome_touches s completed).mono (by decide)
  | imageLock => exact (portOutcome_touches s completed).mono (by decide)
  | erase => exact keyWriteEnded_touches s none true completed

theorem endStoreWrite_touches (completed : Bool) : Touches storeEndFields s (endStoreWrite completed s) := by
  unfold endStoreWrite
  split
  · exact ((onNv_touches s _).mono (by decide)).trans (requesterActs_touches _ _ _)
  · exact .refl _ _

/-! ### The sweep and the at-once steps -/

theorem sweepStep_touches : Touches [.sweepCount, .intake, .lanes, .report, .nv] s (sweepStep s) := by
  have h : Touches [.sweepCount] s { s with sweepCount := s.sweepCount + 1 } := by constructor <;> simp
  exact ((((h.mono (by decide)).andThen (onIntake_touches _ _) (by decide)).andThen (onLanes_touches _ _)
    (by decide)).andThen (onReport_touches _ _) (by decide)).andThen (retryWrite_touches _) (by decide)

theorem expireAll_touches : Touches [.intake, .engine] s (expireAll s) :=
  forBelow_touches _ _ _ fun _ s => expireNext_touches s

theorem finishSweep_touches : Touches statusFields s (finishSweep s) :=
  ((((expireAll_touches s).mono (by decide)).andThen
    (forBelow_touches _ _ _ fun w s => fillGap_touches s w) (by decide)).andThen
    (forBelow_touches _ _ _ fun l s => timeoutLane_touches s l) (by decide)).andThen
    (forBelow_touches _ _ _ fun l s => silentLane_touches s l) (by decide)

theorem reportOnceSwept_touches : Touches statusFields s (reportOnceSwept s) :=
  .ite (.refl _ _) (reportDue_touches s)

theorem addWaiting_touches : Touches [.path, .engine, .intake] s (addWaiting s) :=
  forBelow_touches _ _ _ fun _ s => addLongestWaiting_touches s _

theorem settleSweep_touches : Touches statusFields s (settleSweep s) :=
  ((addWaiting_touches s).mono (by decide)).trans (finishSweep_touches _)

theorem settleReports_touches : Touches statusFields s (settleReports s) :=
  (settleSweep_touches s).trans (reportDue_touches _)

theorem settleTake_touches : Touches statusFields s (settleTake s) :=
  (settleReports_touches s).andThen (takeNext_touches _) (by decide)

/-- What the at-once steps can change. -/
abbrev settleFields : List Field :=
  [.path, .intake, .engine, .lanes, .keys, .totals, .report, .directives, .nv]

theorem takeDueDirective_touches : Touches directiveFields s (takeDueDirective s) :=
  (runDirective_touches s _).ite (.refl _ _)

theorem settleDirective_touches : Touches settleFields s (settleDirective s) :=
  (((settleTake_touches s).mono (by decide)).andThen (takeDueDirective_touches _) (by decide)).andThen
    (reportDue_touches _) (by decide)

theorem settleStore_touches : Touches settleFields s (settleStore s) :=
  (settleDirective_touches s).andThen (beginNextWrite_touches _) (by decide)

theorem settleSummary_touches : Touches settleFields s (settleSummary s) :=
  (settleStore_touches s).andThen (summaryStep_touches _) (by decide)

theorem settle_touches : Touches settleFields s (settle s) :=
  whenRunning_touches s ((settleSummary_touches s).andThen (resultStep_touches _) (by decide))

/-- An event changes what its step changes, and what the at-once steps change. -/
theorem event_touches (f : State → State) {fs : List Field} (sub : ∀ g ∈ settleFields, g ∈ fs)
    (h : ∀ s, Touches fs s (f s)) : Touches fs s (event f s) :=
  (((settle_touches s).mono sub).trans (h _)).andThen (reportDue_touches _) fun g m =>
    sub g ((by decide : ∀ g ∈ statusFields, g ∈ settleFields) g m)

end Sys2Proof.Laws
end

