-- ==== Sys2Proof/Laws/Commands.lean ====
section
/-! SUPPORT. The footprint of every command: which fields of the state it can change. -/

namespace Sys2Proof.Laws

open Sys2Proof.Machine

/-- The fields that a command can change. -/
def commandFields : Instr → List Field
  | .powerOn | .resetLine =>
    [.phase, .cause, .settings, .path, .intake, .engine, .lanes, .keys, .totals, .report, .directives, .sweepCount,
     .port, .nv, .freeCount]
  | .resetRelease => [.phase]
  | .startUpEnd => [.phase, .settings, .path, .intake, .engine, .lanes, .keys, .totals, .report, .port, .nv]
  | .downstreamAnswer _ _ => .dram :: .freeCount :: settleFields
  | .sweep => .sweepCount :: settleFields
  | .holdExpiry | .gapFill _ | .confirmTimeout _ | .laneSilent _ | .coalesceTime _ | .statusWriteIssue _ => statusFields
  | .voidRecordIssue => [.path, .engine, .intake]
  | .emptyFrame => []
  | .query _ _ | .loadKey _ _ | .loadImage _ _ | .lockImage _ _ | .erase _ _ | .badCommand _ _ _ | .badFrame _
  | .storeWriteEnd _ => .port :: settleFields
  | .batchClose | .statusNow | .unknownCode | .incomplete | .laneSuspend | .laneResume | .laneForget
  | .upstreamWrite _ _ | .upstreamRead _ _ | .downstreamGrant | .returnWord | .directiveIndexWord
  | .directiveSlotWrite | .writeBackAck | .voidRecordAck | .statusWriteAck | .summaryAck | .directiveResultAck
  | .engineTake | .writeBackIssue | .summaryIssue | .directiveResultIssue | .storeWriteBegin => settleFields

variable (s : State)

theorem resetPart_touches (ph : Phase) (cause : ResetCause) :
    Touches (commandFields .powerOn) s (resetPart ph cause s) := by
  constructor <;> intro h <;> first | rfl | exact absurd (by decide) h

theorem startBlocks_touches :
    Touches (commandFields .startUpEnd) s (startBlocks s) := by
  constructor <;> intro h <;> first | rfl | exact absurd (by decide) h

theorem endStartUp_touches : Touches (commandFields .startUpEnd) s (endStartUp s) :=
  ((((startBlocks_touches s).andThen (requestKeyWrite_touches _) (by decide)).ite (startBlocks_touches s)).andThen
    (reportDue_touches _) (by decide)).andThen (acceptOffered_touches _) (by decide)

/-- Every command completes, and changes no field outside its footprint. -/
theorem exec_touches (c : Instr) : ∃ t, exec c s = .next t ∧ Touches (commandFields c) s t := by
  have ev (f : State → State) (h : ∀ s, Touches settleFields s (f s)) : Touches settleFields s (event f s) :=
    event_touches s f (by decide) h
  have reset (ph : Phase) (cause : ResetCause) :
      Touches (commandFields .powerOn) s (resetPart ph cause (settle s)) :=
    ((settle_touches s).mono (by decide)).trans (resetPart_touches _ ph cause)
  have dir (code : DirectiveCode) : Touches settleFields s (directiveCommand code s) :=
    (((whenRunning_touches s (settleTake_touches s)).mono (by decide)).andThen (directiveStep_touches _ code)
      (by decide)).andThen (reportDue_touches _) (by decide)
  have frame (bytes : List Byte) : Touches (.port :: settleFields) s (event (takeFrame bytes) s) :=
    event_touches s _ (by decide) fun s => (takeFrame_touches s bytes).mono (by decide)
  have swept (f : State → State) (h : Touches statusFields s (f s)) : Touches statusFields s (reportOnceSwept (f s)) :=
    h.trans (reportOnceSwept_touches _)
  have before (ch : Nat) : Touches statusFields s (forBelow ch reportChannel (whenRunning settleSweep s)) :=
    (whenRunning_touches s (settleSweep_touches s)).trans (forBelow_touches _ _ _ fun ch s => reportChannel_touches s ch)
  cases c with
  | powerOn => exact ⟨_, rfl, reset _ _⟩
  | resetLine => exact ⟨_, rfl, reset _ _⟩
  | resetRelease =>
    refine ⟨_, rfl, .ite ?_ (.refl _ _)⟩
    constructor <;> intro h <;> first | rfl | exact absurd (by decide) h
  | startUpEnd => exact ⟨_, rfl, (endStartUp_touches s).ite (.refl _ _)⟩
  | upstreamWrite addr beats =>
    exact ⟨_, rfl, ev _ fun s => ((offerUpstream_touches s _).mono (by decide)).andThen (acceptOffered_touches _)
      (by decide)⟩
  | upstreamRead addr length =>
    exact ⟨_, rfl, ev _ fun s => ((offerUpstream_touches s _).mono (by decide)).andThen (acceptOffered_touches _)
      (by decide)⟩
  | downstreamGrant => exact ⟨_, rfl, ev _ fun s => (onPath_touches s _).mono (by decide)⟩
  | downstreamAnswer okay data =>
    exact ⟨_, rfl, event_touches s (fs := .dram :: .freeCount :: settleFields) _ (by decide) fun s =>
      (answerStep_touches s okay data).mono (by decide)⟩
  | returnWord => exact ⟨_, rfl, ev _ fun s => (returnStep_touches s).mono (by decide)⟩
  | directiveIndexWord => exact ⟨_, rfl, ev _ fun s => (indexStep_touches s).mono (by decide)⟩
  | directiveSlotWrite => exact ⟨_, rfl, ev _ fun s => (captureStep_touches s).mono (by decide)⟩
  | writeBackAck => exact ⟨_, rfl, ev _ fun s => (writeBackAckStep_touches s).mono (by decide)⟩
  | voidRecordAck => exact ⟨_, rfl, ev _ fun s => (voidAckStep_touches s).mono (by decide)⟩
  | statusWriteAck => exact ⟨_, rfl, ev _ fun s => (statusAckStep_touches s).mono (by decide)⟩
  | summaryAck => exact ⟨_, rfl, ev _ fun s => (summaryAckStep_touches s).mono (by decide)⟩
  | directiveResultAck => exact ⟨_, rfl, ev _ fun s => (resultAckStep_touches s).mono (by decide)⟩
  | batchClose => exact ⟨_, rfl, dir _⟩
  | laneSuspend => exact ⟨_, rfl, dir _⟩
  | laneResume => exact ⟨_, rfl, dir _⟩
  | laneForget => exact ⟨_, rfl, dir _⟩
  | statusNow => exact ⟨_, rfl, dir _⟩
  | unknownCode => exact ⟨_, rfl, dir _⟩
  | incomplete => exact ⟨_, rfl, dir _⟩
  | sweep =>
    exact ⟨_, rfl, ((settle_touches s).mono (by decide)).andThen (whenRunning_touches _ (sweepStep_touches _))
      (by decide)⟩
  | holdExpiry => exact ⟨_, rfl, swept _ ((expireNext_touches s).mono (by decide))⟩
  | gapFill x =>
    exact ⟨_, rfl, swept _ ((forBelow_touches s _ _ fun w s => fillGap_touches s w).mono (by decide))⟩
  | confirmTimeout lane => exact ⟨_, rfl, swept _ ((timeoutLane_touches s lane).mono (by decide))⟩
  | laneSilent lane => exact ⟨_, rfl, swept _ ((silentLane_touches s lane).mono (by decide))⟩
  | coalesceTime ch => exact ⟨_, rfl, (before ch).trans (coalesceStep_touches _ ch)⟩
  | engineTake =>
    exact ⟨_, rfl, .ite (((whenRunning_touches s (settleReports_touches s)).mono (by decide)).andThen
      (takeNext_touches _) (by decide)) (ev _ fun s => (stageStep_touches s).mono (by decide))⟩
  | writeBackIssue =>
    exact ⟨_, rfl, issueStep_touches s _ _ (by decide) (ev _ fun s => (issueWriteBack_touches s).mono (by decide))⟩
  | voidRecordIssue => exact ⟨_, rfl, addLongestWaiting_touches s _⟩
  | statusWriteIssue ch =>
    exact ⟨_, rfl, issueStep_touches s _ _ (fs := statusFields) (by decide)
      ((before ch).trans (reportChannel_touches _ ch))⟩
  | summaryIssue =>
    exact ⟨_, rfl, issueStep_touches s _ _ (by decide) (whenRunning_touches s
      ((settleSummary_touches s).mono (by decide)))⟩
  | directiveResultIssue => exact ⟨_, rfl, issueStep_touches s _ _ (by decide) (settle_touches s)⟩
  | storeWriteBegin => exact ⟨_, rfl, whenRunning_touches s (settleStore_touches s)⟩
  | storeWriteEnd completed =>
    exact ⟨_, rfl, event_touches s (fs := .port :: settleFields) _ (by decide) fun s =>
      (endStoreWrite_touches s completed).mono (by decide)⟩
  | query length clocked => exact ⟨_, rfl, frame _⟩
  | loadKey length clocked => exact ⟨_, rfl, frame _⟩
  | loadImage length clocked => exact ⟨_, rfl, frame _⟩
  | lockImage length clocked => exact ⟨_, rfl, frame _⟩
  | erase length clocked => exact ⟨_, rfl, frame _⟩
  | emptyFrame => exact ⟨_, rfl, .refl _ _⟩
  | badCommand command length clocked => exact ⟨_, rfl, frame _⟩
  | badFrame clocked => exact ⟨_, rfl, frame _⟩

end Sys2Proof.Laws
end

