-- ==== Sys2Proof/Laws/Memory.lean ====
section
/-! SUPPORT. The memory operations: each keeps the canonical form, and each changes the bytes it puts and no other. -/

namespace Sys2Proof.Laws

open Sys2Proof Sys2Proof.Machine

/-- The canonical form as a chain. -/
theorem memory_wf_iff_pairwise : ∀ m : List Host.Cell, Memory.wf m = true ↔ m.Pairwise fun a b => a.1 < b.1
  | [] => by simp [Memory.wf]
  | [a] => by simp [Memory.wf]
  | a :: b :: rest => by
    have ih := memory_wf_iff_pairwise (b :: rest)
    simp only [Memory.wf, Bool.and_eq_true, decide_eq_true_eq, ih, List.pairwise_cons, List.mem_cons]
    constructor
    · rintro ⟨hab, hb, hrest⟩
      refine ⟨?_, hb, hrest⟩
      rintro x (rfl | hx)
      · exact hab
      · exact hab.trans (hb x hx)
    · rintro ⟨ha, hb, hrest⟩
      exact ⟨ha b (.inl rfl), hb, hrest⟩

/-- What `memPut` puts in a list it was in already, or was put there. -/
theorem mem_memPut {c x : Host.Cell} : ∀ {m : List Host.Cell}, x ∈ memPut c m → x = c ∨ x ∈ m
  | [], h => by simpa [memPut] using h
  | d :: ds, h => by
    unfold memPut at h
    split at h
    · simpa using h
    split at h
    · rcases List.mem_cons.mp h with rfl | h
      · exact .inl rfl
      · exact .inr (List.mem_cons_of_mem _ h)
    · rcases List.mem_cons.mp h with rfl | h
      · exact .inr (List.mem_cons_self ..)
      · exact (mem_memPut h).imp_right (List.mem_cons_of_mem _)

/-- One byte put keeps the canonical form. -/
theorem memPut_wf (c : Host.Cell) : ∀ m : List Host.Cell, Memory.wf m = true → Memory.wf (memPut c m) = true
  | [], _ => by simp [memPut, Memory.wf]
  | d :: ds, h => by
    rw [memory_wf_iff_pairwise, List.pairwise_cons] at h
    rw [memory_wf_iff_pairwise]
    unfold memPut
    split
    · rename_i hlt
      refine List.pairwise_cons.mpr ⟨?_, List.pairwise_cons.mpr h⟩
      intro x hx
      rcases List.mem_cons.mp hx with rfl | hx
      · exact hlt
      · exact hlt.trans (h.1 x hx)
    split
    · rename_i heq
      exact List.pairwise_cons.mpr ⟨fun x hx => heq ▸ h.1 x hx, h.2⟩
    · rename_i hlt hne
      have ih := memPut_wf c ds ((memory_wf_iff_pairwise ds).mpr h.2)
      refine List.pairwise_cons.mpr ⟨fun x hx => ?_, (memory_wf_iff_pairwise _).mp ih⟩
      rcases mem_memPut hx with rfl | hx
      · omega
      · exact h.1 x hx

/-- Bytes put in turn keep the canonical form. -/
theorem memPutAll_wf (cs m : List Host.Cell) (h : Memory.wf m = true) : Memory.wf (memPutAll cs m) = true := by
  induction cs generalizing m with
  | nil => exact h
  | cons c cs ih => exact ih _ (memPut_wf c m h)

/-- The answer to a burst keeps the canonical form (R8, R12, R14). -/
theorem answerMemory_wf (b : Burst) (okay : Bool) (s : State) (h : Memory.wf s.dram = true) :
    Memory.wf (answerMemory b okay s).dram = true := by
  unfold answerMemory
  split
  · exact h
  · split
    · exact memPutAll_wf _ _ h
    · exact memPutAll_wf _ _ h

/-- The reset state's memory is canonical: nothing has been written. -/
theorem reset_memory_wf : Memory.wf State.reset.dram = true := rfl

/-- Below every listed address nothing is known. -/
theorem memGet_below (a : Nat) : ∀ m : List Host.Cell, (∀ x ∈ m, a < x.1) → memGet a m = none
  | [], _ => rfl
  | d :: ds, h => by
    have hd := h d (List.mem_cons_self ..)
    rw [memGet, if_neg (by omega)]
    exact memGet_below a ds fun x hx => h x (List.mem_cons_of_mem _ hx)

/-- The read laws: a put byte is read at its address, and every other address reads as before. -/
theorem memGet_memPut (a : Nat) (c : Host.Cell) :
    ∀ m : List Host.Cell, memGet a (memPut c m) = if c.1 = a then some c.2 else memGet a m
  | [] => by simp [memPut, memGet]
  | d :: ds => by
    unfold memPut
    split
    · simp [memGet]
    split
    · rename_i heq
      by_cases h : c.1 = a
      · simp [memGet, h]
      · simp [memGet, h, show ¬d.1 = a by omega]
    · rename_i hlt hne
      rw [memGet, memGet_memPut a c ds, memGet]
      by_cases h : d.1 = a
      · rw [if_pos h, if_pos h, if_neg (by omega)]
      · rw [if_neg h, if_neg h]

/-- An address that no put byte has reads as before. -/
theorem memGet_memPutAll_other (a : Nat) (cs m : List Host.Cell) (h : ∀ c ∈ cs, c.1 ≠ a) :
    memGet a (memPutAll cs m) = memGet a m := by
  induction cs generalizing m with
  | nil => rfl
  | cons c cs ih =>
    rw [memPutAll, List.foldl_cons, ← memPutAll, ih _ fun x hx => h x (List.mem_cons_of_mem _ hx), memGet_memPut,
      if_neg (h c (List.mem_cons_self ..))]

end Sys2Proof.Laws
end

