-- ==== Sys2Proof/WellFormed.lean ====
section
/-! DEFINITION. Which commands the world can send: burst lengths, and frames that are what their row says. -/

namespace Sys2Proof

/-- A burst has 1 to 16 beats (00, Main characteristics; 01, section 1.1). -/
def burstLengthOk (n : Nat) : Bool := decide (1 ≤ n) && decide (n ≤ 16)

/-- R185, first test: the frame holds the payload that its length byte states. -/
def frameComplete (length : Byte) (clocked : List Byte) : Bool := decide (length.toNat ≤ clocked.length)

/-- R185's table: the command bytes 0x01 to 0x05. -/
def commandListed (command : Byte) : Bool := decide (1 ≤ command.toNat) && decide (command.toNat ≤ 5)

/-- R185: a frame of at least one byte that has fewer than two bytes, or fewer than two plus its length byte. -/
def frameCutShort : List Byte → Bool
  | [] => false
  | [_] => true
  | _ :: length :: rest => decide (rest.length < length.toNat)

/-- The data of an answer: at most one burst of whole beats (R7). -/
def answerDataOk (data : List Byte) : Bool := decide (data.length ≤ 128) && decide (data.length % 8 = 0)

/-- A command the world can send. -/
def Instr.wellFormed : Instr → Bool
  | .upstreamWrite _ beats => burstLengthOk beats.length
  | .upstreamRead _ length => burstLengthOk length
  | .downstreamAnswer _ data => answerDataOk data
  | .query length clocked => frameComplete length clocked
  | .loadKey length clocked => frameComplete length clocked
  | .loadImage length clocked => frameComplete length clocked
  | .lockImage length clocked => frameComplete length clocked
  | .erase length clocked => frameComplete length clocked
  | .badCommand command length clocked => !commandListed command && frameComplete length clocked
  | .badFrame clocked => frameCutShort clocked
  | .powerOn | .resetLine | .resetRelease | .startUpEnd | .downstreamGrant | .returnWord | .directiveIndexWord
  | .directiveSlotWrite | .writeBackAck | .voidRecordAck | .statusWriteAck | .summaryAck | .directiveResultAck
  | .batchClose | .laneSuspend | .laneResume | .laneForget | .statusNow | .unknownCode | .incomplete | .sweep
  | .holdExpiry | .gapFill _ | .confirmTimeout _ | .laneSilent _ | .coalesceTime _ | .engineTake | .writeBackIssue
  | .voidRecordIssue | .statusWriteIssue _ | .summaryIssue | .directiveResultIssue | .storeWriteBegin
  | .storeWriteEnd _ | .emptyFrame => true

end Sys2Proof
end

