-- ==== Sys2Proof/Laws/PerInstr.lean ====
section
/-! SUPPORT. One lemma for each command, about the command as syntax: what a well-formed one carries. -/

namespace Sys2Proof.Laws.Shape

open Sys2Proof

/-- What the world can send of a command, in numbers: 1 to 16 beats in a burst (01, section 1.1), whole beats of one burst
in an answer, a frame that holds the payload its length byte states, and a cut frame that does not (R185). -/
def Carries : Instr → Prop
  | .upstreamWrite _ beats => 1 ≤ beats.length ∧ beats.length ≤ 16
  | .upstreamRead _ length => 1 ≤ length ∧ length ≤ 16
  | .downstreamAnswer _ data => ∃ beats ≤ 16, data.length = 8 * beats
  | .query length clocked => length.toNat ≤ clocked.length
  | .loadKey length clocked => length.toNat ≤ clocked.length
  | .loadImage length clocked => length.toNat ≤ clocked.length
  | .lockImage length clocked => length.toNat ≤ clocked.length
  | .erase length clocked => length.toNat ≤ clocked.length
  | .badCommand command length clocked =>
    (command.toNat = 0 ∨ 5 < command.toNat) ∧ length.toNat ≤ clocked.length
  | .badFrame clocked =>
    clocked.length = 1 ∨ ∃ command length rest, clocked = command :: length :: rest ∧ rest.length < length.toNat
  | .powerOn | .resetLine | .resetRelease | .startUpEnd | .downstreamGrant | .returnWord | .directiveIndexWord
  | .directiveSlotWrite | .writeBackAck | .voidRecordAck | .statusWriteAck | .summaryAck | .directiveResultAck
  | .batchClose | .laneSuspend | .laneResume | .laneForget | .statusNow | .unknownCode | .incomplete | .sweep
  | .holdExpiry | .gapFill _ | .confirmTimeout _ | .laneSilent _ | .coalesceTime _ | .engineTake
  | .writeBackIssue | .voidRecordIssue | .statusWriteIssue _ | .summaryIssue | .directiveResultIssue
  | .storeWriteBegin | .storeWriteEnd _ | .emptyFrame => True

/-- A well-formed command carries what it should, and one that does is well formed. -/
def Statement (i : Instr) : Prop := i.wellFormed = true ↔ Carries i

theorem powerOn : Statement .powerOn := ⟨fun _ => trivial, fun _ => rfl⟩

theorem resetLine : Statement .resetLine := ⟨fun _ => trivial, fun _ => rfl⟩

theorem resetRelease : Statement .resetRelease := ⟨fun _ => trivial, fun _ => rfl⟩

theorem startUpEnd : Statement .startUpEnd := ⟨fun _ => trivial, fun _ => rfl⟩

theorem upstreamWrite (addr : BitVec 40) (beats : List Beat) : Statement (.upstreamWrite addr beats) := by
  simp [Statement, Carries, Instr.wellFormed, burstLengthOk]

theorem upstreamRead (addr : BitVec 40) (length : Nat) : Statement (.upstreamRead addr length) := by
  simp [Statement, Carries, Instr.wellFormed, burstLengthOk]

theorem downstreamGrant : Statement .downstreamGrant := ⟨fun _ => trivial, fun _ => rfl⟩

theorem downstreamAnswer (okay : Bool) (data : List Byte) : Statement (.downstreamAnswer okay data) := by
  simp only [Statement, Carries, Instr.wellFormed, answerDataOk, Bool.and_eq_true, decide_eq_true_eq]
  exact ⟨fun h => ⟨data.length / 8, by omega, by omega⟩, fun ⟨n, h, e⟩ => by omega⟩

theorem returnWord : Statement .returnWord := ⟨fun _ => trivial, fun _ => rfl⟩

theorem directiveIndexWord : Statement .directiveIndexWord := ⟨fun _ => trivial, fun _ => rfl⟩

theorem directiveSlotWrite : Statement .directiveSlotWrite := ⟨fun _ => trivial, fun _ => rfl⟩

theorem writeBackAck : Statement .writeBackAck := ⟨fun _ => trivial, fun _ => rfl⟩

theorem voidRecordAck : Statement .voidRecordAck := ⟨fun _ => trivial, fun _ => rfl⟩

theorem statusWriteAck : Statement .statusWriteAck := ⟨fun _ => trivial, fun _ => rfl⟩

theorem summaryAck : Statement .summaryAck := ⟨fun _ => trivial, fun _ => rfl⟩

theorem directiveResultAck : Statement .directiveResultAck := ⟨fun _ => trivial, fun _ => rfl⟩

theorem batchClose : Statement .batchClose := ⟨fun _ => trivial, fun _ => rfl⟩

theorem laneSuspend : Statement .laneSuspend := ⟨fun _ => trivial, fun _ => rfl⟩

theorem laneResume : Statement .laneResume := ⟨fun _ => trivial, fun _ => rfl⟩

theorem laneForget : Statement .laneForget := ⟨fun _ => trivial, fun _ => rfl⟩

theorem statusNow : Statement .statusNow := ⟨fun _ => trivial, fun _ => rfl⟩

theorem unknownCode : Statement .unknownCode := ⟨fun _ => trivial, fun _ => rfl⟩

theorem incomplete : Statement .incomplete := ⟨fun _ => trivial, fun _ => rfl⟩

theorem sweep : Statement .sweep := ⟨fun _ => trivial, fun _ => rfl⟩

theorem holdExpiry : Statement .holdExpiry := ⟨fun _ => trivial, fun _ => rfl⟩

theorem gapFill (w : Window) : Statement (.gapFill w) := ⟨fun _ => trivial, fun _ => rfl⟩

theorem confirmTimeout (lane : LaneId) : Statement (.confirmTimeout lane) := ⟨fun _ => trivial, fun _ => rfl⟩

theorem laneSilent (lane : LaneId) : Statement (.laneSilent lane) := ⟨fun _ => trivial, fun _ => rfl⟩

theorem coalesceTime (ch : ChannelId) : Statement (.coalesceTime ch) := ⟨fun _ => trivial, fun _ => rfl⟩

theorem engineTake : Statement .engineTake := ⟨fun _ => trivial, fun _ => rfl⟩

theorem writeBackIssue : Statement .writeBackIssue := ⟨fun _ => trivial, fun _ => rfl⟩

theorem voidRecordIssue : Statement .voidRecordIssue := ⟨fun _ => trivial, fun _ => rfl⟩

theorem statusWriteIssue (ch : ChannelId) : Statement (.statusWriteIssue ch) := ⟨fun _ => trivial, fun _ => rfl⟩

theorem summaryIssue : Statement .summaryIssue := ⟨fun _ => trivial, fun _ => rfl⟩

theorem directiveResultIssue : Statement .directiveResultIssue := ⟨fun _ => trivial, fun _ => rfl⟩

theorem storeWriteBegin : Statement .storeWriteBegin := ⟨fun _ => trivial, fun _ => rfl⟩

theorem storeWriteEnd (completed : Bool) : Statement (.storeWriteEnd completed) := ⟨fun _ => trivial, fun _ => rfl⟩

theorem query (length : Byte) (clocked : List Byte) : Statement (.query length clocked) := by
  simp [Statement, Carries, Instr.wellFormed, frameComplete]

theorem loadKey (length : Byte) (clocked : List Byte) : Statement (.loadKey length clocked) := by
  simp [Statement, Carries, Instr.wellFormed, frameComplete]

theorem loadImage (length : Byte) (clocked : List Byte) : Statement (.loadImage length clocked) := by
  simp [Statement, Carries, Instr.wellFormed, frameComplete]

theorem lockImage (length : Byte) (clocked : List Byte) : Statement (.lockImage length clocked) := by
  simp [Statement, Carries, Instr.wellFormed, frameComplete]

theorem erase (length : Byte) (clocked : List Byte) : Statement (.erase length clocked) := by
  simp [Statement, Carries, Instr.wellFormed, frameComplete]

theorem emptyFrame : Statement .emptyFrame := ⟨fun _ => trivial, fun _ => rfl⟩

theorem badCommand (command : Byte) (length : Byte) (clocked : List Byte) : Statement (.badCommand command length clocked) := by
  simp only [Statement, Carries, Instr.wellFormed, frameComplete, commandListed, Bool.and_eq_true, Bool.not_eq_true',
    Bool.and_eq_false_iff, decide_eq_true_eq, decide_eq_false_iff_not]
  omega

theorem badFrame (clocked : List Byte) : Statement (.badFrame clocked) := by
  rcases clocked with - | ⟨a, - | ⟨b, rest⟩⟩ <;> simp [Statement, Carries, Instr.wellFormed, frameCutShort]

end Sys2Proof.Laws.Shape
end

