-- ==== Sys2Proof/Laws/Settle.lean ====
section
/-! SUPPORT. What the at-once steps do where nothing is due: nothing; and what the issue tests leave: no channel due.
Proofs about a command in a quiet state cite these instead of unfolding `settle`. -/

namespace Sys2Proof.Laws

open Sys2Proof.Machine

variable {s : State}

/-- A step that changes nothing at any number changes nothing. -/
theorem forBelow_of {n : Nat} {f : Nat → State → State} (h : ∀ i < n, f i s = s) : forBelow n f s = s := by
  unfold forBelow
  have : ∀ l : List Nat, (∀ i ∈ l, f i s = s) → l.foldl (fun s i => f i s) s = s := by
    intro l
    induction l with
    | nil => intro _; rfl
    | cons i l ih =>
      intro h
      rw [List.foldl_cons, h i List.mem_cons_self]
      exact ih fun j hj => h j (List.mem_cons_of_mem _ hj)
  exact this _ fun i hi => h i (List.mem_range.mp hi)

/-- One number more is one step more. -/
theorem forBelow_succ (n : Nat) (f : Nat → State → State) (s : State) :
    forBelow (n + 1) f s = f n (forBelow n f s) := by
  simp [forBelow, List.range_succ]

@[simp] theorem forBelow_zero (f : Nat → State → State) (s : State) : forBelow 0 f s = s := rfl

@[simp] theorem whenRunning_running (f : State → State) (h : s.phase = .running) : whenRunning f s = f s := if_pos h
@[simp] theorem whenRunning_closed (f : State → State) (h : s.phase ≠ .running) : whenRunning f s = s := if_neg h

/-! ### One at-once step with nothing due -/

/-- R9: no entry waits, or there is no room. -/
theorem addWaiting_of (h : s.path.waiting = [] ∨ 32 ≤ s.path.queue.length) : addWaiting s = s := by
  refine forBelow_of fun i hi => ?_
  unfold addLongestWaiting
  rcases h with h | h
  · simp [h] at hi
  · split
    · rfl
    · simp [queueRoom, h]

theorem expireNext_of (h : nextExpiring s = none) : expireNext s = s := by simp [expireNext, h]

theorem fillGap_of {w : Nat} (h : gapDue s w = false) : fillGap w s = s := by simp [fillGap, h]

theorem timeoutLane_of {lane : Nat} (h : confirmExpired s.sweepCount (laneAt s lane) = false) :
    timeoutLane lane s = s := by simp [timeoutLane, h]

theorem silentLane_of {lane : Nat} (h : (laneAt s lane).silentDue = false) : silentLane lane s = s := by
  simp [silentLane, h]

/-- R29, R31, R66, R78: what it takes that a sweep has left nothing due. -/
theorem sweepPending_false (h : sweepPending s = false) :
    nextExpiring s = none ∧ (∀ w < 4, gapDue s w = false) ∧
      ∀ lane < 48, confirmExpired s.sweepCount (laneAt s lane) = false ∧ (laneAt s lane).silentDue = false := by
  simpa [sweepPending, Bool.or_eq_false_iff, and_assoc] using h

theorem finishSweep_of (h : sweepPending s = false) : finishSweep s = s := by
  obtain ⟨a, b, c⟩ := sweepPending_false h
  unfold finishSweep expireAll
  rw [forBelow_of (f := fun _ => expireNext) fun _ _ => expireNext_of a, forBelow_of fun w hw => fillGap_of (b w hw),
    forBelow_of fun l hl => timeoutLane_of (c l hl).1, forBelow_of fun l hl => silentLane_of (c l hl).2]

theorem reportChannel_of {ch : Nat} (h : issueDue s.settings ch (channelAt s ch) = false) :
    reportChannel ch s = s := by simp [reportChannel, h]

/-- R166: no channel is due. -/
theorem reportDue_of (h : s.phase = .running → ∀ ch < 5, issueDue s.settings ch (channelAt s ch) = false) :
    reportDue s = s := by
  unfold reportDue whenRunning
  split
  · next r => exact forBelow_of fun ch hc => reportChannel_of (h r ch hc)
  · rfl

/-- R87: a record is in work, or none is queued. -/
theorem takeNext_of (h : s.engine.work ≠ none ∨ s.engine.queue = []) : takeNext s = s := by
  unfold takeNext
  split
  · next a b =>
    rcases h with h | h
    · exact absurd a h
    · simp [nextEntry, h, greatestBy] at b
  · rfl

theorem takeDueDirective_of (h : directiveDue s.directives = false) : takeDueDirective s = s := by
  simp [takeDueDirective, h]

theorem beginNextWrite_of (h : s.nv.writing ≠ none ∨ s.nv.requests = []) : beginNextWrite s = s := by
  unfold beginNextWrite
  split
  · next a b =>
    rcases h with h | h
    · exact absurd a h
    · simp [h] at b
  · rfl

theorem summaryStep_of (h : s.totals.close.bind (·.summary) = none) : summaryStep s = s := by
  simp [summaryStep, h]

theorem resultStep_of (h : (s.directives.inProgress.all fun d => d.result.isNone || d.issued) = true) :
    resultStep s = s := by
  unfold resultStep
  split
  · next e => simp [e] at h
  · rfl

/-! ### The at-once steps in their order, with nothing due -/

theorem settleSweep_of (r : s.phase = .running) (h : SweepDone s) : settleSweep s = s := by
  unfold settleSweep
  rw [addWaiting_of (h r).1, finishSweep_of (h r).2]

theorem settleReports_of (r : s.phase = .running) (h : ReportsDone s) : settleReports s = s := by
  unfold settleReports
  rw [settleSweep_of r h.1, reportDue_of h.2]

theorem settleTake_of (r : s.phase = .running) (h : TakeDone s) : settleTake s = s := by
  unfold settleTake
  rw [settleReports_of r h.1, takeNext_of (h.2 r)]

theorem settleDirective_of (r : s.phase = .running) (h : DirectiveDone s) : settleDirective s = s := by
  unfold settleDirective
  rw [settleTake_of r h.1, takeDueDirective_of (h.2 r), reportDue_of h.1.1.2]

theorem settleStore_of (r : s.phase = .running) (h : StoreDone s) : settleStore s = s := by
  unfold settleStore
  rw [settleDirective_of r h.1, beginNextWrite_of (h.2 r)]

theorem settleSummary_of (r : s.phase = .running) (h : SummaryDone s) : settleSummary s = s := by
  unfold settleSummary
  rw [settleStore_of r h.1, summaryStep_of (h.2 r)]

/-- With nothing due the at-once steps change nothing. -/
theorem settle_of (h : Quiet s) : settle s = s := by
  unfold settle whenRunning settleSteps
  split
  · next r => rw [settleSummary_of r h.1, resultStep_of (h.2 r)]
  · rfl

/-- With nothing due an event is its step, and the issue tests after it. -/
theorem event_of (f : State → State) (h : Quiet s) : event f s = reportDue (f s) := by
  unfold event
  rw [settle_of h]

theorem whenRunning_settleSweep_of (h : SweepDone s) : whenRunning settleSweep s = s := by
  unfold whenRunning; split
  · next r => exact settleSweep_of r h
  · rfl

theorem whenRunning_settleReports_of (h : ReportsDone s) : whenRunning settleReports s = s := by
  unfold whenRunning; split
  · next r => exact settleReports_of r h
  · rfl

theorem whenRunning_settleTake_of (h : TakeDone s) : whenRunning settleTake s = s := by
  unfold whenRunning; split
  · next r => exact settleTake_of r h
  · rfl

/-! ### What the issue tests leave (R166) -/

@[simp] theorem updAt_length {α : Type} (l : List α) (i : Nat) (f : α → α) : (updAt l i f).length = l.length := by
  induction l generalizing i with
  | nil => rfl
  | cons x xs ih => cases i <;> simp [updAt, ih]

/-- Reading a list after an update at one position. -/
theorem updAt_getElem? {α : Type} (l : List α) (i j : Nat) (f : α → α) :
    (updAt l i f)[j]? = if i = j then l[j]?.map f else l[j]? := by
  induction l generalizing i j with
  | nil => simp [updAt]
  | cons x xs ih =>
    cases i <;> cases j <;> simp [updAt, ih]

/-- The channels after an update of one. -/
theorem onChannel_at (ch c : Nat) (f : Channel → Channel) (s : State) :
    channelAt (onChannel ch f s) c =
      if ch = c ∧ c < s.report.length then f (channelAt s c) else channelAt s c := by
  unfold channelAt onChannel
  simp only [onReport_report, List.getD_eq_getElem?_getD, updAt_getElem?]
  by_cases h : ch = c
  · by_cases b : c < s.report.length
    · simp [h, b]
    · simp [h, b]
  · simp [h]

theorem issueStatus_report (ch : Nat) (s : State) :
    (issueStatus ch s).report = (onChannel ch contentTaken s).report := by
  unfold issueStatus
  rw [(offerEntry_touches _ _).report (by decide), (reportLanes_touches _ _).report (by decide)]

/-- The issue tests of the channels change no setting. -/
@[simp] theorem reportChannel_settings (ch : Nat) (s : State) : (reportChannel ch s).settings = s.settings :=
  (reportChannel_touches s ch).settings (by decide)

@[simp] theorem reportChannel_phase (ch : Nat) (s : State) : (reportChannel ch s).phase = s.phase :=
  (reportChannel_touches s ch).phase (by decide)

/-- A channel is not due after its issue test, and one that is not due stays so through another's. -/
theorem reportChannel_due (ch c : Nat) (s : State) (h : c = ch ∨ issueDue s.settings c (channelAt s c) = false) :
    issueDue s.settings c (channelAt (reportChannel ch s) c) = false := by
  by_cases d : issueDue s.settings ch (channelAt s ch) = true
  · have e : channelAt (reportChannel ch s) c = channelAt (onChannel ch contentTaken s) c := by
      simp only [reportChannel, d, if_true]
      unfold channelAt
      rw [issueStatus_report]
    rw [e, onChannel_at]
    rcases h with rfl | h
    · split
      · simp [issueDue, contentTaken]
      · next n =>
        have : s.report.length ≤ c := by simpa using n
        simp [channelAt, List.getElem?_eq_none this, issueDue, Channel.reset]
    · split
      · simp [issueDue, contentTaken]
      · exact h
  · have n : issueDue s.settings ch (channelAt s ch) = false := by simpa using d
    rw [reportChannel_of n]
    rcases h with rfl | h
    · exact n
    · exact h

/-- R166: after the issue tests of the channels below a number none of them is due. -/
theorem forBelow_reportChannel_due (n : Nat) (s : State) :
    ∀ c < n, issueDue s.settings c (channelAt (forBelow n reportChannel s) c) = false := by
  have settings : ∀ n, (forBelow n reportChannel s).settings = s.settings := fun n =>
    (forBelow_touches s n _ fun ch s => reportChannel_touches s ch).settings (by decide)
  induction n with
  | zero => intro c h; exact absurd h (Nat.not_lt_zero c)
  | succ n ih =>
    intro c h
    rw [forBelow_succ]
    have := reportChannel_due n c (forBelow n reportChannel s)
    rw [settings n] at this
    exact this (if e : c = n then .inl e else .inr (ih c (by omega)))

/-- R166: after the issue tests no channel of a running part is due. -/
theorem reportDue_due (s : State) : (reportDue s).phase = .running →
    ∀ c < 5, issueDue (reportDue s).settings c (channelAt (reportDue s) c) = false := by
  intro r
  have ph : s.phase = .running := (reportDue_touches s).phase (by decide) ▸ r
  have st : (reportDue s).settings = s.settings := (reportDue_touches s).settings (by decide)
  rw [st]
  unfold reportDue
  rw [whenRunning_running _ ph]
  exact forBelow_reportChannel_due 5 s

/-- The issue tests after the issue tests change nothing. -/
theorem reportDue_idem (s : State) : reportDue (reportDue s) = reportDue s := reportDue_of (reportDue_due s)

end Sys2Proof.Laws
end

