-- ==== Sys2Proof/Tests/Slice0.lean ====
section
/-! SUPPORT. Tests: the checks of WellFormed refuse ill-formed terms, worked examples of the spec come out, and every
statement with hypotheses has a state and operands that meet them. -/

namespace Sys2Proof.Tests

open Sys2Proof Sys2Proof.Machine

-- Each theorem here is evaluated by the kernel; one after another they need one thread's memory, not one each.
set_option Elab.async false

/-! ### WellFormed -/

/-- A burst has at least one beat. -/
theorem test_wellFormed_emptyWrite : (Instr.upstreamWrite 0 []).wellFormed = false := by decide
/-- A burst has at most 16 beats. -/
theorem test_wellFormed_longRead : (Instr.upstreamRead 0 17).wellFormed = false := by decide
/-- 16 beats are a burst. -/
theorem test_wellFormed_fullRead : (Instr.upstreamRead 0 16).wellFormed = true := by decide
/-- An answer carries whole beats. -/
theorem test_wellFormed_partBeat : (Instr.downstreamAnswer true [1, 2, 3]).wellFormed = false := by decide
/-- An answer carries at most 16 beats. -/
theorem test_wellFormed_longAnswer : (Instr.downstreamAnswer true (zeros 136)).wellFormed = false := by decide +kernel
/-- R185: each of the five listed commands holds its payload. -/
theorem test_wellFormed_shortFrames :
    [Instr.query 1 [], .loadKey 21 (zeros 20), .loadImage 2 [0], .lockImage 1 [], .erase 1 []].map Instr.wellFormed =
      List.replicate 5 false := by decide
/-- R185: a listed command byte is no BAD_COMMAND. -/
theorem test_wellFormed_listedCommand :
    [0x01, 0x02, 0x03, 0x04, 0x05].map (fun b => (Instr.badCommand b 0 []).wellFormed) = List.replicate 5 false := by decide
/-- R185: 0x06 is not listed. -/
theorem test_wellFormed_unlistedCommand : (Instr.badCommand 6 0 []).wellFormed = true := by decide
/-- R182, R185: an empty frame is no BAD_FRAME, and neither is a whole one. -/
theorem test_wellFormed_wholeFrame : [Instr.badFrame [], .badFrame [1, 1, 9]].map Instr.wellFormed = [false, false] := by
  decide
/-- R185: a frame of one byte is cut short. -/
theorem test_wellFormed_cutFrame : (Instr.badFrame [1]).wellFormed = true := by decide

/-! ### Decoding: the table gives no row bits -/

/-- No word spells a command. -/
theorem test_decode_none : decodeTableWord 8 1 = none := by decide
/-- No word changes the state. -/
theorem test_withFetchWord_same : State.reset.withFetchWord 8 1 = State.reset := by decide +kernel

/-! ### Computation -/

/-- FIPS-197, appendix B: the standard's own example. -/
theorem test_transform_fips :
    transform [0x2b, 0x7e, 0x15, 0x16, 0x28, 0xae, 0xd2, 0xa6, 0xab, 0xf7, 0x15, 0x88, 0x09, 0xcf, 0x4f, 0x3c]
      [0x32, 0x43, 0xf6, 0xa8, 0x88, 0x5a, 0x30, 0x8d, 0x31, 0x31, 0x98, 0xa2, 0xe0, 0x37, 0x07, 0x34] =
    [0x39, 0x25, 0x84, 0x1d, 0x02, 0xdc, 0x09, 0xfb, 0xdc, 0x11, 0x85, 0x97, 0x19, 0x6a, 0x0b, 0x32] := by
  decide +kernel

/-- The card number of the examples of section 6.5. -/
def cardNumber : List Nat := [2, 7, 4, 4, 1, 9, 0, 3, 5, 8, 6, 1, 2, 4, 7, 7]

/-- Section 6.5: its check sum is 70, and it passes. -/
theorem test_checkSum : digitSum true cardNumber.reverse = 70 ∧ passesCheck cardNumber = true := by decide

/-- Section 6.8, cases 1 and 2: the shifts of a source, the shifted number, and the adjustment of one that passes. -/
theorem test_surrogate_cases :
    drawShifts [] 1 [0x3c, 0xfb, 0x07, 0xa4, 0x5e, 0xff, 0x21, 0x90, 0, 0, 0, 0, 0, 0, 0, 0] 6 = [0, 7, 4, 4, 3, 4] ∧
    adjustDigits (shiftDigits cardNumber [0, 7, 4, 4, 3, 4]) = [2, 7, 4, 4, 1, 9, 0, 0, 9, 2, 9, 5, 2, 4, 7, 7] ∧
    adjustDigits (shiftDigits cardNumber [0, 7, 4, 4, 3, 5]) = [2, 7, 4, 4, 1, 9, 0, 0, 9, 2, 9, 7, 2, 4, 7, 7] := by
  decide +kernel

/-- Section 6.8, the extended source: eight of its bytes are skipped and eight give shifts, 249 among them; with a source
that begins 0xFB, 0x4E the ninth shift is 8. -/
theorem test_surrogate_sources :
    sourceShifts [250, 18, 254, 251, 45, 252, 85, 253, 11, 255, 99, 250, 249, 6, 254, 200] = [8, 5, 5, 1, 9, 9, 6, 0] ∧
    (sourceShifts [0xfb, 0x4e]).take 1 = [8] ∧
    adjustDigits (shiftDigits [6, 0, 1, 2, 3, 4, 5, 6, 7, 8, 9, 0, 1, 2, 3, 4, 5, 6, 3] [8, 5, 5, 1, 9, 9, 6, 0, 8]) =
      [6, 0, 1, 2, 3, 4, 3, 1, 2, 9, 8, 9, 7, 2, 1, 4, 5, 6, 3] := by decide +kernel

/-- Section 6.8: a lane counter of four bytes in the lane derivation block. -/
theorem test_laneBlock :
    laneBlock 0x11 9 16777337 4 = [0x11, 9, 0x79, 0, 0, 4, 0, 0, 0, 1, 0, 0, 0, 0, 0, 0] := by decide

/-- Section 6.8: the derivation block of a counter value, and the blocks of the envelope tag. -/
theorem test_envelopeBlocks :
    acquirerBlock 1 7 4353 3105 = [1, 7, 1, 0x11, 0, 0x21, 0x0c, 0, 0, 0, 0, 0, 0, 0, 0, 0] ∧
    envelopeTagB1 17 1003 7 4353 212 826 = [17, 0xeb, 3, 0, 0, 7, 1, 0x11, 0, 0xd4, 0, 0, 0, 0x3a, 3, 0] ∧
    envelopeTagB2 4250 false = [0x9a, 0x10] ++ zeros 14 := by decide

/-! ### States for the tests and witnesses -/

/-- A running part with every window disabled. -/
def idle : State := { State.reset with phase := .running }

/-- One window of 16 slots of 256 bytes at 0x100000, and the status window at 0x40000. -/
def liveMap : WindowMap where
  intake := ⟨true, 0x100000, 256, 16⟩ :: List.replicate 3 IntakeWindow.disabled
  statusEnabled := true
  statusBase := 0x40000

/-- A table of 16 slots of which the first is in a state. -/
def slotsFrom (st : SlotState) : WindowSlots := ⟨st :: List.replicate 15 .free, 0, 0, 0⟩

/-- A running part with that map, its first slot in a state, and two channels. -/
def live (st : SlotState) : State :=
  { idle with
    settings := { Settings.defaults with map := liveMap }
    intake := ⟨slotsFrom st :: List.replicate 3 WindowSlots.none, [], 0⟩
    report := [Channel.reset true, Channel.reset false, Channel.reset false, Channel.reset false, Channel.reset true] }

/-- A hold of slot 0 of W0 with these bytes from its start, its header recorded. -/
def recordOf (bytes : List Byte) : Hold :=
  recordHeader 256
    { window := 0
      slot := 0
      ringIndex := 0
      openedAt := 0
      bytes := bytes.map some ++ List.replicate (512 - bytes.length) none
      header := none
      lengthFault := false
      expired := false
      serial := some 0 }

/-- The entry of that hold. -/
def entry : QueueEntry := ⟨0, 0⟩

/-- A state in which the engine takes this hold next. -/
def taking (h : Hold) : State :=
  { live .queued with
    intake := ⟨slotsFrom .queued :: List.replicate 3 WindowSlots.none, [h], 1⟩
    engine := ⟨[entry], none⟩ }

/-- A header: kind, version, lane, class 0, length, then lane sequence, till time and the part-written fields. -/
def header (kind version lane length sequence : Nat) : List Byte :=
  [byteOf kind, byteOf version, byteOf lane, 0] ++ leBytes 2 length ++ zeros 2 ++ leBytes 4 sequence ++ zeros 20

/-- A card body: the card number of the examples, expiry 2801, service 201, currency 826, amount 4250. -/
def goodBody : List Byte :=
  [16] ++ cardNumber.map byteOf ++ zeros 3 ++ [2, 8, 0, 1, 2, 0, 1, 0] ++ leBytes 2 826 ++ zeros 2 ++ leBytes 5 4250 ++
    zeros 3 ++ [4, 1, 2, 3, 4] ++ zeros 43

/-- A clear card record of lane 5. -/
def clearRecord (sequence : Nat) (body : List Byte) : Hold := recordOf (header 2 1 5 120 sequence ++ body)

/-- A lane that is ENROLLED with both kinds and lane key 4, and has seen sequence number 40. -/
def enrolledLane : Lane :=
  { Lane.reset with
    state := .enrolled
    agreement := some ⟨⟨true, true⟩, 4, zeros 8⟩
    high := 40
    seen := 1
    lastCounter := 7 }

/-- The state with one lane entry replaced. -/
def withLane (lane : Nat) (l : Lane) (s : State) : State :=
  { s with lanes := { s.lanes with entries := updAt s.lanes.entries lane fun _ => l } }

/-- A key slot with a key. -/
def keySlot (st : KeyState) (id : Nat) : KeySlot := ⟨st, id, zeros 16, checkValue (zeros 16)⟩

/-- A key store with every key: ACQ_CURRENT 3 with its mark, ACQ_NEXT 9, SURROGATE, BATCH and lane 5. -/
def loadedKeys (c mark : Nat) : KeyUnit :=
  { KeyUnit.reset with
    store :=
      { KeyStore.empty with
        current := keySlot .active 3
        currentMark := mark
        next := keySlot .loaded 9
        nextMark := 1
        surrogate := keySlot .loaded 2
        batch := keySlot .loaded 2
        lanes := updAt KeyStore.empty.lanes 5 fun _ => keySlot .loaded 4
        highestId := 3 }
    currentC := c
    nextC := 1 }

/-- The state with a key unit. -/
def withKeys (k : KeyUnit) (s : State) : State := { s with keys := k }

/-- The admission copy of that lane for a new sequence number (R88). -/
def admittedCopy : Admission := ⟨.enrolled, false, ⟨true, true⟩, 4, 7, .accept⟩

/-- A record in work at a stage. -/
def inWork (st : Stage) : Work := { newWork entry (some admittedCopy) with stage := st }

/-- A part with a record of lane 5 in work. -/
def engaged (w : Work) (h : Hold) : State :=
  withKeys (loadedKeys 1 257) (withLane 5 enrolledLane { live .working with
    intake := ⟨slotsFrom .working :: List.replicate 3 WindowSlots.none, [h], 1⟩
    engine := ⟨[], some w⟩ })

/-- The state after a command. -/
def after (c : Instr) (s : State) : State :=
  match exec c s with
  | .next t => t
  | _ => s

/-- The state after the engine has gone on `n` times. -/
def worked : Nat → State → State
  | 0, s => s
  | n + 1, s => worked n (after .engineTake s)

/-- The outcome of the record in work after the engine has gone on `n` times. -/
def outcomeAfter (n : Nat) (s : State) : Option (Disposition × Reason) := (worked n s).engine.work.bind (·.outcome)

/-! ### Commands -/

/-- R52, R193, R194: a power-on, a reset and its release. -/
theorem test_resets :
    ((after .powerOn idle).phase, (after .powerOn idle).cause) = (.starting, .powerOn) ∧
    ((after .resetLine idle).phase, (after .resetLine idle).cause) = (.held, .resetLine) ∧
    (after .resetRelease (after .resetLine idle)).phase = .starting := by decide +kernel

/-- R188, R191: an image never loaded gives group 0 LOADED, the others DEFAULTED, and every window disabled. -/
theorem test_startUp_defaults :
    (after .startUpEnd State.reset).settings.outcomes = [.loaded, .defaulted, .defaulted, .defaulted, .defaulted] ∧
    (after .startUpEnd State.reset).settings.map = WindowMap.empty := by decide +kernel

/-- An image with the live map: a group word count's zeros replaced at its start, the check word at its end. -/
def imageWords (count : Nat) (words : List Nat) : List (BitVec 16) :=
  ((words ++ List.replicate (count - 1 - words.length) 0) ++ [(65536 - words.sum % 65536) % 65536]).map (BitVec.ofNat 16)

/-- A starting part with that image. -/
def starting : State :=
  { State.reset with
    nv := { State.reset.nv with
      groups := [imageWords 6 [3105, 0, 1, 0x40, 0], imageWords 21 [1, 0x100, 0, 256, 16]] ++ groupsZero.drop 2
      control := 2 } }

/-- R191: that image gives the live map. -/
theorem test_startUp_map : (after .startUpEnd starting).settings.map = liveMap := by decide +kernel

/-- R9, R13, R57: the first blocks lead the queue, W0 before STORE, whatever is offered; the STORE block's bytes of lane
events and lane states are 0. -/
theorem test_startUp_blocks :
    let s := { starting with path := { starting.path with
      offered := [.write 0x100000 ((chunksOf 8 16 (header 4 1 5 48 0 ++ [3, 4, 0, 0] ++ zeros 12)).map fullBeat)] } }
    let t := after .startUpEnd s
    t.path.queue.map (·.kind) = [.statusBlock 0, .statusBlock 4] ∧
      (t.path.queue.flatMap fun e => e.bursts.flatMap fun b => match b.op with
        | .write beats => ((beatsCells b.addr beats).filter fun c => decide (0x40200 + 40 ≤ c.1)).map (·.2)
        | .read _ => []) = zeros 88 ∧
      t.engine.queue = [entry] ∧ (laneAt (worked 2 t) 5).state = .offered := by decide +kernel

/-- R3, R4, R10: a plain write goes downstream on the next grant. -/
theorem test_write_grant :
    ((after .downstreamGrant (after (.upstreamWrite 0x2000 [fullBeat (zeros 8)]) idle)).path.outstanding.map (·.addr)) =
      [0x2000] := by decide +kernel

/-- R8: its byte is in memory at the OKAY answer. -/
theorem test_answer_memory :
    memGet 0x2003 (after (.downstreamAnswer true [])
      (after .downstreamGrant (after (.upstreamWrite 0x2000 [fullBeat [1, 2, 3, 4, 5, 6, 7, 8]]) idle))).dram =
      some 4 := by decide +kernel

/-- R14, R160: bursts issued before a reset and answered after it: a summary's reaches memory no more, another does. -/
theorem test_answer_abandoned :
    [Origin.internal .summary true, .internal (.statusBlock 4) true].map (fun o =>
      memGet 0x40600 (after (.downstreamAnswer true []) (after .resetLine
        { idle with path := { idle.path with outstanding := [⟨o, 0x40600, .write [fullBeat (zeros 8)]⟩] } })).dram) =
      [none, some 0] := by decide +kernel

/-- R20, R25: the whole record written at once queues its slot. -/
theorem test_slotWrite_queues :
    slotState (after (.upstreamWrite 0x100000 ((chunksOf 8 16 (header 1 1 5 32 0)).map fullBeat)) (live .free)) 0 0 =
      some .queued := by decide +kernel

/-- R22: a write to a DONE slot adds one OVERRUN for each beat. -/
theorem test_slotWrite_overrun :
    (channelAt (after (.upstreamWrite 0x100008 [fullBeat (zeros 8), fullBeat (zeros 8)]) (live .done)) 0).counts.overrun =
      2 := by decide +kernel

/-- R5, R19: of a write over two slots the beat for a DONE slot is refused, and the one for a FREE slot taken. -/
theorem test_slotWrite_twoSlots :
    let t := after (.upstreamWrite 0x1000f8 [fullBeat (zeros 8), fullBeat (zeros 8)]) (live .done)
    (channelAt t 0).counts.overrun = 1 ∧ slotState t 0 1 = some .filling ∧
      t.path.responses = [⟨false, false, []⟩] := by decide +kernel

/-- A take of this record from a lane with these keys. -/
def meeting (l : Lane) (h : Hold) : State := withKeys (loadedKeys 1 257) (withLane 5 l (taking h))

/-- R99: a card number that fails the check-digit rule is BAD_PAN. -/
theorem test_engine_badPan :
    outcomeAfter 3 (meeting enrolledLane (clearRecord 41 (updAt goodBody 16 fun _ => 8))) =
      some (.rejected, .badPan) := by decide +kernel

/-- R104: a good card record is WRAPPED, and counted with its amount. -/
theorem test_engine_wrapped :
    let t := worked 7 (meeting enrolledLane (clearRecord 41 goodBody))
    t.engine.work.map (·.outcome) = some (some (.wrapped, .none)) ∧ t.keys.currentC = 2 ∧
      t.totals.batch.store.sum.value = 4250 ∧ (laneAt t 5).high = 41 ∧ (laneAt t 5).seen = 3 := by decide +kernel

/-- R73: the sequence number 40, seen, is DUPLICATE; 8, below the window of 9 to 40, is STALE. -/
theorem test_engine_duplicate_stale :
    [40, 8].map (fun q => outcomeAfter 2 (meeting enrolledLane (clearRecord q goodBody))) =
      [some (.duplicate, .none), some (.stale, .none)] := by decide +kernel

/-- R135: with C at the mark the record waits for a reservation of 256 values more. -/
theorem test_engine_waits :
    let t := worked 4 (withKeys (loadedKeys 257 257) (meeting enrolledLane (clearRecord 41 goodBody)))
    t.keys.waiting = true ∧ t.nv.writing.isNone ∧
      t.nv.requests = [.keyStore (some ⟨3, 513, false, true⟩) false] := by decide +kernel

/-- R139: the last value 1,048,575 promotes the staged key. -/
theorem test_engine_lastValue :
    let t := worked 4 (withKeys (loadedKeys 1048575 1048576) (meeting enrolledLane (clearRecord 41 goodBody)))
    (t.keys.store.current.id, t.keys.store.current.state, t.keys.currentC) = (9, .active, 1) := by decide +kernel

/-- The sealed record of lane 5 with a lane counter and a lane tag. -/
def sealedRecord (counter : Nat) (tag : List Byte) : Hold :=
  recordOf (header 3 1 5 136 41 ++ leBytes 4 counter ++ zeros 4 ++ zeros 88 ++ tag)

/-- R84, R98, R120: of a sealed record refused LANE_TAG the engine holds the 88 recovered bytes. -/
theorem test_engine_laneTag :
    let t := worked 4 (meeting enrolledLane (sealedRecord 8 (zeros 8)))
    outcomeAfter 0 t = some (.rejected, .laneTag) ∧
      (t.engine.work.bind (·.body)).map (·.length) = some 88 := by decide +kernel

/-- R108: an ERASE between the request for the lane working keys and the key request: the record keeps the lane working
keys, and its key request is refused NO_KEY. -/
theorem test_engine_erased :
    let t := worked 1 (after (.erase 0 []) (engaged { inWork .keys with body := some goodBody }
      (clearRecord 41 goodBody)))
    outcomeAfter 0 t = some (.rejected, .noKey) := by decide +kernel

/-- A part whose directive ring holds one directive: its code, flags and lane. -/
def withDirective (code flags lane : Nat) (s : State) : State :=
  { s with
    directives := { DirectiveUnit.reset with
      captures := updAt DirectiveUnit.reset.captures 0 fun _ =>
        ([code, flags, lane, 0, 0, 0, 0, 0].map fun n => some (byteOf n)) ++ List.replicate 24 none
      producer := 1 } }

/-- R109, R154: a BATCH_CLOSE with a roll between a record's capture and its totals commit: the record, of the key the
roll replaced, is counted in the batch that the close opened. -/
theorem test_engine_rolled :
    let s := worked 5 (meeting enrolledLane (clearRecord 41 goodBody))
    let t := worked 1 (after .batchClose (withDirective 1 1 0 s))
    (s.totals.batch.number, t.totals.batch.number) = (1, 2) ∧ t.keys.store.current.id = 9 ∧
      t.totals.batch.range = some (⟨3, 1⟩, ⟨3, 1⟩) ∧ t.totals.batch.store.count.value = 1 := by decide +kernel

/-- A queued hold of slot 1 of W0, of a class. -/
def laterHold (cls serial : Nat) : Hold :=
  { recordOf (header 1 1 5 32 0) with
    slot := 1
    ringIndex := 1
    header := some ⟨1, 1, 5, cls, 32, 32⟩
    serial := some (BitVec.ofNat 32 serial) }

/-- R87: the idle engine takes the first entry to join the queue at once, before one of a higher class joins it. -/
theorem test_engine_firstJoiner :
    let s := { taking (recordOf (header 1 1 5 32 0)) with
      intake := ⟨⟨.queued :: .filling :: List.replicate 14 .free, 0, 0, 0⟩ :: List.replicate 3 WindowSlots.none,
        [recordOf (header 1 1 5 32 0), { laterHold 7 1 with serial := none }], 1⟩
      sweepCount := 3 }
    (after .holdExpiry s).engine.work.map (·.slot) = some 0 ∧ (after .holdExpiry s).engine.queue = [⟨0, 1⟩] := by
  decide +kernel

/-- R132: a wrong check value is BAD_CHECK (6); R133: a load of SURROGATE is OK (1). -/
theorem test_loadKey :
    (after (.loadKey 21 ([2, 1] ++ zeros 19)) idle).port.answer = some [6] ∧
    (after (.loadKey 21 ([2, 1] ++ zeros 16 ++ checkValue (zeros 16))) idle).port.answer = some [1] := by
  decide +kernel

/-- R189: an all-zero group 0 is sound; R184: a second command finds the write outstanding (BUSY). -/
theorem test_loadImage_busy :
    let t := after (.loadImage 13 (zeros 13)) idle
    t.port.answer = some [1] ∧ (after (.query 0 []) t).port.answer = some [2] := by decide +kernel

/-- R182, R183: the first frame after start-up shifts out NO_ANSWER, and the next one the answer with zeros after it. -/
theorem test_frames_shift :
    (after (.badCommand 9 0 []) idle).port.shiftedOut = [0, 0] ∧
    (after (.badFrame [1]) (after (.badCommand 9 0 []) idle)).port.shiftedOut = [4] := by decide +kernel

/-- R185: the command bytes of the table: a frame that begins 0x01 is a QUERY, whichever command brings it. -/
theorem test_frames_listed :
    (after (.badCommand 0x01 0 []) idle).port.answer.map (·.length) = some 295 ∧
    (after (.badCommand 0x04 0 []) idle).nv.requests = [.imageLock] ∧
    (after (.badFrame [0x05, 0]) idle).nv.requests = [.erase] := by decide +kernel

/-- R166, R169: STATUS_NOW makes a channel issue, and the acknowledgement of its block asserts the interrupt line. -/
theorem test_status_interrupt :
    let s := after (.statusWriteIssue 0) { live .free with report := updAt (live .free).report 0 oweOn }
    (channelAt s 0).inFlight = true ∧
      interruptLine (after .statusWriteAck { s with path := { s.path with acks := [⟨.statusBlock 0, true⟩] } }).report =
        true := by decide +kernel

/-- R166, R169: a block that came to be owed in flight is issued at the acknowledgement, and in the queue before a
write-back that is issued after it. -/
theorem test_status_again :
    let s := { live .free with
      report := updAt (live .free).report 0 fun c => { c with owed := true, inFlight := true }
      path := { idle.path with acks := [⟨.statusBlock 0, true⟩] } }
    ((after .statusWriteAck s).path.queue.map (·.kind), (channelAt (after .statusWriteAck s) 0).reportedTag) =
      ([.statusBlock 0], 2) := by decide +kernel

/-- R28, R30: a sweep raises the count. -/
theorem test_sweep : (after .sweep idle).sweepCount = 1 := by decide +kernel

/-! ### Witnesses: the hypotheses of the statements, met together -/

/-- A beat with every strobe set. -/
def beat : Beat := fullBeat [1, 2, 3, 4, 5, 6, 7, 8]

/-- The hypotheses of StepTakesTheFrontCommand: an empty queue. -/
theorem witness_StepTakesTheFrontCommand : idle.pending = [] := rfl

/-- The hypotheses of CommandsCompleteAndStoresStay. -/
theorem witness_CommandsCompleteAndStoresStay :
    exec .emptyFrame idle = .next idle ∧ (∀ okay data, Instr.emptyFrame ≠ .downstreamAnswer okay data) ∧
      Instr.emptyFrame ≠ .powerOn ∧ Instr.emptyFrame ≠ .resetLine ∧ Instr.emptyFrame ≠ .startUpEnd ∧
      ∀ completed, Instr.emptyFrame ≠ .storeWriteEnd completed := by
  refine ⟨rfl, ?_, by decide, by decide, by decide, ?_⟩ <;> intros <;> exact Instr.noConfusion

/-- The hypotheses of ResetDropsTheVolatileState, with a store write in progress. -/
theorem witness_ResetDropsTheVolatileState :
    Quiet { live .writing with nv := { idle.nv with writing := some .imageLock } } := by decide +kernel

/-- A stored image whose ACQ_CURRENT has no value left, with or without a staged key. -/
def spentImage (next : KeySlot) : State :=
  { starting with
    nv := { starting.nv with
      keys := { KeyStore.empty with current := keySlot .active 3, currentMark := 1048576, next := next } } }

/-- The hypotheses of StartUpEndBeginsEveryBlock. -/
theorem witness_StartUpEndBeginsEveryBlock :
    (starting.phase = .starting ∧ starting.path.queue = [] ∧ starting.path.waiting = [] ∧
      starting.lanes = LaneTable.reset) ∧ idle.phase ≠ .starting ∧ starting.nv.keys.current.state ≠ .active ∧
      ((spentImage (keySlot .loaded 9)).phase = .starting ∧
        (spentImage (keySlot .loaded 9)).nv.keys.current.state = .active ∧
        (spentImage (keySlot .loaded 9)).nv.keys.currentMark = 1048576 ∧
        (spentImage (keySlot .loaded 9)).nv.keys.next.state = .loaded) ∧
      (spentImage KeySlot.empty).nv.keys.next.state ≠ .loaded := by decide +kernel

/-- An image in which W1 asks for W0's last byte, W2 for the status window, and group 3 has an unsound check. -/
def overlapping : NvStore :=
  { starting.nv with
    groups := [imageWords 6 [3105, 0, 1, 0x40, 0],
      imageWords 21 [1, 0x100, 0, 512, 256, 1, 0x11f, 0, 256, 16, 1, 0x40, 0, 256, 16, 0, 0, 0, 0, 0],
      imageWords 9 [3, 9], List.replicate 10 1, imageWords 49 [2]]
    control := 0x1e }

/-- The hypotheses of ImageGivesTheSettings: groups that are LOADED, CHECK_FAILED and DEFAULTED; and R192 at a shared
byte, the last of W0. -/
theorem witness_ImageGivesTheSettings :
    (imageSettings overlapping).outcomes = [.loaded, .loaded, .loaded, .checkFailed, .loaded] ∧
    (imageSettings starting.nv).outcomes = [.loaded, .loaded, .defaulted, .defaulted, .defaulted] ∧
    (imageSettings overlapping).overlap = [false, true, true, false] ∧
    ((imageSettings overlapping).map.intake.map (·.enabled)) = [true, false, false, false] ∧
    (imageSettings overlapping).priorities = [3, 3, 0, 0, 0, 0, 0, 0] ∧
    (imageSettings overlapping).policies[0]? = some ⟨false, true⟩ := by decide +kernel

/-- A part that waits for the response to 8 reads. -/
def crowded : State :=
  { idle with path := { idle.path with accepted := List.replicate 8 ⟨true, 1, false, []⟩ } }

/-- Ready, as its parts. -/
theorem ready_of {s : State} (a : Quiet s ∧ s.phase = .running ∧ s.path.offered = [] ∧ s.path.accepted.length < 8)
    (w : s.path.accepted = []) : Ready s :=
  ⟨a.1, a.2.1, a.2.2.1, a.2.2.2, by rw [w]; exact fun x h => absurd h (by simp)⟩

/-- The idle part accepts what is offered. -/
theorem witness_Ready : Ready idle := ready_of (by decide +kernel) rfl

/-- The hypotheses of OffersAreAcceptedInOrder. -/
theorem witness_OffersAreAcceptedInOrder :
    Ready idle ∧ (Quiet crowded ∧ ¬(crowded.phase = .running ∧ crowded.path.accepted.length < 8)) ∧
      Quiet State.reset ∧ ¬(State.reset.phase = .running ∧ State.reset.path.accepted.length < 8) :=
  ⟨witness_Ready, by decide +kernel, by decide +kernel, by decide⟩

/-- The hypotheses of WritesAreForwardedByTheirBeats: a write of two plain beats at the end of a 4 KiB block, and one
empty beat. -/
theorem witness_WritesAreForwardedByTheirBeats :
    Ready (live .free) ∧ [beat, beat] ≠ [] ∧ (∀ b ∈ [beat, beat], b.strobes ≠ 0) ∧
      (∀ i < [beat, beat].length, ∀ w slot offset,
        classOf (live .free).settings.map (beatAddr 0x2ff0 i) ≠ .intake w slot offset) ∧
      (∀ i < [beat, beat].length, beatAddr 0x2ff0 i / 4096 = beatAddr 0x2ff0 0 / 4096) ∧
      (live .free).path.accepted = [] ∧ ∀ b ∈ [(⟨0, 0⟩ : Beat)], b.strobes = 0 := by
  refine ⟨ready_of (by decide +kernel) rfl, by decide, by decide +kernel, fun i hi w slot offset => ?_, by decide +kernel,
    rfl, by decide⟩
  have h : ∀ i < 2, classOf (live .free).settings.map (beatAddr 0x2ff0 i) = .plain := by decide +kernel
  rw [h i hi]
  exact BeatClass.noConfusion

/-- A write of one beat into the first slot has beats for that slot alone. -/
theorem witness_slotOnly (st : SlotState) : SlotOnly (live st) 0x100008 [beat] 0 0 := by
  have h : classBeats liveMap 0x100008 0 [beat] = [⟨0, 0x100008, .intake 0 0 8, beat⟩] := by decide +kernel
  refine ⟨by rw [show (live st).settings.map = liveMap from rfl, h]; exact List.cons_ne_nil _ _, fun c hc => ?_⟩
  rw [show (live st).settings.map = liveMap from rfl, h] at hc
  exact ⟨8, by rw [List.mem_singleton.mp hc]⟩

/-- The live part with its 16 holds in use. -/
def noHolds : State :=
  { live .free with intake := { (live .free).intake with holds := List.replicate 16 { recordOf [] with slot := 9 } } }

/-- The hypotheses of RefusedBeatsAreCounted, in each of its cases. -/
theorem witness_RefusedBeatsAreCounted :
    (∀ st ∈ [SlotState.queued, .working, .writing, .done, .released], slotState (live st) 0 0 = some st) ∧
    (Ready (live .released) ∧ SlotOnly (live .released) 0x100008 [beat] 0 0 ∧
      slotRefusal (live .released) 0 0 = some .overrun) ∧
    Ready noHolds ∧ slotState noHolds 0 0 = some .free ∧ 16 ≤ noHolds.intake.holds.length ∧
      SlotOnly noHolds 0x100008 [beat] 0 0 :=
  ⟨by decide, ⟨ready_of (by decide +kernel) rfl, witness_slotOnly _, by decide⟩, ready_of (by decide +kernel) rfl,
    by decide, by decide, (witness_slotOnly .free).1, (witness_slotOnly .free).2⟩

/-- The live part with a hold that fills. -/
def filling : State :=
  { live .filling with intake := { (live .filling).intake with holds := [{ recordOf [] with serial := none }] } }

/-- The hypotheses of SlotWritesFillTheHold, in both of its cases: a hold that stays open, and one whose record the
write completes. -/
theorem witness_SlotWritesFillTheHold :
    (Ready filling ∧ SlotOnly filling 0x100008 [beat] 0 0 ∧ slotRefusal filling 0 0 = none ∧
      slotState filling 0 0 = some .filling ∧ holdOf filling 0 0 = some { recordOf [] with serial := none } ∧
      entry ∉ filling.engine.queue) ∧
    (slotState (live .free) 0 0 = some .free ∧ (live .free).intake.holds.length < 16 ∧ holdOf (live .free) 0 0 = none) ∧
    [[(8, beat)], (chunksOf 8 16 (header 1 1 5 32 0)).zipIdx.map fun x => (8 * x.2, fullBeat x.1)].map (fun beats =>
      holdComplete (recordHeader 256 (mergeBeats beats { recordOf [] with serial := none }))) = [false, true] :=
  ⟨⟨ready_of (by decide +kernel) rfl, ⟨(witness_slotOnly .filling).1, (witness_slotOnly .filling).2⟩,
    by decide +kernel, by decide +kernel, by decide +kernel, by decide⟩,
    by decide +kernel, by decide +kernel⟩

/-- The hypotheses of HoldsTakeBytesAndHeaders: byte 31 not written, and written. -/
theorem witness_HoldsTakeBytesAndHeaders :
    (31 < (recordOf []).bytes.length) ∧ (∃ i < 32, (recordOf (zeros 31)).bytes.getD i none = none) ∧
      ∀ i < 32, ((recordOf (zeros 32)).bytes.getD i none).isSome = true :=
  ⟨by decide +kernel, ⟨31, by decide, by decide +kernel⟩, by decide +kernel⟩

/-- A pass-through burst of one plain beat. -/
def plainBurst : Burst := ⟨.passThrough, 0x2000, .write [beat]⟩

/-- An entry of one burst. -/
def oneBurst (kind : EntryKind) : Entry := ⟨kind, [⟨.internal kind true, 0x40000, .write [beat]⟩]⟩

/-- The idle part with both requesters waiting, and bursts of a time before a reset and of now waiting for answers. -/
def contested (old now : Nat) : State :=
  { idle with path := { idle.path with
    stream := [plainBurst]
    queue := [oneBurst (.statusBlock 4)]
    abandoned := List.replicate old plainBurst
    outstanding := List.replicate now plainBurst } }

/-- The hypotheses of GrantFollowsTheTurn, in each of its cases: 16 bursts waiting, 15, none, and either turn. -/
theorem witness_GrantFollowsTheTurn :
    (Quiet (contested 8 8) ∧
      16 ≤ (contested 8 8).path.abandoned.length + (contested 8 8).path.outstanding.length) ∧
    (Quiet (contested 8 7) ∧ (contested 8 7).path.turnInternal = true ∧
      (contested 8 7).path.abandoned.length + (contested 8 7).path.outstanding.length < 16) ∧
    (Quiet idle ∧ idle.path.stream = [] ∧ idle.path.queue = []) ∧
    Quiet { contested 0 0 with path := { (contested 0 0).path with turnInternal := false } } := by
  and_intros <;> decide +kernel

/-- The idle part with a burst waiting for its answer, for a transaction that waits for `n` answers. -/
def answering (b : Burst) (n : Nat) : State :=
  { idle with path := { idle.path with outstanding := [b], accepted := [⟨false, n, false, []⟩] } }

/-- The idle part with a burst issued before a reset. -/
def abandoned (b : Burst) : State := { idle with path := { idle.path with abandoned := [b] } }

/-- The hypotheses of AnswersReachMemory: a write and a read, of now and of a time before a reset, a summary's among
them; the last burst of an entry, and one before it. -/
theorem witness_AnswersReachMemory :
    (∀ b ∈ [plainBurst, ⟨.passThrough, 0, .read 1⟩], Quiet (answering b 1) ∧
      ((answering b 1).path.abandoned ++ (answering b 1).path.outstanding).head? = some b) ∧
    (∀ b ∈ [plainBurst, ⟨.internal .summary true, 0, .write [beat]⟩], Quiet (abandoned b) ∧
      (abandoned b).path.abandoned = [b]) ∧
    (∀ last, Quiet (answering ⟨.internal .summary last, 0, .write [beat]⟩ 1) ∧
      NoneAcceptable (answering ⟨.internal .summary last, 0, .write [beat]⟩ 1)) ∧
    Quiet idle ∧ idle.path.abandoned = [] ∧ idle.path.outstanding = [] := by
  and_intros <;> decide +kernel

/-- The hypotheses of PassThroughAnswersCompleteTransactions: a last answer, and one before it, of a plain and of a
status burst; and a transaction before it that is complete. -/
theorem witness_PassThroughAnswersCompleteTransactions :
    (∀ b ∈ [plainBurst, ⟨.passThrough, 0x40280, .write [beat]⟩], ∀ n ∈ [1, 2], Quiet (answering b n)) ∧
    (∀ b ∈ [plainBurst, ⟨.passThrough, 0x40280, .write [beat]⟩], ∀ n ∈ [1, 2],
      (answering b n).path.abandoned = [] ∧ (answering b n).path.outstanding = [b] ∧ b.origin = .passThrough ∧
        (answering b n).path.accepted = [] ++ ⟨false, n, false, []⟩ :: [] ∧ n ≠ 0) ∧
    Quiet { answering plainBurst 1 with
      path := { (answering plainBurst 1).path with accepted := [⟨false, 0, false, []⟩, ⟨true, 1, false, []⟩] } } := by
  and_intros <;> decide +kernel

/-- The live part with two RELEASED slots, shown a return word of W0 with a consumed index, or of STORE. -/
def returned (ch : Nat) (index : Nat) (strobes : BitVec 8) : State :=
  { live .free with
    intake := ⟨⟨.released :: .released :: List.replicate 14 .free, 2, 0, 0⟩ :: List.replicate 3 WindowSlots.none, [], 0⟩
    report := [⟨true, 2, 1, false, true, false, false, false, 0, 0, Counts.zero, Counts.zero, .clear, .clear⟩,
      Channel.reset false, Channel.reset false, Channel.reset false,
      ⟨true, 2, 1, false, true, false, false, false, 0, 0, Counts.zero, Counts.zero, .reported, .clear⟩]
    path := { idle.path with
      shownReturns := [⟨ch, ⟨BitVec.ofNat 64 (1 + 65536 * index), strobes⟩⟩] } }

/-- The hypotheses of ReturnWordsFreeSlots: the release index itself is in the span, the one beyond it is not. -/
theorem witness_ReturnWordsFreeSlots :
    (Quiet (returned 0 2 255) ∧ (channelAt (returned 0 2 255) 0).present = true ∧
      (returned 0 2 255).intake.windows.length = 4 ∧
      (2 - (windowSlots (returned 0 2 255) 0).consumed).toNat ≤
        ((windowSlots (returned 0 2 255) 0).release - (windowSlots (returned 0 2 255) 0).consumed).toNat) ∧
    (Quiet (returned 0 3 255) ∧
      ((windowSlots (returned 0 3 255) 0).release - (windowSlots (returned 0 3 255) 0).consumed).toNat <
        (3 - (windowSlots (returned 0 3 255) 0).consumed).toNat) ∧
    (Quiet (returned 0 2 127) ∧ (127 : BitVec 8) ≠ 255) ∧
    (Quiet (returned 1 0 255) ∧ (channelAt (returned 1 0 255) 1).present = false) ∧
    Quiet idle ∧ idle.path.shownReturns = [] := by
  and_intros <;> decide +kernel

/-- The same with no content taken before. -/
def returnedEarly : State := { returned 4 0 255 with report := (live .free).report }

/-- The hypotheses of ReturnWordsAcknowledgeTheBlock: tag 1 is the reported tag of STORE, and 0 is no tag. -/
theorem witness_ReturnWordsAcknowledgeTheBlock :
    (Quiet (returned 4 0 255) ∧ (channelAt (returned 4 0 255) 4).reportedTag = 1 ∧
      (channelAt (returned 4 0 255) 4).present = true) ∧
    Quiet returnedEarly ∧ (channelAt returnedEarly 4).reportedTag = 0 := by decide +kernel

/-- The live part shown a beat of the directive ring. -/
def shown (offset : Nat) : State :=
  { live .free with path := { idle.path with shownDirectives := [⟨offset, beat⟩] } }

/-- The hypotheses of DirectiveBeatsAreTaken: an index word, and the first beat and the last one of the ring. -/
theorem witness_DirectiveBeatsAreTaken :
    Quiet (shown 0x2a8) ∧ (∀ x ∈ (shown 0x400).path.shownDirectives.head?, x.offset ≠ 0x2a8) ∧
    (∀ offset ∈ [0x400, 0x5f8], Quiet (shown offset) ∧ 0x400 ≤ offset ∧ offset < 0x600 ∧ offset % 8 = 0) ∧
    (shown 0x400).directives.captures.length = 16 ∧ (∀ c ∈ (shown 0x400).directives.captures, c.length = 32) ∧
    ∀ x ∈ (shown 0x2a8).path.shownDirectives.head?, x.offset = 0x2a8 := by
  and_intros <;> decide +kernel

/-- The live part with a delivered acknowledgement. -/
def acknowledged (kind : EntryKind) (okay : Bool) : State :=
  { live .writing with path := { idle.path with acks := [⟨kind, okay⟩] } }

/-- The hypotheses of SlotAcknowledgementsRelease, of a write-back and of a void record. -/
theorem witness_SlotAcknowledgementsRelease :
    Quiet (acknowledged (.writeBack 0 0) true) ∧ Quiet (acknowledged (.voidRecord 0 0) false) ∧
      0 < (acknowledged (.voidRecord 0 0) false).intake.windows.length := by decide +kernel

/-- A close whose summary has been issued. -/
def closing : Close := ⟨Batch.fresh 1 false, .noNextKey, some true, none⟩

/-- The part with that close and its acknowledgement delivered. -/
def summaryDone : State :=
  { acknowledged .summary true with totals := { idle.totals with close := some closing } }

/-- The hypotheses of ReportingAcknowledgementsAreTaken, of each of its acknowledgements and of none. -/
theorem witness_ReportingAcknowledgementsAreTaken :
    (∀ okay, Quiet (acknowledged (.statusBlock 4) okay)) ∧
    4 < (acknowledged (.statusBlock 4) true).report.length ∧
    (channelAt (acknowledged (.statusBlock 4) true) 4).armed =
      !(channelAt (acknowledged (.statusBlock 4) true) 4).pending ∧
    (Quiet summaryDone ∧ summaryDone.totals.close = some closing) ∧
    Quiet (acknowledged .directiveResult true) ∧ Quiet idle ∧ idle.path.acks = [] := by
  and_intros <;> decide +kernel

/-- The live part with one directive. -/
def directing (code flags lane : Nat) : State := withDirective code flags lane (live .free)

/-- The hypotheses of BatchCloseStartsTheClose, with and without a roll, with and without a staged key. -/
theorem witness_BatchCloseStartsTheClose :
    (∀ flags ∈ [0, 1], TakeDone (directing 1 flags 0) ∧
      (directing 1 flags 0).directives.done ≠ (directing 1 flags 0).directives.producer ∧
      (directing 1 flags 0).directives.inProgress = none ∧
      codeOf (doneCapture (directing 1 flags 0).directives) = .batchClose ∧
      (captureByte (doneCapture (directing 1 flags 0).directives) 1).getLsbD 0 = decide (flags = 1)) ∧
    (TakeDone (withKeys (loadedKeys 1 257) (directing 1 1 0)) ∧
      (withKeys (loadedKeys 1 257) (directing 1 1 0)).keys.store.next.state = .loaded) ∧
    (directing 1 1 0).keys.store.next.state ≠ .loaded := by decide +kernel

/-- The hypotheses of LaneDirectivesChangeTheirLane, with the last lane there is and the first there is not. -/
theorem witness_LaneDirectivesChangeTheirLane :
    ∀ lane ∈ [47, 48], ∀ code ∈ [(2, DirectiveCode.laneSuspend), (3, .laneResume), (4, .laneForget)],
      TakeDone (directing code.1 0 lane) ∧
      (directing code.1 0 lane).directives.done ≠ (directing code.1 0 lane).directives.producer ∧
      (directing code.1 0 lane).directives.inProgress = none ∧
      (captureByte (doneCapture (directing code.1 0 lane).directives) 2).toNat = lane ∧
      codeOf (doneCapture (directing code.1 0 lane).directives) = code.2 := by decide +kernel

/-- A part whose directive lacks byte 7. -/
def unfinished : State :=
  { directing 5 0 0 with
    directives := { (directing 5 0 0).directives with
      captures := updAt (directing 5 0 0).directives.captures 0 fun c => updAt c 7 fun _ => none } }

/-- The hypotheses of OtherDirectivesEndAtOnce, in each of its cases. -/
theorem witness_OtherDirectivesEndAtOnce :
    (TakeDone (directing 5 0 0) ∧ (directing 5 0 0).directives.done ≠ (directing 5 0 0).directives.producer ∧
      (directing 5 0 0).directives.inProgress = none ∧
      codeOf (doneCapture (directing 5 0 0).directives) = .statusNow) ∧
    (∀ code ∈ [0, 6], TakeDone (directing code 0 0) ∧ codeOf (doneCapture (directing code 0 0).directives) = .unknown) ∧
    (TakeDone unfinished ∧ ∃ i < 8, (doneCapture unfinished.directives).getD i none = none) ∧
    (∀ i < 8, ((doneCapture (directing 1 0 0).directives).getD i none).isSome = true) ∧
    TakeDone idle ∧ idle.directives.done = idle.directives.producer := by
  refine ⟨by decide +kernel, by decide +kernel, ⟨by decide +kernel, 7, by decide, by decide +kernel⟩, by decide +kernel,
    by decide +kernel, rfl⟩

/-- The hypotheses of SweepsReachEveryBlock. -/
theorem witness_SweepsReachEveryBlock :
    Quiet idle ∧ idle.phase = .running ∧ State.reset.phase ≠ .running := by decide +kernel

/-- The hypotheses of HoldsExpireInOrder: a hold whose age is the expiry of 3 sweeps, and one a sweep younger. -/
theorem witness_HoldsExpireInOrder :
    nextExpiring { filling with sweepCount := 3 } = some { recordOf [] with serial := none } ∧
      nextExpiring { filling with sweepCount := 2 } = none := by decide +kernel

/-- A part with a gap of some age before a DONE slot. -/
def gapped (age : Nat) : State :=
  { live .free with
    intake := ⟨⟨.free :: .done :: List.replicate 14 .free, 0, 0, age⟩ :: List.replicate 3 WindowSlots.none, [], 0⟩ }

/-- The hypotheses of GapsAreFilledWithVoidRecords: a gap of the expiry age, and one a sweep younger. -/
theorem witness_GapsAreFilledWithVoidRecords :
    ((gapped 3).settings.holdExpiry ≤ (windowSlots (gapped 3) 0).gapAge ∧
      (windowSlots (gapped 3) 0).slots[0]? = some .free) ∧
    (windowSlots (gapped 2) 0).gapAge < (gapped 2).settings.holdExpiry := by decide +kernel

/-- A lane that waits for a confirm until sweep 7. -/
def confirmingLane : Lane :=
  { Lane.reset with
    state := .confirming
    offer := some ⟨⟨true, true⟩, 4, zeros 8⟩
    agreement := some ⟨⟨true, false⟩, 0, zeros 8⟩
    deadline := some 7 }

/-- The hypotheses of LanesTimeOutAndFallSilent, at the deadline and before it, at the threshold and before it. -/
theorem witness_LanesTimeOutAndFallSilent :
    ((withLane 47 confirmingLane { idle with sweepCount := 7 }).lanes.entries[47]? = some confirmingLane ∧
      confirmingLane.state = .confirming ∧ confirmingLane.deadline = some 7) ∧
    confirmingLane.deadline ≠ some 6 ∧
    (withLane 0 { enrolledLane with silentDue := true } idle).lanes.entries[0]? =
      some { enrolledLane with silentDue := true } ∧
    enrolledLane.silentDue = false ∧ Quiet idle ∧ idle.phase = .running := by decide +kernel

/-- The live part with a change to the channel of W0. -/
def channelled (f : Channel → Channel) : State := { live .free with report := updAt (live .free).report 0 f }

/-- The hypotheses of DueChannelsIssueTheirBlocks, in each of its cases: owed, 8 releases, the coalesce time of one
sweep; a sweep less, in flight, and a channel that does not exist; and a block that waits for room. -/
theorem witness_DueChannelsIssueTheirBlocks :
    (∀ f ∈ [fun c : Channel => { c with owed := true }, fun c => { c with releases := 8 },
        fun c => { c with dirty := true, sweeps := 1 }], SweepDone (channelled f) ∧
      issueDue (channelled f).settings 0 (channelAt (channelled f) 0) = true) ∧
    ((channelAt (channelled fun c => { c with dirty := true, sweeps := 1 }) 0).dirty = true ∧
      (live .free).settings.coalesceTime ≤
        (channelAt (channelled fun c => { c with dirty := true, sweeps := 1 }) 0).sweeps) ∧
    (∀ f ∈ [fun c : Channel => { c with dirty := true }, fun c => { c with owed := true, inFlight := true }],
      issueDue (channelled f).settings 0 (channelAt (channelled f) 0) = false) ∧
    (channelAt (live .free) 1).present = false ∧
    ({ live .free with path := { idle.path with waiting := [oneBurst (.statusBlock 0)] } } : State).path.queue.length <
      32 ∧
    sweepPending (gapped 3) = true ∧ sweepPending (gapped 2) = false := by decide +kernel

/-- ChannelDue says what `issueDue` computes, of a channel that owes. -/
theorem witness_ChannelDue :
    ChannelDue (channelled fun c => { c with owed := true }) 0 ∧ ¬ChannelDue (live .free) 0 :=
  ⟨⟨by decide +kernel, by decide +kernel, .inl (by decide +kernel)⟩, fun h => by
    rcases h.2.2 with o | o | o
    · exact absurd o (by decide +kernel)
    · exact absurd o.2 (by decide +kernel)
    · exact absurd o.1 (by decide +kernel)⟩

/-- The hypotheses of CountsAndTotalsSaturate: a channel that exists and one that does not; R164 at its bound. -/
theorem witness_CountsAndTotalsSaturate :
    (Channel.reset true).present = true ∧ (Channel.reset false).present = false ∧
      (countOn .wrapped 2 { Channel.reset true with counts := { Counts.zero with wrapped := 65534 } }).counts.wrapped =
        65535 := by
  decide

/-! ### Witnesses: the engine -/

/-- Takes, as its parts. -/
theorem takes_of {s : State} {h : Hold} (t : ReportsDone s)
    (u : s.engine.work = none ∧ nextEntry s = some entry ∧ holdOf s entry.window entry.slot = some h) :
    Takes s entry h := ⟨t, u.1, u.2.1, u.2.2⟩

/-- A record in work at its stage. -/
theorem engineAt_of {w : Work} {h : Hold} (q : Quiet (engaged w h))
    (g : holdOf (engaged w h) w.window w.slot = some h) : EngineAt (engaged w h) w.stage w h := ⟨q, rfl, rfl, g⟩

/-- A PLAIN record. -/
def plainRecord : Hold := recordOf (header 1 1 200 32 0)

/-- The hypotheses of EngineTakesTheFirst: a take, a part at work that waits for others, an empty queue. -/
theorem witness_EngineTakesTheFirst :
    Takes (taking plainRecord) entry plainRecord ∧
      (∀ st ∈ [Stage.write, .reservation], EngineAt (engaged (inWork st) plainRecord) st (inWork st) plainRecord) ∧
      ReportsDone idle ∧ idle.engine.work = none ∧ idle.engine.queue = [] :=
  ⟨takes_of (by decide +kernel) (by decide +kernel), by
    intro st hst
    refine engineAt_of (w := inWork st) ?_ ?_ <;> revert st <;> decide +kernel, by decide +kernel, rfl, rfl⟩

/-- Shaped, as its parts. -/
theorem shaped_of {h : Hold} (a : 1 ≤ headerKind h ∧ headerKind h ≤ 5 ∧ headerVersion h = 1 ∧ h.lengthFault = false)
    (b : minimumLength (headerKind h) ≤ headerLength h) : Shaped h := by
  refine ⟨⟨a.1, a.2.1⟩, a.2.2.1, a.2.2.2, ?_⟩
  generalize headerKind h = k at b
  refine ⟨?_, ?_, ?_, ?_, ?_⟩ <;> rintro rfl <;> exact b

/-- Card records of lane 5 as the judge stage meets them: expired, with and without a length fault; kinds 0 and 6;
version 2; a length one below the minimum; PLAIN; lane 48; and a clear and a sealed record of lane 5. -/
def judged : List Hold :=
  [{ recordOf [] with expired := true }, { recordOf (header 1 1 5 31 0) with expired := true },
    recordOf (header 0 1 5 32 0), recordOf (header 6 1 5 32 0), recordOf (header 1 2 5 32 0),
    recordOf (header 2 1 5 119 0 ++ zeros 87), plainRecord, recordOf (header 2 1 48 120 0 ++ zeros 88),
    clearRecord 41 goodBody, sealedRecord 8 (zeros 8)]

/-- Admission copies, each of which one test of R95 refuses: not ENROLLED, suspended, a kind not agreed, and the three
verdicts. -/
def refusedCopies : List Admission :=
  [{ admittedCopy with state := .faulted }, { admittedCopy with suspended := true },
    { admittedCopy with kinds := ⟨false, true⟩ }, { admittedCopy with kinds := ⟨true, false⟩ },
    { admittedCopy with verdict := .badSeq }, { admittedCopy with verdict := .duplicate },
    { admittedCopy with verdict := .stale }]

/-- The hypotheses of JudgeStageDecides, in each of its cases. -/
theorem witness_JudgeStageDecides :
    (∀ h ∈ judged, EngineAt (engaged (inWork .judge) h) .judge (inWork .judge) h) ∧
    (∀ a ∈ refusedCopies, EngineAt (engaged { inWork .judge with admission := some a } (clearRecord 41 goodBody)) .judge
      { inWork .judge with admission := some a } (clearRecord 41 goodBody)) ∧
    (recordOf (header 1 1 5 31 0)).lengthFault = true ∧ (recordOf []).lengthFault = false ∧
    (headerKind (recordOf (header 0 1 5 32 0)) < 1 ∧ 5 < headerKind (recordOf (header 6 1 5 32 0))) ∧
    headerVersion (recordOf (header 1 2 5 32 0)) ≠ 1 ∧ ¬Shaped (recordOf (header 2 1 5 119 0 ++ zeros 87)) ∧
    Shaped plainRecord ∧ Shaped (recordOf (header 2 1 48 120 0 ++ zeros 88)) ∧
    47 < headerLane (recordOf (header 2 1 48 120 0 ++ zeros 88)) ∧
    (Shaped (clearRecord 41 goodBody) ∧ headerLane (clearRecord 41 goodBody) = 5) ∧
    CopyAdmits 2 admittedCopy ∧ CopyAdmits 3 admittedCopy := by
  refine ⟨fun h hh => engineAt_of ?_ ?_, fun a ha => engineAt_of (w := { inWork .judge with admission := some a }) ?_ ?_,
    by decide +kernel, by decide +kernel, by decide +kernel, by decide +kernel, fun sh => ?_,
    shaped_of (by decide +kernel) (by decide +kernel), shaped_of (by decide +kernel) (by decide +kernel),
    by decide +kernel, ⟨shaped_of (by decide +kernel) (by decide +kernel), by decide +kernel⟩,
    ⟨rfl, rfl, ⟨fun _ => rfl, fun _ => rfl⟩, rfl⟩, ⟨rfl, rfl, ⟨fun _ => rfl, fun _ => rfl⟩, rfl⟩⟩
  · revert h; decide +kernel
  · revert h; decide +kernel
  · revert a; decide +kernel
  · revert a; decide +kernel
  · exact absurd (sh.minimum.2.1 (by decide +kernel)) (by decide +kernel)

/-- The lane tag of the sealed record with lane counter 8. -/
def rightTag : List Byte :=
  laneTag (laneWorkingKeys (zeros 16) 5 8 4).2 (zeros 88) 3 5 0 41 0 8

/-- A record at the unsealing stage, with the lane working keys. -/
def unsealing : Work := { inWork .unseal with laneKeys := some (laneWorkingKeys (zeros 16) 5 8 4) }

/-- The hypotheses of SealedStagesDecide, in each of its cases: a lane key held and none; a lane counter equal to the
last one and one above it; a wrong tag and the right one. -/
theorem witness_SealedStagesDecide :
    EngineAt (engaged (inWork .laneKeys) (sealedRecord 8 (zeros 8))) .laneKeys (inWork .laneKeys)
      (sealedRecord 8 (zeros 8)) ∧
    (engaged (inWork .laneKeys) (sealedRecord 8 (zeros 8))).keys.store.lanes[5]? = some (keySlot .loaded 4) ∧
    KeySlot.empty.state ≠ .loaded ∧ (keySlot .loaded 4).id = admittedCopy.keyId.toNat ∧
    (∀ h ∈ [sealedRecord 7 (zeros 8), sealedRecord 8 (zeros 8), sealedRecord 8 rightTag],
      EngineAt (engaged unsealing h) .unseal unsealing h) ∧
    heldNat (sealedRecord 7 (zeros 8)) 32 4 ≤ admittedCopy.lastCounter ∧
    admittedCopy.lastCounter < heldNat (sealedRecord 8 rightTag) 32 4 ∧
    heldBytes (sealedRecord 8 rightTag) 128 8 = rightTag ∧ rightTag ≠ zeros 8 := by
  refine ⟨engineAt_of (by decide +kernel) (by decide +kernel), by decide +kernel, by decide, by decide,
    fun h hh => engineAt_of (w := unsealing) ?_ ?_, by decide +kernel, by decide +kernel, by decide +kernel,
    by decide +kernel⟩
  · revert h; decide +kernel
  · revert h; decide +kernel

/-- The example body is good, at the greatest amount too. -/
theorem bodyGood (body : List Byte)
    (a : 12 ≤ cardLength body ∧ cardLength body ≤ 19 ∧ (∀ b ∈ slice body 1 (cardLength body), b.toNat ≤ 9) ∧
      passesCheck (cardDigits body) = true)
    (f : (∀ b ∈ slice body 20 4, b.toNat ≤ 9) ∧
      (1 ≤ 10 * (bodyByte body 54).toNat + (bodyByte body 55).toNat ∧
        10 * (bodyByte body 54).toNat + (bodyByte body 55).toNat ≤ 12) ∧
      (∀ b ∈ slice body 24 3, b.toNat ≤ 9) ∧ bodyCurrency body ≤ 999 ∧ remainderLength body ≤ 47)
    (m : bodyAmount body ≤ 9999999999) : BodyGood body :=
  ⟨⟨⟨a.1, a.2.1⟩, a.2.2.1, a.2.2.2⟩, ⟨f.1, f.2.1, f.2.2.1, f.2.2.2.1, f.2.2.2.2⟩, m⟩

/-- Bytes of the example body replaced from a position of the body on. -/
def bodyWith (at_ : Nat) (bytes : List Byte) : List Byte := goodBody.take at_ ++ bytes ++ goodBody.drop (at_ + bytes.length)

/-- A record at a stage, with a body. -/
def bodied (st : Stage) (body : List Byte) : Work := { inWork st with body := some body }

/-- The hypotheses of BodyAndKeyStagesDecide, in each of its cases: a card number of 11 digits, a month 0, an amount one
above the greatest, no SURROGATE key, C below the mark, and C at the mark. -/
theorem witness_BodyAndKeyStagesDecide :
    (∀ body ∈ [goodBody, bodyWith 0 [11], bodyWith 23 [0], bodyWith 32 (leBytes 5 10000000000)],
      EngineAt (engaged (bodied .body body) plainRecord) .body (bodied .body body) plainRecord) ∧
    ¬CardNumberGood (bodyWith 0 [11]) ∧
    ¬FieldsGood (bodyWith 23 [0]) ∧
    9999999999 < bodyAmount (bodyWith 32 (leBytes 5 10000000000)) ∧
    BodyGood goodBody ∧ BodyGood (bodyWith 32 (leBytes 5 9999999999)) ∧
    (∀ k ∈ [KeyUnit.reset, loadedKeys 1 257, loadedKeys 257 257],
      Quiet (withKeys k (engaged (bodied .keys goodBody) plainRecord))) ∧
    KeyUnit.reset.store.surrogate.state = .empty ∧ KeyReady (loadedKeys 256 257) ∧
    ((loadedKeys 257 257).store.surrogate.state ≠ .empty ∧ (loadedKeys 257 257).store.current.state = .active ∧
      (loadedKeys 257 257).store.currentMark ≤ (loadedKeys 257 257).currentC) := by
  refine ⟨fun body hb => engineAt_of (w := bodied .body body) ?_ ?_, fun c => absurd c.length.1 (by decide +kernel),
    fun f => absurd f.month.1 (by decide +kernel), by decide +kernel,
    bodyGood _ (by decide +kernel) (by decide +kernel) (by decide +kernel),
    bodyGood _ (by decide +kernel) (by decide +kernel) (by decide +kernel), by decide +kernel, rfl,
    ⟨by decide, rfl, by decide⟩, by decide⟩
  · revert body; decide +kernel
  · revert body; decide +kernel

/-- What a record has captured, and what its commits have left. -/
def captured (st : Stage) : Work :=
  { bodied st goodBody with
    capture := some ⟨3, 1, zeros 16, zeros 16, zeros 16⟩
    products := some ⟨cardNumber, zeros 80, some 1, none⟩ }

/-- The hypotheses of RecordsAreCommittedAndConcluded, at each of its stages. -/
theorem witness_RecordsAreCommittedAndConcluded :
    (∀ st ∈ [Stage.compute, .totalsCommit, .conclude],
      EngineAt (engaged (captured st) (clearRecord 41 goodBody)) st (captured st) (clearRecord 41 goodBody)) ∧
    EngineAt (engaged { inWork .result with outcome := some (.noted, .none) } plainRecord) .result
      { inWork .result with outcome := some (.noted, .none) } plainRecord := by
  refine ⟨fun st hst => ?_, engineAt_of (w := { inWork .result with outcome := some (.noted, .none) })
    (by decide +kernel) (by decide +kernel)⟩
  refine engineAt_of (w := captured st) ?_ ?_ <;> revert st <;> decide +kernel

/-- The hypotheses of StagesReachOnlyTheirBlocks, at every stage. -/
theorem witness_StagesReachOnlyTheirBlocks :
    ∀ st ∈ [Stage.judge, .laneKeys, .unseal, .body, .keys, .reservation, .compute, .totalsCommit, .conclude, .result,
      .write], Quiet (engaged (captured st) (clearRecord 41 goodBody)) ∧
      holdOf (engaged (captured st) (clearRecord 41 goodBody)) 0 0 = some (clearRecord 41 goodBody) := by decide +kernel

/-- An offer record of lane 5: clear and sealed, key 4, nonce zeros. -/
def offerRecord : Hold := recordOf (header 4 1 5 48 0 ++ [3, 4, 0, 0] ++ zeros 12)

/-- A confirm record of lane 5 with clear kinds and key id 0. -/
def confirmRecord (answer : List Byte) : Hold := recordOf (header 5 1 5 56 0 ++ [1, 0, 0, 0] ++ zeros 8 ++ answer ++ zeros 4)

/-- An OFFERED lane with that offer. -/
def offeredLane : Lane := { Lane.reset with state := .offered, offer := some ⟨⟨true, true⟩, 4, zeros 8⟩ }

/-- An enrolment record of lane 5 in work, with an entry of the lane. -/
def enrolling (l : Lane) (h : Hold) : State := withLane 5 l (engaged (inWork .judge) h)

/-- The judge stage meets it. -/
theorem enrolling_of {l : Lane} {h : Hold} (q : Quiet (enrolling l h)) (g : holdOf (enrolling l h) 0 0 = some h) :
    EngineAt (enrolling l h) .judge (inWork .judge) h := ⟨q, rfl, rfl, g⟩

/-- An offer record of lane 5 of no kinds, and the OFFERED lane that holds that offer. -/
def offerOfNone : Hold := recordOf (header 4 1 5 48 0 ++ [0, 4, 0, 0] ++ zeros 12)
def offeredNone : Lane := { offeredLane with offer := some ⟨⟨false, false⟩, 4, zeros 8⟩ }

/-- The part with an identical second offer in work, and with SURROGATE EMPTY. -/
def offeredKeyless : State := withKeys KeyUnit.reset (enrolling offeredLane offerRecord)

/-- The hypotheses of OffersMoveTheLane, in each of its cases: noted, ANSWERED and
LANE_LOCKED, NO_COMMON_KIND for an offer of no kinds, and NO_KEY with SURROGATE EMPTY. -/
theorem witness_OffersMoveTheLane :
    (∀ l ∈ [Lane.reset, { offeredLane with offer := some ⟨⟨true, false⟩, 4, zeros 8⟩ }, offeredLane,
        { Lane.reset with state := .faulted, failures := 3 }, { Lane.reset with state := .faulted, failures := 4 }],
      EngineAt (enrolling l offerRecord) .judge (inWork .judge) offerRecord ∧
        (enrolling l offerRecord).lanes.entries[5]? = some l) ∧
    Shaped offerRecord ∧ headerKind offerRecord = 4 ∧ headerLane offerRecord = 5 ∧ offerRecord.expired = false ∧
    (enrolling offeredLane offerRecord).settings.policies[5]? = some ⟨true, false⟩ ∧
    (enrolling offeredLane offerRecord).keys.store.lanes[5]? = some (keySlot .loaded 4) ∧
    offerOf offerRecord = ⟨⟨true, true⟩, 4, zeros 8⟩ ∧
    (EngineAt (enrolling offeredNone offerOfNone) .judge (inWork .judge) offerOfNone ∧ Shaped offerOfNone ∧
      headerKind offerOfNone = 4 ∧ headerLane offerOfNone = 5 ∧ offerOfNone.expired = false ∧
      (enrolling offeredNone offerOfNone).lanes.entries[5]? = some offeredNone ∧
      (enrolling offeredNone offerOfNone).settings.policies[5]? = some ⟨true, false⟩ ∧
      (enrolling offeredNone offerOfNone).keys.store.lanes[5]? = some (keySlot .loaded 4) ∧
      offeredNone.state = .offered ∧ offeredNone.offer = some (offerOf offerOfNone) ∧
      (offerOf offerOfNone).kinds = ⟨false, false⟩) ∧
    EngineAt offeredKeyless .judge (inWork .judge) offerRecord ∧
    offeredKeyless.lanes.entries[5]? = some offeredLane ∧ offeredKeyless.settings.policies[5]? = some ⟨true, false⟩ ∧
    offeredKeyless.keys.store.lanes[5]? = some KeySlot.empty ∧ offeredLane.offer = some (offerOf offerRecord) ∧
    offeredKeyless.keys.store.surrogate.state = .empty := by
  refine ⟨fun l hl => ⟨enrolling_of ?_ ?_, ?_⟩, shaped_of (by decide +kernel) (by decide +kernel), by decide +kernel,
    by decide +kernel, by decide +kernel, by decide +kernel, by decide +kernel, by decide +kernel,
    ⟨enrolling_of (by decide +kernel) (by decide +kernel), shaped_of (by decide +kernel) (by decide +kernel),
      by decide +kernel, by decide +kernel, by decide +kernel, by decide +kernel, by decide +kernel, by decide +kernel,
      by decide, by decide +kernel, by decide +kernel⟩,
    ⟨by decide +kernel, rfl, rfl, by decide +kernel⟩, by decide +kernel, by decide +kernel, by decide +kernel,
    by decide +kernel, by decide +kernel⟩
  · revert l; decide +kernel
  · revert l; decide +kernel
  · revert l; decide +kernel

/-- The hypotheses of ConfirmsMoveTheLane, in each of its cases. -/
theorem witness_ConfirmsMoveTheLane :
    (∀ x ∈ [(confirmingLane, 0), (confirmingLane, 1), ({ confirmingLane with state := .enrolled }, 0), (Lane.reset, 0)],
      EngineAt (enrolling x.1 (confirmRecord (x.2 :: zeros 7))) .judge (inWork .judge) (confirmRecord (x.2 :: zeros 7))) ∧
    Shaped (confirmRecord (zeros 8)) ∧ headerKind (confirmRecord (zeros 8)) = 5 ∧
    headerLane (confirmRecord (zeros 8)) = 5 ∧
    (enrolling confirmingLane (confirmRecord (zeros 8))).lanes.entries[5]? = some confirmingLane ∧
    confirmingLane.agreement = some ⟨⟨true, false⟩, 0, heldBytes (confirmRecord (zeros 8)) 44 8⟩ ∧
    (confirmingLane.offer.map (·.nonce)) = some (heldBytes (confirmRecord (zeros 8)) 36 8) := by
  refine ⟨fun x hx => enrolling_of ?_ ?_, shaped_of (by decide +kernel) (by decide +kernel), by decide +kernel,
    by decide +kernel, by decide +kernel, by decide +kernel, by decide +kernel⟩
  · revert x; decide +kernel
  · revert x; decide +kernel

/-! ### Witnesses: entries, the store, the port, computation -/

/-- A PLAIN record whose output is built. -/
def built : Work := { inWork .write with outcome := some (.passed, .none), output := some (zeros 256) }

/-- The part at work with entries that wait. -/
def waitingFor (entries : List Entry) (full : Bool) : State :=
  { engaged built plainRecord with
    path := { idle.path with
      waiting := entries
      queue := if full then List.replicate 32 (oneBurst .summary) else [] } }

/-- A part with a built summary. -/
def summaryBuilt : State :=
  { idle with totals := { idle.totals with close := some { closing with summary := some (zeros 848) } } }

/-- The part whose directive has a result. -/
def resultKnown : State :=
  { idle with directives := { idle.directives with inProgress := some ⟨some .done, false⟩ } }

/-- The hypotheses of IssuesAddEntries, in each of its cases: producers that wait with room and without; an output with
room, and with none; a summary, a result, and nothing. -/
theorem witness_IssuesAddEntries :
    (∀ k ∈ [EntryKind.writeBack 0 0, .voidRecord 0 1, .summary, .directiveResult],
      (waitingFor [oneBurst k] false).path.queue.length < 32 ∧
      (waitingFor [oneBurst k] false).path.waiting = [oneBurst k]) ∧
    (∀ full, Quiet (waitingFor [] full) ∧ (waitingFor [] full).engine.work = some built) ∧
    (Quiet (waitingFor [oneBurst (.writeBack 0 0)] true) ∧
      32 ≤ (waitingFor [oneBurst (.writeBack 0 0)] true).path.queue.length) ∧
    (StoreDone summaryBuilt ∧ summaryBuilt.phase = .running ∧
      (summaryBuilt.totals.close.bind (·.summary)) = some (zeros 848)) ∧
    (SummaryDone resultKnown ∧ resultKnown.directives.inProgress = some ⟨some .done, false⟩) ∧
    (Quiet idle ∧ idle.engine.work = none ∧ idle.path.waiting = []) := by
  and_intros <;> decide +kernel

/-- The hypotheses of EntriesWriteTheirBytes: the 8 bytes of one beat, one whole burst, two bursts, and a summary. -/
theorem witness_EntriesWriteTheirBytes :
    ∀ n ∈ [8, 128, 136, 848], (zeros n).length % 8 = 0 ∧ zeros n ≠ [] := by decide +kernel

/-- A part with a store write in progress. -/
def writing (w : StoreWrite) : State := withKeys (loadedKeys 257 257) { idle with nv := { idle.nv with writing := some w } }

/-- A part with two requests. -/
def requesting : State := { idle with nv := { idle.nv with requests := [.imageLock, .erase] } }

/-- The hypotheses of StoreWritesBeginInOrder. -/
theorem witness_StoreWritesBeginInOrder :
    (DirectiveDone requesting ∧ requesting.phase = .running ∧ requesting.nv.writing = none ∧
      requesting.nv.requests = [.imageLock, .erase]) ∧
    (DirectiveDone (writing .erase) ∧ (writing .erase).nv.writing ≠ none) ∧
    (DirectiveDone idle ∧ idle.nv.requests = []) ∧ State.reset.phase ≠ .running := by
  and_intros <;> decide +kernel

/-- A reservation for the key in use. -/
def reservation : Reservation := ⟨3, 513, false, true⟩

/-- The hypotheses of StoreWritesEnd, for each write, with one in progress and none. -/
theorem witness_StoreWritesEnd :
    (∀ w ∈ [StoreWrite.keyStore KeyStore.empty (some reservation) false, .keyStore KeyStore.empty none true,
        .batchNumber 1, .imageGroup 4 [], .imageLock, .erase], Quiet (writing w)) ∧
      (writing .erase).keys.waiting = false ∧ Quiet idle ∧ idle.nv.writing = none := by decide +kernel

/-- The content of a reservation write for the key in use. -/
def reservedContent : KeyStore := { (loadedKeys 257 257).store with currentMark := 513 }

/-- A record at the reservation wait, with that write in progress. -/
def reserving (k : KeyUnit) : State :=
  { withKeys { k with waiting := true } (engaged (bodied .reservation goodBody) (clearRecord 41 goodBody)) with
    nv := { idle.nv with writing := some (.keyStore reservedContent (some reservation) false) } }

/-- The hypotheses of ReservationEndJudgesTheWait, in each of its cases: no key, a failure, a value below the raised
mark, and the last one; and C at the mark, where the reservation was made for another key. -/
theorem witness_ReservationEndJudgesTheWait :
    (∀ k ∈ [KeyUnit.reset, loadedKeys 257 257], Quiet (reserving k)) ∧
    (∀ k ∈ [KeyUnit.reset, loadedKeys 257 257], (reserving k).keys.waiting = true ∧
      (reserving k).engine.work = some (bodied .reservation goodBody) ∧
      holdOf (reserving k) 0 0 = some (clearRecord 41 goodBody)) ∧
    KeyUnit.reset.store.surrogate.state = .empty ∧
    KeyReady (keyWriteSettled (reserving (loadedKeys 257 257)) reservedContent (some reservation) false true).keys ∧
    KeyReady (keyWriteSettled (reserving (loadedKeys 1048575 1048575)) reservedContent
      (some { reservation with mark := 1048576 }) false true).keys ∧
    (keyWriteSettled (reserving (loadedKeys 257 257)) reservedContent (some { reservation with keyId := 9 }) false
      true).keys.store.currentMark ≤ 257 :=
  ⟨by decide +kernel, by decide +kernel, rfl, ⟨by decide +kernel, by decide +kernel, by decide +kernel⟩,
    ⟨by decide +kernel, by decide +kernel, by decide +kernel⟩, by decide +kernel⟩

/-- The hypotheses of FramesAreJudgedAndRefused: an open port, a closed one, and one with a write outstanding. -/
theorem witness_FramesAreJudgedAndRefused :
    Quiet idle ∧ idle.phase = .running ∧ State.reset.phase ≠ .running ∧
      Quiet { idle with port := { idle.port with outstanding := true } } ∧
      (0 : Byte).toNat ≤ ([] : List Byte).length ∧ ([] : List Byte).length < (1 : Byte).toNat ∧
      5 < (6 : Byte).toNat := by decide +kernel

/-- The open port with nothing outstanding, as QueryShowsTheStores, ImageFramesAreJudgedAndTaken and
EraseEmptiesTheKeyUnit ask. -/
theorem witness_QueryShowsTheStores : PortFree idle ∧ idle.keys.store.lanes.length = 48 ∧
    idle.settings.outcomes.length = 5 ∧ idle.keys.waiting = false :=
  ⟨⟨by decide +kernel, rfl, rfl⟩, by decide, by decide, rfl⟩

/-- The hypotheses of EraseEmptiesTheKeyUnit with a request that waits. -/
theorem witness_EraseEmptiesTheKeyUnit :
    PortFree (reserving (loadedKeys 257 257)) ∧ (reserving (loadedKeys 257 257)).keys.waiting = true ∧
      holdOf (reserving (loadedKeys 257 257)) 0 0 = some (clearRecord 41 goodBody) :=
  ⟨⟨by decide +kernel, rfl, rfl⟩, rfl, by decide +kernel⟩

/-- The part with every key but a free ACQ_CURRENT. -/
def loadable : State :=
  withKeys { loadedKeys 1 257 with store := { (loadedKeys 1 257).store with current := keySlot .spent 3 } } idle

/-- The hypotheses of LoadsAreJudgedAndTaken: a right check value; id 3, which has been active, and id 4, which has not;
an ACQ_CURRENT that is ACTIVE, and one that is not. -/
theorem witness_LoadsAreJudgedAndTaken :
    PortFree idle ∧ PortFree loadable ∧ loadable.keys.store.highestId = 3 ∧ loadable.keys.store.next.id = 9 ∧
      loadable.keys.store.current.state ≠ .active ∧
      (PortFree (withKeys (loadedKeys 1 257) idle) ∧ (loadedKeys 1 257).store.current.state = .active) ∧
      (transform (zeros 16) (List.replicate 16 0)).take 3 = checkValue (zeros 16) :=
  ⟨witness_QueryShowsTheStores.1, ⟨by decide +kernel, rfl, rfl⟩, rfl, rfl, by decide, ⟨⟨by decide +kernel, rfl, rfl⟩, rfl⟩,
    by decide +kernel⟩

/-- The hypotheses of ImageFramesAreJudgedAndTaken: a group 0 of words that sum to 0, of words that do not, and group 4
of the full 49 words; group 5. -/
theorem witness_ImageFramesAreJudgedAndTaken :
    ((13 : Byte).toNat = 1 + 2 * 6 ∧ (99 : Byte).toNat = 1 + 2 * 49) ∧ groupSound [0, 0, 0, 0, 0, 0] = true ∧
      groupSound [1, 0, 0, 0, 0, 0] = false ∧ groupSound [1, 65535] = true ∧ 4 < (5 : Byte).toNat := by decide

/-- The hypotheses of SurrogatesKeepTheEndsAndFailTheCheck: the shortest and the longest numbers; and of the drawing, a
source that yields all the shifts of the example number. -/
theorem witness_SurrogatesKeepTheEndsAndFailTheCheck :
    (∀ n ∈ [12, 19], 12 ≤ (List.replicate n 9).length ∧ (List.replicate n 9).length ≤ 19 ∧
      ∀ d ∈ List.replicate n 9, d ≤ 9) ∧
    cardNumber.length - 10 ≤ (sourceShifts (transform (zeros 16) (surrogateBlock cardNumber))).length := by decide +kernel

/-- The chaining values of one block of zeros. -/
def chainValues : List (List Byte) := [zeros 16, transform (zeros 16) (List.zipWith (· ^^^ ·) (zeros 16) (zeros 16))]

/-- The hypotheses of EnvelopesOpenAndTagsChain: the values of a chain of one block, an envelope and its body,
its ciphertext, sealed bytes, and a nonce. -/
theorem witness_EnvelopesOpenAndTagsChain :
    (chainValues.length = [zeros 16].length + 1 ∧ chainValues[0]? = some (List.replicate 16 0) ∧
      chainValues[1]? = some (transform (zeros 16) (List.zipWith (· ^^^ ·) (zeros 16) (zeros 16)))) ∧
    16 ≤ (zeros 16).length ∧ goodBody.length = 88 ∧ (goodBody.getD 0 0).toNat ≤ 19 ∧
    (goodBody.getD 40 0).toNat ≤ 47 ∧ (zeros 80).length = 80 ∧ (zeros 88).length = 88 ∧ (zeros 8).length = 8 := by
  decide +kernel

/-- The hypotheses of OutputsAreLaidOut: both slot sizes, the least and the greatest length. -/
theorem witness_OutputsAreLaidOut :
    ((256 : Nat) = 256 ∨ 256 = 512) ∧ 32 ≤ 32 ∧ 512 ≤ 512 ∧ cardNumber.length ≤ 19 ∧ (zeros 80).length = 80 ∧
      (zeros 8).length = 8 := by decide

/-- The hypotheses of VoidRecordsAreLaidOut. -/
theorem witness_VoidRecordsAreLaidOut : ((256 : Nat) = 256 ∨ 256 = 512) ∧ 3 ≤ 3 := by decide

/-- The hypotheses of BlocksAreLaidOut. -/
theorem witness_BlocksAreLaidOut :
    Settings.defaults.outcomes.length = 5 ∧ Settings.defaults.overlap.length = 4 ∧
      LaneTable.reset.entries.length = 48 ∧ (Batch.fresh 1 true).lanes.length = 48 ∧
      (keySlot .loaded 2).key.length = 16 := by decide

/-! ### Witnesses: the invariants -/

/-- A sound lane: R57's reset values. -/
theorem laneSound_reset : LaneSound Lane.reset := by constructor <;> decide

/-- The hypotheses of LanesStaySound. -/
theorem witness_LanesStaySound : LanesSound idle :=
  ⟨rfl, fun l h => by rw [List.eq_of_mem_replicate h]; exact laneSound_reset⟩

/-- The hypotheses of MemoryStaysCanonical, with something in memory. -/
theorem witness_MemoryStaysCanonical : MemoryCanonical { idle with dram := [(1, 5), (2, 6), (1048576, 0)] } := by
  unfold MemoryCanonical
  decide

/-- The acquirer slots of the loaded part. -/
theorem acquirerLegal_loaded : AcquirerLegal (loadedKeys 1 257).store :=
  ⟨by decide, .inr rfl, fun _ => by decide, fun _ => by decide⟩

/-- A part whose stored image is its working state. -/
def settled : State := withKeys (loadedKeys 1 257) { idle with nv := { idle.nv with keys := (loadedKeys 1 257).store } }

/-- The hypotheses of AcquirerSlotsStayLegal. -/
theorem witness_AcquirerSlotsStayLegal : AcquirersLegal settled := by
  intro k hk
  rcases List.mem_cons.mp hk with rfl | hk
  · exact acquirerLegal_loaded
  · rw [List.mem_singleton.mp hk]
    exact acquirerLegal_loaded

/-- The hypotheses of StoredMarksCoverTheCounter. -/
theorem witness_StoredMarksCoverTheCounter : MarksHold settled where
  idle h := rfl
  positive k hk _ := by
    rcases List.mem_cons.mp hk with rfl | hk
    · decide
    · rw [List.mem_singleton.mp hk]
      decide
  counter _ := by decide
  stored k hk _ := by
    rcases List.mem_cons.mp hk with rfl | hk
    · exact Nat.le_refl _
    · rw [List.mem_singleton.mp hk]
      exact Nat.le_refl _
  carried content r forPort h := by cases h

/-- A channel as R162 begins it. -/
theorem channelSound_reset (present : Bool) : ChannelSound (Channel.reset present) := by
  cases present <;> constructor <;> first | decide | exact .cons (by decide) (by repeat constructor)

/-- The hypotheses of ChannelsStaySound. -/
theorem witness_ChannelsStaySound : ChannelsSound idle :=
  ⟨rfl, fun c h => by rw [List.eq_of_mem_replicate h]; exact channelSound_reset false⟩

/-- The hypotheses of BuffersStayWithinTheirSizes, at their bounds: 8 transactions, 16 bursts and 16 holds. -/
theorem witness_BuffersStayWithinTheirSizes : BuffersFit crowded ∧ BuffersFit noHolds ∧ BuffersFit (contested 8 8) :=
  ⟨⟨by decide, by decide, by decide, by decide⟩, ⟨by decide, by decide, by decide, by decide⟩,
    ⟨by decide, by decide, by decide, by decide⟩⟩

/-- The states of the slots of a part whose first slot fills. -/
theorem slotState_filling (w slot : Nat) :
    slotState filling w slot = if w = 0 ∧ slot = 0 then some .filling
      else if w = 0 ∧ slot < 16 then some .free else none := by
  match w, slot with
  | 0, 0 => rfl
  | 0, slot + 1 =>
    show (List.replicate 15 SlotState.free)[slot]? = _
    rw [List.getElem?_replicate, if_neg (by omega : ¬(0 = 0 ∧ slot + 1 = 0))]
    by_cases h : slot < 15
    · rw [if_pos h, if_pos ⟨rfl, by omega⟩]
    · rw [if_neg h, if_neg (by omega)]
  | 1, _ => rfl
  | 2, _ => rfl
  | 3, _ => rfl
  | _ + 4, _ => rfl

/-- The hypotheses of IntakeStaysSound: a slot that fills, with its hold. -/
theorem witness_IntakeStaysSound : IntakeSound filling where
  closed h := absurd rfl h
  sizes w := by
    match w with
    | 0 => decide
    | 1 => decide
    | 2 => decide
    | 3 => decide
    | _ + 4 => exact Nat.succ_pos 255
  windows := rfl
  rings t ht := by
    rcases List.mem_cons.mp ht with rfl | ht
    · exact ⟨by decide, by decide, by decide⟩
    · rw [List.eq_of_mem_replicate ht]
      exact ⟨by decide, by decide, by decide⟩
  oneHold := by decide
  holds w slot := by
    rw [slotState_filling]
    constructor
    · rintro ⟨h, hh, rfl, rfl⟩
      rw [List.mem_singleton.mp hh]
      exact .inl rfl
    · intro h
      by_cases e : w = 0 ∧ slot = 0
      · exact ⟨_, List.mem_singleton.mpr rfl, e.1.symm, e.2.symm⟩
      · rw [if_neg e] at h
        split at h <;> simp [underWay, filling, live, idle, State.reset, PathFront.reset] at h
  index h hh := by rw [List.mem_singleton.mp hh]; decide
  queued := by
    refine ⟨.nil, fun w slot => ?_⟩
    rw [slotState_filling]
    constructor
    · intro h
      cases h
    · intro h
      split at h <;> try split at h
      all_goals cases h
  working w slot := by
    rw [slotState_filling]
    constructor
    · intro h
      split at h <;> try split at h
      all_goals cases h
    · rintro ⟨r, hr, -⟩
      cases hr
  writing := by
    refine ⟨.nil, fun w slot => ?_⟩
    rw [slotState_filling]
    constructor
    · intro h
      split at h <;> try split at h
      all_goals cases h
    · intro h
      cases h
  output r hr := by cases hr
  waits := ⟨by decide, fun e he => by cases he⟩
  stream b hb := by cases hb
  entries e he := by cases he

/-- The live map is legal. -/
theorem mapLegal_live : MapLegal liveMap where
  four := rfl
  windows w hw := by
    rcases List.mem_cons.mp hw with rfl | hw
    · exact ⟨by decide, by decide, by decide, by decide⟩
    · rw [List.eq_of_mem_replicate hw]
      exact ⟨by decide, by decide, by decide, by decide⟩
  status := by decide
  apart := by
    refine List.pairwise_cons.mpr ⟨fun w hw a h => ?_, ?_⟩
    · rw [List.eq_of_mem_replicate hw] at h
      exact absurd h.2 (by simp [inWindow, IntakeWindow.disabled])
    · refine List.pairwise_replicate.mpr (.inr fun a h => ?_)
      exact absurd h.2 (by simp [inWindow, IntakeWindow.disabled])
  clear _ w hw a low high := by
    rcases List.mem_cons.mp hw with rfl | hw
    · simp [inWindow, windowSpan, liveMap] at high ⊢
      omega
    · rw [List.eq_of_mem_replicate hw]
      simp [inWindow, IntakeWindow.disabled]

/-- The part with a plain burst and a status block that wait for the arbiter, and a slot that fills. -/
def carrying : State :=
  { filling with path := { filling.path with stream := [plainBurst], queue := [oneBurst (.statusBlock 4)] } }

/-- A burst of one beat that is not an intake beat is outside the windows. -/
theorem outside_of {m : WindowMap} {b : Burst} {c : BeatClass} (h : b.op = .write [beat]) (hc : classOf m b.addr = c)
    (n : ∀ w slot offset, c ≠ .intake w slot offset) : OutsideWindows m b := by
  intro beats hb i hi w slot offset
  cases h.symm.trans hb
  cases Nat.lt_one_iff.mp hi
  exact hc ▸ n w slot offset

/-- The burst of that block is outside the windows. -/
theorem outside_block (b : Burst) (h : b ∈ (oneBurst (.statusBlock 4)).bursts) : OutsideWindows liveMap b := by
  cases List.mem_singleton.mp h
  exact outside_of rfl rfl nofun

/-- The hypotheses of PathStaysSound: a plain burst and a status block wait for the arbiter, a slot fills. -/
theorem witness_PathStaysSound : PathSound carrying where
  map := mapLegal_live
  closed h := absurd rfl h
  status h := absurd h (by decide)
  summary c hc := by cases hc
  output r hr := by cases hr
  stream b hb := by
    cases List.mem_singleton.mp hb
    exact ⟨rfl, outside_of rfl rfl nofun⟩
  kinds e he b hb := by
    cases List.mem_singleton.mp he
    cases List.mem_singleton.mp hb
    exact ⟨true, rfl⟩
  waiting e he := by cases he
  head e he := by
    cases Option.mem_some.mp he
    exact ⟨[], outside_block⟩
  gone b hb := by cases hb

/-- A record sound at each stage. -/
theorem recordSound_captured (st : Stage)
    (h : st ∈ [Stage.body, .keys, .reservation, .compute, .totalsCommit, .conclude]) : RecordSound (captured st) where
  output := by revert st; decide
  outcome := by revert st; decide
  admitted _ := ⟨admittedCopy, rfl, rfl, rfl, rfl⟩
  body _ := by simp [captured, bodied]
  capture _ := by simp [captured]
  products _ := by simp [captured]
  batch _ p hp := by cases hp; simp
  wrapped r hr := by cases hr

/-- The hypotheses of WorkStaysSound, at every stage from the body on. -/
theorem witness_WorkStaysSound :
    ∀ st ∈ [Stage.body, .keys, .reservation, .compute, .totalsCommit, .conclude],
      WorkSound (engaged (captured st) (clearRecord 41 goodBody)) := fun st hst =>
  { record := fun w hw => by cases hw; exact recordSound_captured st hst
    request := fun h => by cases h
    waits := ⟨Nat.zero_le _, fun e he => by cases he⟩ }

end Sys2Proof.Tests
end

section
/-! SUPPORT. The elementary moves of the part: every command is a sequence of them. An invariant that each move keeps is
kept by every step, so a proof of one splits on the moves and never on the commands. -/

namespace Sys2Proof.Proofs

open Sys2Proof Sys2Proof.Machine Sys2Proof.Laws

/-! ### What issuing an entry leaves of the path front -/

/-- From `p` to `q` nothing but the internal write queue and the entries that wait for room has changed. -/
def QueuesOnly (p q : PathFront) : Prop := q = { p with queue := q.queue, waiting := q.waiting }

namespace QueuesOnly

variable {p q r : PathFront}

theorem refl (p : PathFront) : QueuesOnly p p := rfl

theorem trans (h : QueuesOnly p q) (k : QueuesOnly q r) : QueuesOnly p r := by
  unfold QueuesOnly at *
  rw [k, h]

theorem of_eq (h : q = p) : QueuesOnly p q := h ▸ refl p

theorem accepted (h : QueuesOnly p q) : q.accepted = p.accepted := by rw [h]

end QueuesOnly

variable (s : State)

/-- What adding an entry to the queue leaves of the path front. -/
theorem addEntry_path (e : Entry) : (addEntry e s).path = { s.path with queue := s.path.queue ++ [e] } := by
  unfold addEntry
  dsimp only
  split <;> rfl

/-- R9: an issued entry is added with room and no producer waiting, and waits otherwise. -/
theorem offerEntry_path (e : Entry) : (offerEntry e s).path = entryIssued s.path e := by
  unfold offerEntry entryIssued queueRoom
  by_cases room : s.path.queue.length < 32 ∧ s.path.waiting = []
  · simp [room, addEntry_path]
  · rw [if_neg room, if_neg (by simpa [List.isEmpty_iff] using room)]
    rfl

theorem entryIssued_queuesOnly (p : PathFront) (e : Entry) : QueuesOnly p (entryIssued p e) := by
  unfold entryIssued
  split <;> rfl

theorem issueStatus_path (ch : Nat) : (issueStatus ch s).path = entryIssued s.path
    (entryOfBytes (.statusBlock ch) (s.settings.map.statusBase + blockOffset ch) (blockContent s ch)) := by
  unfold issueStatus
  rw [offerEntry_path, (reportLanes_touches _ ch).path (by decide), (onChannel_touches s _ _).path (by decide)]

theorem reportChannel_queuesOnly (ch : Nat) : QueuesOnly s.path (reportChannel ch s).path := by
  unfold reportChannel
  split
  · exact issueStatus_path s ch ▸ entryIssued_queuesOnly _ _
  · exact .refl _

theorem reportDue_queuesOnly : QueuesOnly s.path (reportDue s).path := by
  unfold reportDue whenRunning
  split
  · generalize 5 = n
    induction n with
    | zero => exact .refl _
    | succ n ih => exact forBelow_succ n _ s ▸ ih.trans (reportChannel_queuesOnly _ n)
  · exact .refl _

theorem takeSlotWrites_queuesOnly (l : List SlotWrite) : QueuesOnly s.path (takeSlotWrites l s).1.path := by
  induction l generalizing s with
  | nil => exact .refl _
  | cons sw rest ih =>
    have taken : QueuesOnly s.path (takeSlotWrite sw s).path :=
      .of_eq ((takeSlotWrite_touches s sw).path (by decide))
    exact (taken.trans (reportDue_queuesOnly _)).trans (ih _)

/-! ### The moves -/

/-- R3 to R6: the path front's side of an accepted write, whose slot writes have been taken. -/
def placeWrite (map : WindowMap) (addr : BitVec 40) (beats : List Beat) (refused : Bool) (p : PathFront) : PathFront :=
  respond { p with
    stream := p.stream ++ (forwardRunsOf (classBeats map addr 0 beats)).map burstOfRun
    accepted := p.accepted ++ [⟨false, ((forwardRunsOf (classBeats map addr 0 beats)).map burstOfRun).length, refused, []⟩] }

theorem acceptWrite_eq (addr : BitVec 40) (beats : List Beat) :
    acceptWrite addr beats s = onPath (placeWrite s.settings.map addr beats
      (takeSlotWrites (slotWritesOf (classBeats s.settings.map addr 0 beats)) s).2)
      (takeSlotWrites (slotWritesOf (classBeats s.settings.map addr 0 beats)) s).1 := rfl

/-- What leading a record on can change: the intake unit is not among it. -/
abbrev recordFields : List Field := [.engine, .lanes, .keys, .totals, .report, .nv]

/-- One elementary move of the part while the command `c` is executed, with the fields of the state it can change. -/
inductive Move (c : Instr) : List Field → State → State → Prop where
  | addLongest (p : EntryKind → Bool) (s : State) : Move c [.path, .engine, .intake] s (addLongestWaiting p s)
  | expire (s : State) : Move c [.intake, .engine] s (expireNext s)
  | gap {w : Nat} (h : w < 4) (s : State) : Move c [.path, .engine, .intake, .report] s (fillGap w s)
  | timeout (lane : Nat) (s : State) : Move c [.lanes, .report] s (timeoutLane lane s)
  | silent (lane : Nat) (s : State) : Move c [.lanes, .report] s (silentLane lane s)
  | report {ch : Nat} (h : ch < 5) (s : State) : Move c statusFields s (reportChannel ch s)
  | take (s : State) : Move c [.intake, .engine] s (takeNext s)
  | directive {s : State} (due : directiveDue s.directives = true) :
      Move c directiveFields s (runDirective (codeOf (doneCapture s.directives)) s)
  | beginWrite {s : State} (open_ : s.phase = .running) : Move c [.nv] s (beginNextWrite s)
  | summary (s : State) : Move c [.path, .engine, .intake, .totals] s (summaryStep s)
  | result (s : State) : Move c [.path, .engine, .intake, .directives] s (resultStep s)
  | offer (o : Offered) (s : State) : Move c [.path] s (offerUpstream o s)
  | slotWrite (sw : SlotWrite) (s : State) : Move c [.intake, .engine, .report] s (takeSlotWrite sw s)
  | write (addr : BitVec 40) (beats : List Beat) (refused : Bool) {s : State} (h : canAccept s = true) :
      Move c [.path] s (onPath (placeWrite s.settings.map addr beats refused) s)
  | read (addr : BitVec 40) (length : Nat) {s : State} (h : canAccept s = true) :
      Move c [.path] s (acceptRead addr length s)
  | left (rest : List Offered) (s : State) : Move c [.path] s (onPath (fun p => { p with offered := rest }) s)
  | grant (s : State) : Move c [.path] s (onPath grantOne s)
  | discard {okay : Bool} {data : List Byte} {s : State} {b : Burst} {rest : List Burst}
      (hc : c = .downstreamAnswer okay data) (h : s.path.abandoned = b :: rest) :
      Move c [.path, .dram, .freeCount] s
        (abandonedMemory b okay (onPath (fun p => { p with abandoned := rest }) s))
  | answer {okay : Bool} {data : List Byte} {s : State} {b : Burst} {rest : List Burst}
      (hc : c = .downstreamAnswer okay data) (h : s.path.outstanding = b :: rest) :
      Move c [.path, .dram, .freeCount] s (answerMemory b okay
        (onPath (fun p => answerPath s.settings.map b okay data { p with outstanding := rest }) s))
  | returnWord (s : State) : Move c [.path, .intake, .lanes, .report] s (returnStep s)
  | index (s : State) : Move c [.path, .directives] s (indexStep s)
  | capture (s : State) : Move c [.path, .directives] s (captureStep s)
  | writeBackAck (s : State) : Move c [.path, .intake, .report] s (writeBackAckStep s)
  | voidAck (s : State) : Move c [.path, .intake, .report] s (voidAckStep s)
  | statusAck (s : State) : Move c [.path, .report] s (statusAckStep s)
  | summaryAck (s : State) : Move c [.path, .totals, .report, .directives] s (summaryAckStep s)
  | resultAck (s : State) : Move c [.path, .report, .directives] s (resultAckStep s)
  | stage (s : State) : Move c recordFields s (stageStep s)
  | writeBack (s : State) : Move c [.path, .engine, .intake] s (issueWriteBack s)
  | sweep {s : State} (open_ : s.phase = .running) :
      Move c [.sweepCount, .intake, .lanes, .report, .nv] s (sweepStep s)
  | frame (bytes : List Byte) (s : State) : Move c frameFields s (takeFrame bytes s)
  | storeEnd {completed : Bool} (hc : c = .storeWriteEnd completed) (s : State) :
      Move c (.port :: recordFields) s (endStoreWrite completed s)
  | reset {ph : Phase} {cause : ResetCause} (hc : c = .powerOn ∨ c = .resetLine) (closed : ph ≠ .running) (s : State) :
      Move c (commandFields .powerOn) s (resetPart ph cause s)
  | release {s : State} (hc : c = .resetRelease) (held : s.phase = .held) :
      Move c [.phase] s { s with phase := .starting }
  | start {s : State} (hc : c = .startUpEnd) (h : s.phase = .starting) :
      Move c [.phase, .settings, .intake, .keys, .totals, .report, .port] s (startBlocks s)
  | startWrite (hc : c = .startUpEnd) (s : State) : Move c [.nv] s (requestKeyWrite s)

/-! ### The footprint of a move -/

theorem handOutToRecord_record : Touches recordFields s (handOutToRecord s) := by
  have k := (keyChange_touches s handOutKey).mono (gs := recordFields) (by decide)
  exact ((k.andThen (requestKeyWrite_touches _) (by decide)).ite k).andThen (onWork_touches _ _) (by decide)

theorem runStage_record (h : Hold) (w : Work) : Touches recordFields s (runStage h w s) := by
  unfold runStage
  split
  · exact (judgeStage_touches s _ _).mono (by decide)
  · exact (resultStage_touches s _ _).mono (by decide)
  · exact (laneKeyStage_touches s _ _).mono (by decide)
  · exact (unsealStage_touches s _ _ _).mono (by decide)
  · exact (bodyStage_touches s _ _).mono (by decide)
  · exact ((decideHeaderOnly_touches s _ _ _).mono (by decide)).ite
      ((handOutToRecord_record s).ite ((waitForReservation_touches s).mono (by decide)))
  · exact (computeStage_touches s _ _ _).mono (by decide)
  · exact (totalsStage_touches s _ _ _).mono (by decide)
  · exact (concludeStage_touches s _ _ _ _).mono (by decide)
  · exact .refl _ _

theorem stageStep_record : Touches recordFields s (stageStep s) := by
  unfold stageStep
  split
  · split
    · exact runStage_record s _ _
    · exact .refl _ _
  · exact .refl _ _

theorem judgeWaiting_record (completed : Bool) : Touches recordFields s (judgeWaiting completed s) := by
  unfold judgeWaiting
  refine .ite (.refl _ _) ?_
  split
  · exact .refl _ _
  · exact ((endWaiting_touches s _ _).mono (by decide)).ite (((endWaiting_touches s _ _).mono (by decide)).ite
      ((handOutToRecord_record s).ite ((requestWrite_touches s _).mono (by decide))))

theorem keyWriteEnded_record (r : Option Reservation) (forPort completed : Bool) :
    Touches (.port :: recordFields) s (keyWriteEnded r forPort completed s) := by
  have k := (keyChange_touches s (endKeyWrite completed r)).mono (gs := .port :: recordFields) (by decide)
  have l := (k.andThen (portOutcome_touches _ completed) (by decide)).ite (c := forPort) k
  exact (l.andThen (judgeWaiting_record _ _) (by decide)).ite l

theorem endStoreWrite_record (completed : Bool) :
    Touches (.port :: recordFields) s (endStoreWrite completed s) := by
  unfold endStoreWrite
  split
  · next w _ =>
    refine ((onNv_touches s (endWriting w completed)).mono (by decide)).trans ?_
    cases w with
    | keyStore _ r forPort => exact keyWriteEnded_record _ r forPort completed
    | batchNumber _ => exact (numberWritten_touches _ completed).mono (by decide)
    | imageGroup _ _ => exact (portOutcome_touches _ completed).mono (by decide)
    | imageLock => exact (portOutcome_touches _ completed).mono (by decide)
    | erase => exact keyWriteEnded_record _ none true completed
  · exact .refl _ _

variable {c : Instr} {s} {t : State} {fs : List Field}

/-- A move changes no field outside those it names. -/
theorem Move.touches (h : Move c fs s t) : Touches fs s t := by
  cases h with
  | addLongest p => exact addLongestWaiting_touches s p
  | expire => exact expireNext_touches s
  | gap => exact fillGap_touches s _
  | timeout lane => exact timeoutLane_touches s lane
  | silent lane => exact silentLane_touches s lane
  | report => exact reportChannel_touches s _
  | take => exact takeNext_touches s
  | directive => exact runDirective_touches s _
  | beginWrite => exact beginNextWrite_touches s
  | summary => exact summaryStep_touches s
  | result => exact resultStep_touches s
  | offer o => exact offerUpstream_touches s o
  | slotWrite sw => exact takeSlotWrite_touches s sw
  | write => exact onPath_touches s _
  | read => exact onPath_touches s _
  | left => exact onPath_touches s _
  | grant => exact onPath_touches s _
  | discard => exact ((onPath_touches s _).mono (by decide)).andThen (abandonedMemory_touches _ _ _) (by decide)
  | answer => exact ((onPath_touches s _).mono (by decide)).andThen (answerMemory_touches _ _ _) (by decide)
  | returnWord => exact returnStep_touches s
  | index => exact indexStep_touches s
  | capture => exact captureStep_touches s
  | writeBackAck => exact writeBackAckStep_touches s
  | voidAck => exact voidAckStep_touches s
  | statusAck => exact statusAckStep_touches s
  | summaryAck => exact summaryAckStep_touches s
  | resultAck => exact resultAckStep_touches s
  | stage => exact stageStep_record s
  | writeBack => exact issueWriteBack_touches s
  | sweep => exact sweepStep_touches s
  | frame bytes => exact takeFrame_touches s bytes
  | storeEnd => exact endStoreWrite_record s _
  | reset => exact resetPart_touches s _ _
  | release => constructor <;> simp
  | start => constructor <;> simp [startBlocks]
  | startWrite => exact requestKeyWrite_touches s

/-! ### Moves one after another -/

/-- Elementary moves one after another. -/
abbrev Moves (c : Instr) : State → State → Prop := Relation.ReflTransGen fun s t => ∃ fs, Move c fs s t

theorem Move.moves (h : Move c fs s t) : Moves c s t := .single ⟨fs, h⟩

/-- One more move. -/
theorem Moves.andMove {u : State} (h : Moves c s t) (k : Move c fs t u) : Moves c s u := h.tail ⟨fs, k⟩

theorem moves_ite {p : Prop} [Decidable p] {t u : State} (h : Moves c s t) (k : Moves c s u) :
    Moves c s (if p then t else u) := by split <;> assumption

theorem forBelow_moves {f : Nat → State → State} (n : Nat) (h : ∀ i < n, ∀ s, Move c fs s (f i s)) (s : State) :
    Moves c s (forBelow n f s) := by
  induction n with
  | zero => exact .refl
  | succ n ih =>
    rw [forBelow_succ]
    exact (ih fun i hi => h i (by omega)).andMove (h n (by omega) _)

theorem whenRunning_moves {f : State → State} (h : s.phase = .running → Moves c s (f s)) :
    Moves c s (whenRunning f s) := by
  unfold whenRunning
  split
  · exact h ‹_›
  · exact .refl

/-! ### The at-once steps are moves -/

theorem reportDue_moves (s : State) : Moves c s (reportDue s) :=
  whenRunning_moves fun _ => forBelow_moves 5 (fun _ h s => .report h s) s

theorem reportChannels_moves {n : Nat} (h : n ≤ 5) (s : State) : Moves c s (forBelow n reportChannel s) :=
  forBelow_moves n (fun _ hi s => .report (by omega) s) s

theorem finishSweep_moves (s : State) : Moves c s (finishSweep s) :=
  (((forBelow_moves _ (fun _ _ s => .expire s) s).trans (forBelow_moves 4 (fun _ h s => .gap h s) _)).trans
    (forBelow_moves 48 (fun l _ s => .timeout l s) _)).trans (forBelow_moves 48 (fun l _ s => .silent l s) _)

theorem settleSweep_moves (s : State) : Moves c s (settleSweep s) :=
  (forBelow_moves _ (fun _ _ s => .addLongest _ s) s).trans (finishSweep_moves _)

theorem settleReports_moves (s : State) : Moves c s (settleReports s) :=
  (settleSweep_moves s).trans (reportDue_moves _)

theorem settleTake_moves (s : State) : Moves c s (settleTake s) := (settleReports_moves s).andMove (.take _)

theorem takeDueDirective_moves (s : State) : Moves c s (takeDueDirective s) := by
  unfold takeDueDirective
  split
  · next due => exact (Move.directive due).moves
  · exact .refl

theorem settleDirective_moves (s : State) : Moves c s (settleDirective s) :=
  ((settleTake_moves s).trans (takeDueDirective_moves _)).trans (reportDue_moves _)

theorem settleStore_moves (h : s.phase = .running) : Moves c s (settleStore s) :=
  (settleDirective_moves s).andMove
    (.beginWrite (((settleDirective_touches s).phase (by decide)).trans h))

theorem settleSummary_moves (h : s.phase = .running) : Moves c s (settleSummary s) :=
  (settleStore_moves h).andMove (.summary _)

theorem settle_moves (s : State) : Moves c s (settle s) :=
  whenRunning_moves fun h => (settleSummary_moves h).andMove (.result _)

theorem event_moves {f : State → State} (h : ∀ s, Moves c s (f s)) (s : State) : Moves c s (event f s) :=
  ((settle_moves s).trans (h _)).trans (reportDue_moves _)

theorem reportOnceSwept_moves (s : State) : Moves c s (reportOnceSwept s) := moves_ite .refl (reportDue_moves s)

/-! ### The event bodies are moves -/

theorem takeSlotWrites_moves (l : List SlotWrite) (s : State) : Moves c s (takeSlotWrites l s).1 := by
  induction l generalizing s with
  | nil => exact .refl
  | cons sw rest ih => exact ((Move.slotWrite sw s).moves.trans (reportDue_moves _)).trans (ih _)

/-- The slot writes of an accepted write keep the port as open as it was, and the window map. -/
theorem takeSlotWrites_canAccept (l : List SlotWrite) (s : State) :
    canAccept (takeSlotWrites l s).1 = canAccept s := by
  unfold canAccept
  rw [(takeSlotWrites_touches s l).phase (by decide), (takeSlotWrites_queuesOnly s l).accepted]

theorem acceptOne_moves (o : Offered) (h : canAccept s = true) : Moves c s (acceptOne o s) := by
  cases o with
  | write addr beats =>
    change Moves c s (acceptWrite addr beats s)
    rw [acceptWrite_eq]
    generalize slotWritesOf (classBeats s.settings.map addr 0 beats) = l
    rw [← (takeSlotWrites_touches s l).settings (by decide)]
    exact (takeSlotWrites_moves l s).andMove (.write addr beats _ ((takeSlotWrites_canAccept l s).trans h))
  | read addr length => exact (Move.read addr length h).moves

theorem acceptFrom_moves (l : List Offered) (s : State) : Moves c s (acceptFrom l s) := by
  induction l generalizing s with
  | nil => exact (Move.left [] s).moves
  | cons o os ih =>
    unfold acceptFrom
    split
    · next h => exact (acceptOne_moves o h).trans (ih _)
    · exact (Move.left (o :: os) s).moves

theorem acceptOffered_moves (s : State) : Moves c s (acceptOffered s) := acceptFrom_moves _ s

theorem answerStep_moves (okay : Bool) (data : List Byte) (s : State) :
    Moves (.downstreamAnswer okay data) s (answerStep okay data s) := by
  unfold answerStep
  split
  · next h => exact (Move.discard rfl h).moves
  · split
    · next h => exact (Move.answer rfl h).moves.trans (acceptOffered_moves _)
    · exact .refl

theorem coalesceStep_moves {ch : Nat} (h : ch < 5) (s : State) : Moves c s (coalesceStep ch s) := by
  have moved := (Move.report (c := c) h s).moves
  unfold reportChannel at moved
  unfold coalesceStep
  by_cases due : issueDue s.settings ch (channelAt s ch) = true
  · rw [if_pos due] at moved
    exact moves_ite moved .refl
  · simp only [due, Bool.false_and, Bool.false_eq_true, if_false]
    exact .refl

theorem directiveCommand_moves (code : DirectiveCode) (s : State) : Moves c s (directiveCommand code s) := by
  refine Relation.ReflTransGen.trans ?_ (reportDue_moves _)
  refine (whenRunning_moves fun _ => settleTake_moves s).trans ?_
  generalize whenRunning settleTake s = u
  unfold directiveStep
  split
  · next h =>
    obtain ⟨due, rfl⟩ : directiveDue u.directives = true ∧ codeOf (doneCapture u.directives) = code := by
      simpa using h
    exact (Move.directive due).moves
  · exact .refl

theorem issueStep_moves (p : EntryKind → Bool) {act : State → State} (h : ∀ s, Moves c s (act s)) (s : State) :
    Moves c s (issueStep p act s) := moves_ite (Move.addLongest p s).moves (h s)

theorem endStartUp_moves (h : s.phase = .starting) : Moves .startUpEnd s (endStartUp s) := by
  have begun := (Move.start rfl h).moves
  exact ((moves_ite (begun.andMove (.startWrite rfl _)) begun).trans (reportDue_moves _)).trans (acceptOffered_moves _)

/-- Every command is a sequence of elementary moves. -/
theorem exec_moves (c : Instr) (s : State) : ∃ t, exec c s = .next t ∧ Moves c s t := by
  have one (f : State → State) {fs : List Field} (h : ∀ s, Move c fs s (f s)) : Moves c s (event f s) := event_moves (fun s => (h s).moves) s
  have offer (o : Offered) : Moves c s (event (fun s => acceptOffered (offerUpstream o s)) s) :=
    event_moves (fun s => (Move.offer o s).moves.trans (acceptOffered_moves _)) s
  have frame (bytes : List Byte) : Moves c s (event (takeFrame bytes) s) := one _ fun s => .frame bytes s
  have reports {n : Nat} (h : n ≤ 5) (s : State) : Moves c s (forBelow n reportChannel (whenRunning settleSweep s)) :=
    (whenRunning_moves fun _ => settleSweep_moves s).trans (reportChannels_moves h _)
  cases c with
  | powerOn => exact ⟨_, rfl, (settle_moves s).andMove (.reset (.inl rfl) (by decide) _)⟩
  | resetLine => exact ⟨_, rfl, (settle_moves s).andMove (.reset (.inr rfl) (by decide) _)⟩
  | resetRelease =>
    refine ⟨_, rfl, ?_⟩
    split
    · next held => exact (Move.release rfl held).moves
    · exact .refl
  | startUpEnd =>
    refine ⟨_, rfl, ?_⟩
    split
    · next h => exact endStartUp_moves h
    · exact .refl
  | upstreamWrite addr beats => exact ⟨_, rfl, offer _⟩
  | upstreamRead addr length => exact ⟨_, rfl, offer _⟩
  | downstreamGrant => exact ⟨_, rfl, one _ .grant⟩
  | downstreamAnswer okay data => exact ⟨_, rfl, event_moves (answerStep_moves okay data) s⟩
  | returnWord => exact ⟨_, rfl, one _ .returnWord⟩
  | directiveIndexWord => exact ⟨_, rfl, one _ .index⟩
  | directiveSlotWrite => exact ⟨_, rfl, one _ .capture⟩
  | writeBackAck => exact ⟨_, rfl, one _ .writeBackAck⟩
  | voidRecordAck => exact ⟨_, rfl, one _ .voidAck⟩
  | statusWriteAck => exact ⟨_, rfl, one _ .statusAck⟩
  | summaryAck => exact ⟨_, rfl, one _ .summaryAck⟩
  | directiveResultAck => exact ⟨_, rfl, one _ .resultAck⟩
  | batchClose => exact ⟨_, rfl, directiveCommand_moves _ s⟩
  | laneSuspend => exact ⟨_, rfl, directiveCommand_moves _ s⟩
  | laneResume => exact ⟨_, rfl, directiveCommand_moves _ s⟩
  | laneForget => exact ⟨_, rfl, directiveCommand_moves _ s⟩
  | statusNow => exact ⟨_, rfl, directiveCommand_moves _ s⟩
  | unknownCode => exact ⟨_, rfl, directiveCommand_moves _ s⟩
  | incomplete => exact ⟨_, rfl, directiveCommand_moves _ s⟩
  | sweep => exact ⟨_, rfl, (settle_moves s).trans (whenRunning_moves fun h => (Move.sweep h).moves)⟩
  | holdExpiry => exact ⟨_, rfl, (Move.expire s).moves.trans (reportOnceSwept_moves _)⟩
  | gapFill w =>
    exact ⟨_, rfl, (forBelow_moves _ (fun i h s => .gap (by omega) s) s).trans (reportOnceSwept_moves _)⟩
  | confirmTimeout lane => exact ⟨_, rfl, (Move.timeout _ s).moves.trans (reportOnceSwept_moves _)⟩
  | laneSilent lane => exact ⟨_, rfl, (Move.silent _ s).moves.trans (reportOnceSwept_moves _)⟩
  | coalesceTime ch => exact ⟨_, rfl, (reports (by omega) s).trans (coalesceStep_moves ch.isLt _)⟩
  | engineTake =>
    exact ⟨_, rfl, moves_ite ((whenRunning_moves fun _ => settleReports_moves s).andMove (.take _)) (one _ .stage)⟩
  | writeBackIssue => exact ⟨_, rfl, issueStep_moves _ (event_moves fun s => (Move.writeBack s).moves) s⟩
  | voidRecordIssue => exact ⟨_, rfl, (Move.addLongest _ s).moves⟩
  | statusWriteIssue ch =>
    exact ⟨_, rfl, issueStep_moves _ (fun s => (reports (by omega) s).andMove (.report ch.isLt _)) s⟩
  | summaryIssue => exact ⟨_, rfl, issueStep_moves _ (fun _ => whenRunning_moves settleSummary_moves) s⟩
  | directiveResultIssue => exact ⟨_, rfl, issueStep_moves _ settle_moves s⟩
  | storeWriteBegin => exact ⟨_, rfl, whenRunning_moves settleStore_moves⟩
  | storeWriteEnd completed => exact ⟨_, rfl, one _ (.storeEnd rfl)⟩
  | query length clocked => exact ⟨_, rfl, frame _⟩
  | loadKey length clocked => exact ⟨_, rfl, frame _⟩
  | loadImage length clocked => exact ⟨_, rfl, frame _⟩
  | lockImage length clocked => exact ⟨_, rfl, frame _⟩
  | erase length clocked => exact ⟨_, rfl, frame _⟩
  | emptyFrame => exact ⟨_, rfl, .refl⟩
  | badCommand command length clocked => exact ⟨_, rfl, frame _⟩
  | badFrame clocked => exact ⟨_, rfl, frame _⟩

/-! ### Invariants by moves -/

/-- What every move of a command keeps, the command keeps. -/
theorem exec_keeps {inv : State → Prop} {t : State} (keeps : ∀ fs s t, Move c fs s t → inv s → inv t)
    (h : exec c s = .next t) (start : inv s) : inv t := by
  obtain ⟨u, run, moves⟩ := exec_moves c s
  obtain rfl : u = t := by simpa [run] using h
  clear run h
  induction moves with
  | refl => exact start
  | tail _ last ih =>
    obtain ⟨fs, last⟩ := last
    exact keeps fs _ _ last ih

/-- What every move keeps, and the taking of a command off the queue, every step keeps. -/
theorem step_keeps {inv : State → Prop} {s t : State} (keeps : ∀ c fs s t, Move c fs s t → inv s → inv t)
    (taken : ∀ s rest, inv s → inv { s with pending := rest }) (h : step s = .next t) (start : inv s) : inv t := by
  unfold step at h
  split at h
  · obtain rfl : s = t := by simpa using h
    exact start
  · exact exec_keeps (keeps _) h (taken _ _ start)

end Sys2Proof.Proofs
end

section
/-! SUPPORT. The stores of the part: the record of memory, the settings and the stored image, and the commands that may
change them. -/

namespace Sys2Proof.Proofs

open Sys2Proof Sys2Proof.Machine Sys2Proof.Laws

/-! ### The record of memory (log 9) -/

theorem abandonedMemory_wf (b : Burst) (okay : Bool) (s : State) (h : Memory.wf s.dram = true) :
    Memory.wf (abandonedMemory b okay s).dram = true := by
  unfold abandonedMemory
  split
  · exact h
  · exact answerMemory_wf b okay s h

/-- Settles O52: of the moves, only the two answers put bytes into the record, in its canonical order. -/
theorem memoryStaysCanonical : Obligations.MemoryStaysCanonical := by
  intro s t start run
  refine step_keeps (inv := MemoryCanonical) (fun c fs s t move canonical => ?_) (fun _ _ h => h) run start
  have kept := move.touches
  cases move with
  | discard => exact abandonedMemory_wf _ _ _ canonical
  | answer => exact answerMemory_wf _ _ _ canonical
  | _ => exact (congrArg (fun m => Memory.wf m = true) (kept.dram (by decide))).mpr canonical

/-! ### The stored image (R130) -/

/-- What a stored image is: the store but for its requests and its write in progress. -/
def storedImage (n : NvStore) : NvStore := { n with requests := [], writing := none }

/-- From `s` to `t` the stored image has not changed. -/
def ImageKept (s t : State) : Prop := storedImage t.nv = storedImage s.nv

namespace ImageKept

variable {fs : List Field} {s t u : State}

theorem refl (s : State) : ImageKept s s := rfl

theorem trans (h : ImageKept s t) (k : ImageKept t u) : ImageKept s u := Eq.trans k h

theorem of_touches (h : Touches fs s t) (n : .nv ∉ fs := by decide) : ImageKept s t := congrArg storedImage (h.nv n)

/-- A step that does not reach the store follows. -/
theorem andTouches (h : ImageKept s t) (k : Touches fs t u) (n : .nv ∉ fs := by decide) : ImageKept s u :=
  h.trans (.of_touches k n)

theorem ite {p : Prop} [Decidable p] (h : ImageKept s t) (k : ImageKept s u) : ImageKept s (if p then t else u) := by
  split <;> assumption

end ImageKept

variable (s : State)

theorem requestWrite_image (r : StoreRequest) : ImageKept s (requestWrite r s) := rfl

theorem requestKeyWrite_image : ImageKept s (requestKeyWrite s) := rfl

theorem beginNextWrite_image : ImageKept s (beginNextWrite s) := by
  unfold beginNextWrite
  split <;> rfl

theorem retryWrite_image : ImageKept s (retryWrite s) :=
  .ite (.ite (requestWrite_image s _) (requestKeyWrite_image s)) (.refl s)

theorem keyChange_image (f : KeyUnit → KeyUnit) : ImageKept s (keyChange f s) := .of_touches (keyChange_touches s f)

theorem handOutToRecord_image : ImageKept s (handOutToRecord s) :=
  ((((keyChange_image s _).trans (requestKeyWrite_image _)).ite (keyChange_image s _))).andTouches (onWork_touches _ _)

theorem waitForReservation_image : ImageKept s (waitForReservation s) := by
  have waits : ImageKept s (passTo .reservation (onKeys (fun k => { k with waiting := true }) s)) :=
    (ImageKept.of_touches (onKeys_touches s _)).andTouches (passTo_touches _ _)
  exact .ite waits (waits.trans (requestWrite_image _ _))

theorem keyStage_image (h : Hold) : ImageKept s (keyStage h s) :=
  .ite (.of_touches (decideHeaderOnly_touches s _ _ _)) (.ite (handOutToRecord_image s) (waitForReservation_image s))

theorem runStage_image (h : Hold) (w : Work) : ImageKept s (runStage h w s) := by
  unfold runStage
  split
  · exact .of_touches (judgeStage_touches s _ _)
  · exact .of_touches (resultStage_touches s _ _)
  · exact .of_touches (laneKeyStage_touches s _ _)
  · exact .of_touches (unsealStage_touches s _ _ _)
  · exact .of_touches (bodyStage_touches s _ _)
  · exact keyStage_image s _
  · exact .of_touches (computeStage_touches s _ _ _)
  · exact .of_touches (totalsStage_touches s _ _ _)
  · exact .of_touches (concludeStage_touches s _ _ _ _)
  · exact .refl s

theorem stageStep_image : ImageKept s (stageStep s) := by
  unfold stageStep
  split
  · split
    · exact runStage_image s _ _
    · exact .refl s
  · exact .refl s

theorem startClose_image (roll : Bool) : ImageKept s (startClose roll s) := by
  have rolled : ImageKept s (rollStep roll s) :=
    .ite ((keyChange_image s _).trans (requestKeyWrite_image _)) (.refl s)
  exact (rolled.andTouches (onTotals_touches _ _)).trans (requestWrite_image _ _)

theorem runDirective_image (code : DirectiveCode) : ImageKept s (runDirective code s) := by
  have taken (r : Option DirectiveResult) : ImageKept s (takeDirective r s) := .of_touches (takeDirective_touches s r)
  cases code with
  | incomplete => exact taken _
  | unknown => exact taken _
  | statusNow => exact (taken _).andTouches (onReport_touches _ _)
  | laneSuspend => exact .ite (taken _) ((taken _).andTouches (onLane_touches _ _ _))
  | laneResume => exact .ite (taken _) ((taken _).andTouches (onLane_touches _ _ _))
  | laneForget => exact .ite (taken _) ((taken _).andTouches (forgetOn_touches _ _))
  | batchClose => exact (taken _).trans (startClose_image _ _)

/-! ### Frames request store writes and end none -/

theorem answerFrame_image (n : Nat) (a : List Byte) : ImageKept s (answerFrame n a s) := rfl

theorem holdOutstanding_image : ImageKept s (holdOutstanding s) := rfl

theorem judgedFrame_image (wanted : Nat) (length : Byte) (clocked : List Byte) {act : State → State}
    (h : ImageKept s (act s)) : ImageKept s (judgedFrame wanted length clocked act s) := by
  unfold judgedFrame
  split
  · rfl
  · exact h

theorem acceptLoad_image (p : LoadPayload) : ImageKept s (acceptLoad p s) :=
  ((keyChange_image s (loadSlot p.slot p.id p.key p.check)).trans (requestWrite_image _ (.keyStore none true))).trans
    (holdOutstanding_image _)

theorem loadKeyFrame_image (clocked : List Byte) : ImageKept s (loadKeyFrame clocked s) :=
  .ite ((answerFrame_image s _ _).trans (acceptLoad_image _ _)) (answerFrame_image s _ _)

theorem loadImageFrame_image (length : Byte) (clocked : List Byte) : ImageKept s (loadImageFrame length clocked s) :=
  .ite rfl rfl

theorem lockFrame_image (clocked : List Byte) : ImageKept s (lockFrame clocked s) := .ite rfl rfl

theorem eraseStep_image : ImageKept s (eraseStep s) := by
  have erased : ImageKept s (oweStore (onKeys eraseKeys (onNv voidReservations s))) := rfl
  unfold eraseStep
  dsimp only
  split
  · exact erased.andTouches (endWaiting_touches _ _ _)
  · exact erased

theorem eraseFrame_image (clocked : List Byte) : ImageKept s (eraseFrame clocked s) :=
  ((answerFrame_image s _ _).trans (eraseStep_image _)).trans
    ((requestWrite_image _ _).trans (holdOutstanding_image _))

theorem takeFrame_image (bytes : List Byte) : ImageKept s (takeFrame bytes s) := by
  refine .ite (.refl s) (.ite ?_ rfl)
  unfold actOnFrame
  split
  · unfold actOnCommand
    refine .ite rfl ?_
    split
    · exact judgedFrame_image s _ _ _ rfl
    · exact judgedFrame_image s _ _ _ (loadKeyFrame_image s _)
    · exact loadImageFrame_image s _ _
    · exact judgedFrame_image s _ _ _ (lockFrame_image s _)
    · exact judgedFrame_image s _ _ _ (eraseFrame_image s _)
    · rfl
  · rfl

variable {s}

/-- R130: no move but the end of a store write and a reset changes the stored image. -/
theorem Move.image {c : Instr} {fs : List Field} {t : State} (move : Move c fs s t)
    (notReset : c ≠ .powerOn ∧ c ≠ .resetLine) (notEnd : ∀ completed, c ≠ .storeWriteEnd completed) :
    ImageKept s t := by
  have kept := move.touches
  cases move with
  | directive => exact runDirective_image s _
  | beginWrite => exact beginNextWrite_image s
  | stage => exact stageStep_image s
  | sweep => exact .trans rfl (retryWrite_image _)
  | frame bytes => exact takeFrame_image s bytes
  | storeEnd hc => exact absurd hc (notEnd _)
  | reset hc => exact absurd hc (not_or.mpr notReset)
  | startWrite => exact requestKeyWrite_image s
  | _ => exact .of_touches kept

/-! ### What the commands may change -/

/-- A command changes no field outside its footprint. -/
theorem exec_next_touches {c : Instr} {t : State} (h : exec c s = .next t) : Touches (commandFields c) s t := by
  obtain ⟨u, run, touched⟩ := exec_touches s c
  obtain rfl : u = t := by simpa [run] using h
  exact touched

theorem pending_notMem_commandFields (c : Instr) : Field.pending ∉ commandFields c := by
  cases c <;> simp [commandFields]

theorem dram_notMem_commandFields {c : Instr} (h : ∀ okay data, c ≠ .downstreamAnswer okay data) :
    Field.dram ∉ commandFields c := by
  cases c with
  | downstreamAnswer okay data => exact absurd rfl (h okay data)
  | _ => simp [commandFields]

theorem settings_notMem_commandFields {c : Instr} (h : c ≠ .powerOn) (h' : c ≠ .resetLine) (h'' : c ≠ .startUpEnd) :
    Field.settings ∉ commandFields c ∧ Field.cause ∉ commandFields c := by
  cases c with
  | powerOn => exact absurd rfl h
  | resetLine => exact absurd rfl h'
  | startUpEnd => exact absurd rfl h''
  | _ => simp [commandFields]

/-- Settles O2: the footprints of the commands, and the moves of a command for the stored image. -/
theorem commandsCompleteAndStoresStay : Obligations.CommandsCompleteAndStoresStay := by
  refine ⟨fun c s => ?_, fun c s t run other => ?_, fun c s t run a b e => ?_, fun c s t run a b e => ?_⟩
  · obtain ⟨t, run, touched⟩ := exec_touches s c
    exact ⟨t, run, touched.pending (pending_notMem_commandFields c)⟩
  · exact (exec_next_touches run).dram (dram_notMem_commandFields other)
  · obtain ⟨settings, cause⟩ := settings_notMem_commandFields a b e
    exact ⟨(exec_next_touches run).settings settings, (exec_next_touches run).cause cause⟩
  · have image : ImageKept s t :=
      exec_keeps (inv := ImageKept s) (fun _ _ _ move kept => kept.trans (move.image ⟨a, b⟩ e)) run (.refl s)
    have field {α : Type} (f : NvStore → α) (h : ∀ n, f (storedImage n) = f n) : f t.nv = f s.nv := by
      rw [← h t.nv, ← h s.nv]
      exact congrArg f image
    exact ⟨field (·.keys) fun _ => rfl, field (·.control) fun _ => rfl, field (·.locked) fun _ => rfl,
      field (·.groups) fun _ => rfl, field (·.lastClosed) fun _ => rfl⟩

/-! ### A reset (R14, R130) -/

/-- R130: a reset drops the requests, and the write it cuts has landed whole or not at all. -/
theorem resetNv_eq (lands : Bool) (n : NvStore) :
    resetNv lands n = { n with requests := [], writing := none } ∨
      ∃ w, n.writing = some w ∧ resetNv lands n = { writeLands w n with requests := [], writing := none } := by
  unfold resetNv
  cases h : n.writing with
  | none => exact .inl (by simp)
  | some w =>
    cases lands with
    | true => exact .inr ⟨w, rfl, rfl⟩
    | false => exact .inl rfl

/-- Settles O3: with nothing due both resets are `resetPart`, which begins again from the reset state. -/
theorem resetDropsTheVolatileState : Obligations.ResetDropsTheVolatileState := by
  refine ⟨fun s c ph cause quiet isReset => ⟨resetNv (Config.cutWriteLands s.freeCount) s.nv, freeAfterReset s, ?_,
    resetNv_eq _ _⟩, fun s => rfl⟩
  have settled : ∀ ph cause, resetPart ph cause (settle s) = resetPart ph cause s := fun _ _ => by rw [settle_of quiet]
  simp only [List.mem_cons, Prod.mk.injEq, List.not_mem_nil, or_false] at isReset
  obtain ⟨rfl, rfl, rfl⟩ | ⟨rfl, rfl, rfl⟩ := isReset
  · exact congrArg Host.Outcome.next (settled .starting .powerOn)
  · exact congrArg Host.Outcome.next (settled .held .resetLine)

end Sys2Proof.Proofs
end

section
/-! SUPPORT. What each operation leaves of the path front's lists and of the holds, and the sizes of the buffers. -/

namespace Sys2Proof.Proofs

open Sys2Proof Sys2Proof.Machine Sys2Proof.Laws

variable (s : State)

/-! ### What issues leave of the path front -/

/-- The void record's entry that a window's gap is filled with. -/
def gapEntry (w : Nat) : Entry :=
  entryOfBytes (.voidRecord w (slotOfIndex (windowSlots s w) (windowSlots s w).release))
    (slotAddr s w (slotOfIndex (windowSlots s w) (windowSlots s w).release))
    (voidOutput (windowOfMap s w).slotSize (windowSlots s w).release w)

theorem fillGap_path (w : Nat) :
    (fillGap w s).path = if gapDue s w = true then entryIssued s.path (gapEntry s w) else s.path := by
  unfold fillGap
  dsimp only
  split
  · rw [offerEntry_path]
    rfl
  · rfl

/-- The status block's entry of a channel. -/
def blockEntry (ch : Nat) : Entry :=
  entryOfBytes (.statusBlock ch) (s.settings.map.statusBase + blockOffset ch) (blockContent s ch)

theorem reportChannel_path (ch : Nat) : (reportChannel ch s).path =
    if issueDue s.settings ch (channelAt s ch) = true then entryIssued s.path (blockEntry s ch) else s.path := by
  unfold reportChannel
  split
  · exact issueStatus_path s ch
  · rfl

theorem summaryStep_path : (summaryStep s).path = s.path ∨ ∃ c bytes, s.totals.close = some c ∧ c.summary = some bytes ∧
    (summaryStep s).path = entryIssued s.path (entryOfBytes .summary (s.settings.map.statusBase + 0x600) bytes) := by
  unfold summaryStep
  split
  · next bytes h =>
    obtain ⟨c, hc, hb⟩ := Option.bind_eq_some_iff.mp h
    exact .inr ⟨c, bytes, hc, hb, offerEntry_path _ _⟩
  · exact .inl rfl

theorem resultStep_path : (resultStep s).path = s.path ∨ s.directives.inProgress ≠ none ∧ ∃ result,
    (resultStep s).path = entryIssued s.path (entryOfResult (resultAddr s) result) := by
  unfold resultStep
  split
  · next r h => exact .inr ⟨by simp [h], byteOf (resultCode r), offerEntry_path _ _⟩
  · exact .inl rfl

theorem issueWriteBack_path : (issueWriteBack s).path = s.path ∨ ∃ w output, s.engine.work = some w ∧
    w.output = some output ∧ (issueWriteBack s).path = entryIssued s.path (writeBackEntry s w output) := by
  unfold issueWriteBack
  split
  · exact .inl rfl
  · split
    · next w hw =>
      split
      · next output ho => exact .inr ⟨w, output, hw, ho, offerEntry_path _ _⟩
      · exact .inl rfl
    · exact .inl rfl

/-- R9: the entry that waits longest joins the queue while there is room. -/
theorem addLongestWaiting_path (p : EntryKind → Bool) : (addLongestWaiting p s).path = s.path ∨
    ∃ e rest, s.path.waiting = e :: rest ∧ s.path.queue.length < 32 ∧
      (addLongestWaiting p s).path = { s.path with queue := s.path.queue ++ [e], waiting := rest } := by
  unfold addLongestWaiting
  split
  · exact .inl rfl
  · next e rest h =>
    split
    · next room =>
      refine .inr ⟨e, rest, h, ?_, addEntry_path _ e⟩
      simpa [queueRoom] using (Bool.and_eq_true_iff.mp room).2
    · exact .inl rfl

/-! ### Acknowledgements and shown words leave the queues -/

theorem takeAck_path {p : EntryKind → Bool} {a : Ack} {t : State} (h : takeAck p s = some (a, t)) :
    ∃ left, t = onPath (fun q => { q with acks := left }) s ∧
      takeFirst (fun a : Ack => p a.kind) s.path.acks = some (a, left) := by
  unfold takeAck at h
  cases hf : takeFirst (fun a : Ack => p a.kind) s.path.acks with
  | none => simp [hf] at h
  | some r =>
    simp only [hf, Option.map_some, Option.some.injEq, Prod.mk.injEq] at h
    exact ⟨r.2, h.2.symm, by rw [← h.1]⟩

theorem takeFirst_mem {α : Type} {p : α → Bool} {l rest : List α} {x : α} (h : takeFirst p l = some (x, rest)) :
    x ∈ l ∧ ∀ y ∈ rest, y ∈ l := by
  induction l generalizing x rest with
  | nil => simp [takeFirst] at h
  | cons a l ih =>
    unfold takeFirst at h
    split at h
    · obtain ⟨rfl, rfl⟩ : a = x ∧ l = rest := by simpa using h
      exact ⟨List.mem_cons_self, fun y hy => List.mem_cons_of_mem _ hy⟩
    · obtain ⟨⟨y, m⟩, hr, he⟩ := Option.map_eq_some_iff.mp h
      obtain ⟨rfl, rfl⟩ : y = x ∧ a :: m = rest := by simpa using he
      obtain ⟨hx, hm⟩ := ih hr
      refine ⟨List.mem_cons_of_mem _ hx, fun z hz => ?_⟩
      rcases List.mem_cons.mp hz with rfl | hz
      · exact List.mem_cons_self
      · exact List.mem_cons_of_mem _ (hm z hz)

/-- From `s` to `t` the path front has lost at most an acknowledgement or a shown word. -/
structure WordsTaken (s t : State) : Prop where
  rest : t.path = { s.path with
    acks := t.path.acks, shownReturns := t.path.shownReturns, shownDirectives := t.path.shownDirectives }
  acks : ∀ a ∈ t.path.acks, a ∈ s.path.acks
  shown : s.path.shownDirectives = [] → t.path.shownDirectives = []

namespace WordsTaken

variable {s} {t u : State} {fs : List Field}

theorem of_eq (h : t.path = s.path) : WordsTaken s t :=
  ⟨by rw [h], fun a m => h ▸ m, fun e => h.symm ▸ e⟩

theorem andTouches (h : WordsTaken s t) (k : Touches fs t u) (n : .path ∉ fs := by decide) : WordsTaken s u := by
  obtain ⟨rest, acks, shown⟩ := h
  rw [← k.path n] at rest acks shown
  exact ⟨rest, acks, shown⟩

theorem of_takeAck {p : EntryKind → Bool} {a : Ack} (h : takeAck p s = some (a, t)) : WordsTaken s t := by
  obtain ⟨left, rfl, found⟩ := takeAck_path s h
  exact ⟨rfl, (takeFirst_mem found).2, id⟩

end WordsTaken

theorem writeBackAckStep_words : WordsTaken s (writeBackAckStep s) := by
  unfold writeBackAckStep
  split
  · next h => exact ((WordsTaken.of_takeAck h).andTouches (freeHold_touches _ _ _)).andTouches (slotDone_touches _ _ _ _)
  · exact .of_eq rfl

theorem voidAckStep_words : WordsTaken s (voidAckStep s) := by
  unfold voidAckStep
  split
  · next h => exact (WordsTaken.of_takeAck h).andTouches (slotDone_touches _ _ _ _)
  · exact .of_eq rfl

theorem statusAckStep_words : WordsTaken s (statusAckStep s) := by
  unfold statusAckStep
  split
  · next h => exact (WordsTaken.of_takeAck h).andTouches (onChannel_touches _ _ _)
  · exact .of_eq rfl

theorem summaryAckStep_words : WordsTaken s (summaryAckStep s) := by
  unfold summaryAckStep
  split
  · next h =>
    have taken := WordsTaken.of_takeAck h
    split
    · exact (((taken.andTouches (onTotals_touches _ _)).andTouches (onChannel_touches _ _ _)).andTouches
        (storeFaultUnless_touches _ _)).andTouches (giveResult_touches _ _)
    · exact taken
  · exact .of_eq rfl

theorem resultAckStep_words : WordsTaken s (resultAckStep s) := by
  unfold resultAckStep
  split
  · next h =>
    exact (((WordsTaken.of_takeAck h).andTouches (onDirectives_touches _ _)).andTouches
      (onChannel_touches _ _ _)).andTouches (storeFaultUnless_touches _ _)
  · exact .of_eq rfl

theorem returnStep_words : WordsTaken s (returnStep s) := by
  unfold returnStep
  split
  · exact .of_eq rfl
  · next rest _ =>
    have taken : WordsTaken s (onPath (fun p => { p with shownReturns := rest }) s) := ⟨rfl, fun _ h => h, id⟩
    dsimp only
    split
    · exact taken.andTouches (takeReturn_touches _ _ _)
    · exact taken

theorem shownTaken_words {x : ShownBeat} {rest : List ShownBeat} (h : s.path.shownDirectives = x :: rest) :
    WordsTaken s (onPath (fun p => { p with shownDirectives := rest }) s) :=
  ⟨rfl, fun _ h => h, fun e => by simp [e] at h⟩

theorem captureStep_words : WordsTaken s (captureStep s) := by
  unfold captureStep
  split
  · next h =>
    split
    · exact .of_eq rfl
    · exact (shownTaken_words s h).andTouches (onDirectives_touches _ _)
  · exact .of_eq rfl

theorem indexStep_words : WordsTaken s (indexStep s) := by
  unfold indexStep
  split
  · next h =>
    split
    · dsimp only
      split
      · exact (shownTaken_words s h).andTouches (onDirectives_touches _ _)
      · exact shownTaken_words s h
    · exact .of_eq rfl
  · exact .of_eq rfl

/-! ### What each operation leaves of the holds -/

theorem addEntry_holds (e : Entry) : (addEntry e s).intake.holds = s.intake.holds := by
  unfold addEntry
  dsimp only
  split <;> rfl

theorem offerEntry_holds (e : Entry) : (offerEntry e s).intake.holds = s.intake.holds := by
  unfold offerEntry
  split
  · exact addEntry_holds s e
  · rfl

theorem addLongestWaiting_holds (p : EntryKind → Bool) : (addLongestWaiting p s).intake.holds = s.intake.holds := by
  unfold addLongestWaiting
  split
  · rfl
  · split
    · exact addEntry_holds _ _
    · rfl

theorem fillGap_holds (w : Nat) : (fillGap w s).intake.holds = s.intake.holds := by
  unfold fillGap
  dsimp only
  split
  · exact offerEntry_holds _ _
  · rfl

theorem reportChannel_holds (ch : Nat) : (reportChannel ch s).intake.holds = s.intake.holds := by
  unfold reportChannel issueStatus
  split
  · rw [offerEntry_holds, (reportLanes_touches _ _).intake (by decide)]
    rfl
  · rfl

theorem summaryStep_holds : (summaryStep s).intake.holds = s.intake.holds := by
  unfold summaryStep
  split
  · exact offerEntry_holds _ _
  · rfl

theorem resultStep_holds : (resultStep s).intake.holds = s.intake.holds := by
  unfold resultStep
  split
  · exact offerEntry_holds _ _
  · rfl

theorem issueWriteBack_holds : (issueWriteBack s).intake.holds = s.intake.holds := by
  unfold issueWriteBack
  split
  · rfl
  · split
    · split
      · exact offerEntry_holds _ _
      · rfl
    · rfl

theorem takeNext_holds : (takeNext s).intake.holds = s.intake.holds := by
  unfold takeNext
  split
  · split <;> rfl
  · rfl

theorem onHold_holds_length (w slot : Nat) (f : Hold → Hold) :
    (onHold w slot f s).intake.holds.length = s.intake.holds.length := by
  simp [onHold]

theorem queueSlot_holds_length (w slot : Nat) (expired : Bool) :
    (queueSlot w slot expired s).intake.holds.length = s.intake.holds.length := by
  have joined (u : State) : (joinQueue w slot expired u).intake.holds.length = u.intake.holds.length :=
    onHold_holds_length (setSlot w slot .queued u) w slot _
  exact (joined (takeNext s)).trans (congrArg List.length (takeNext_holds s))

theorem expireNext_holds_length : (expireNext s).intake.holds.length = s.intake.holds.length := by
  unfold expireNext
  split
  · exact queueSlot_holds_length _ _ _ _
  · rfl

theorem completionTest_holds_length (w slot : Nat) :
    (completionTest w slot s).intake.holds.length = s.intake.holds.length := by
  unfold completionTest
  split
  · split
    · exact queueSlot_holds_length _ _ _ _
    · rfl
  · rfl

/-- R18, R20: a slot write that is taken opens a hold only where one of the 16 is free. -/
theorem ensureHold_fits {w slot : Nat} (fits : s.intake.holds.length ≤ 16) (taken : slotRefusal s w slot = none) :
    (ensureHold w slot s).intake.holds.length ≤ 16 := by
  unfold ensureHold
  split
  · next free =>
    have room : s.intake.holds.length < 16 := by simpa [slotRefusal, free] using taken
    have opened : (openHold w slot s).intake.holds = s.intake.holds ++ [newHold s w slot] := rfl
    rw [opened, List.length_append]
    exact room
  · exact fits

theorem takeSlotWrite_holds_fit (sw : SlotWrite) (fits : s.intake.holds.length ≤ 16) :
    (takeSlotWrite sw s).intake.holds.length ≤ 16 := by
  unfold takeSlotWrite
  split
  · exact fits
  · next taken =>
    unfold mergeSlotWrite
    rw [completionTest_holds_length, onHold_holds_length]
    exact ensureHold_fits s fits taken

theorem slotDone_holds (w slot : Nat) (okay : Bool) : (slotDone w slot okay s).intake.holds = s.intake.holds := by
  cases okay <;> rfl

theorem takeAck_intake {p : EntryKind → Bool} {a : Ack} {t : State} (h : takeAck p s = some (a, t)) :
    t.intake = s.intake := (takeAck_touches s h).intake (by decide)

theorem writeBackAckStep_holds_length : (writeBackAckStep s).intake.holds.length ≤ s.intake.holds.length := by
  unfold writeBackAckStep
  split
  · next h =>
    rw [slotDone_holds, ← takeAck_intake s h]
    exact List.length_filter_le _ _
  · exact Nat.le_refl _

theorem voidAckStep_holds : (voidAckStep s).intake.holds = s.intake.holds := by
  unfold voidAckStep
  split
  · next h => rw [slotDone_holds, takeAck_intake s h]
  · rfl

theorem handConsumed_holds (ch : Nat) (b : Beat) : (handConsumed ch b s).intake.holds = s.intake.holds := by
  unfold handConsumed takeConsumed
  split
  · rfl
  · split <;> rfl

theorem takeReturn_holds (ch : Nat) (b : Beat) : (takeReturn ch b s).intake.holds = s.intake.holds := by
  unfold takeReturn
  dsimp only
  rw [(onChannel_touches _ _ _).intake (by decide)]
  split <;> exact handConsumed_holds s ch b

theorem returnStep_holds : (returnStep s).intake.holds = s.intake.holds := by
  unfold returnStep
  split
  · rfl
  · dsimp only
    split
    · exact takeReturn_holds _ _ _
    · rfl

theorem sweepStep_holds : (sweepStep s).intake.holds = s.intake.holds := by
  unfold sweepStep
  rw [(retryWrite_touches _).intake (by decide)]
  rfl

/-! ### The path front's bounds -/

/-- R1, R9, R10: the bounds of the path front's lists. -/
structure PathFits (p : PathFront) : Prop where
  accepted : p.accepted.length ≤ 8
  queue    : p.queue.length ≤ 32
  answers  : p.abandoned.length + p.outstanding.length ≤ 16

variable {s} {p : PathFront}

theorem entryIssued_fits (h : PathFits p) (e : Entry) : PathFits (entryIssued p e) := by
  obtain ⟨accepted, queue, answers⟩ := h
  unfold entryIssued
  split
  · next room => exact ⟨accepted, by simpa using room.1, answers⟩
  · exact ⟨accepted, queue, answers⟩

theorem sendResponses_length (l : List UpTxn) : (sendResponses l).2.length ≤ l.length := by
  induction l with
  | nil => exact Nat.le_refl _
  | cons t ts ih =>
    unfold sendResponses
    split
    · exact Nat.le_succ_of_le ih
    · exact Nat.le_refl _

theorem respond_fits (h : PathFits p) : PathFits (respond p) :=
  ⟨(sendResponses_length _).trans h.accepted, h.queue, h.answers⟩

theorem answerTxn_length (okay : Bool) (data : List Byte) (l : List UpTxn) :
    (answerTxn okay data l).length = l.length := by
  induction l with
  | nil => rfl
  | cons t ts ih =>
    unfold answerTxn
    split
    · simp [ih]
    · simp

/-- R8: showing beats changes nothing but the two lists of shown words. -/
theorem showBeats_eq (map : WindowMap) (addr : Nat) (beats : List Beat) (p : PathFront) :
    showBeats map addr beats p = { p with
      shownReturns := (showBeats map addr beats p).shownReturns
      shownDirectives := (showBeats map addr beats p).shownDirectives } := by
  induction beats generalizing addr p with
  | nil => rfl
  | cons b bs ih =>
    have first : showBeat map addr b p = { p with
        shownReturns := (showBeat map addr b p).shownReturns
        shownDirectives := (showBeat map addr b p).shownDirectives } := by
      unfold showBeat
      split
      · split
        · rfl
        · split <;> rfl
      · rfl
    unfold showBeats
    rw [ih, first]

theorem showBurst_eq (map : WindowMap) (b : Burst) (okay : Bool) (p : PathFront) :
    showBurst map b okay p = { p with
      shownReturns := (showBurst map b okay p).shownReturns
      shownDirectives := (showBurst map b okay p).shownDirectives } := by
  unfold showBurst
  split
  · split
    · exact showBeats_eq _ _ _ _
    · rfl
  · rfl

theorem answerPath_fits (h : PathFits p) (map : WindowMap) (b : Burst) (okay : Bool) (data : List Byte) :
    PathFits (answerPath map b okay data p) := by
  obtain ⟨accepted, queue, answers⟩ := h
  unfold answerPath
  split
  · refine respond_fits ?_
    rw [showBurst_eq]
    exact ⟨(answerTxn_length _ _ _).trans_le accepted, queue, answers⟩
  · split <;> exact ⟨accepted, queue, answers⟩

/-- R10: a grant sends one burst on, where it sends one, to fewer than 16. -/
theorem grantOne_fits (h : PathFits p) : PathFits (grantOne p) := by
  have stream (room : p.abandoned.length + p.outstanding.length < 16) : PathFits (grantStream p) := by
    unfold grantStream
    split
    · exact ⟨h.accepted, h.queue, by simpa [← Nat.add_assoc] using room⟩
    · exact h
  have internal (room : p.abandoned.length + p.outstanding.length < 16) : PathFits (grantInternal p) := by
    unfold grantInternal
    split
    · next e rest q =>
      have shorter : rest.length + 1 ≤ 32 := by simpa [q] using h.queue
      split
      · exact ⟨h.accepted, Nat.le_of_succ_le shorter, h.answers⟩
      · exact ⟨h.accepted, Nat.le_of_succ_le shorter, by simpa [← Nat.add_assoc] using room⟩
      · exact ⟨h.accepted, shorter, by simpa [← Nat.add_assoc] using room⟩
    · exact h
  unfold grantOne
  split
  · exact h
  · next room =>
    have room : p.abandoned.length + p.outstanding.length < 16 := by simpa [canGrant] using room
    split
    · exact stream room
    · split
      · exact internal room
      · exact stream room

theorem placeWrite_fits (h : PathFits p) (room : p.accepted.length < 8) (map : WindowMap) (addr : BitVec 40)
    (beats : List Beat) (refused : Bool) : PathFits (placeWrite map addr beats refused p) :=
  respond_fits ⟨by simpa using room, h.queue, h.answers⟩

theorem canAccept_iff : canAccept s = true ↔ s.phase = .running ∧ s.path.accepted.length < 8 := by
  simp [canAccept]

theorem WordsTaken.fits {t : State} (h : WordsTaken s t) (k : PathFits s.path) : PathFits t.path := by
  rw [h.rest]
  exact ⟨k.accepted, k.queue, k.answers⟩

/-- Every move keeps the bounds of the path front. -/
theorem Move.pathFits {c : Instr} {fs : List Field} {t : State} (move : Move c fs s t) (h : PathFits s.path) :
    PathFits t.path := by
  have kept := move.touches
  cases move with
  | addLongest p =>
    obtain e | ⟨e, rest, -, room, added⟩ := addLongestWaiting_path s p
    · exact e.symm ▸ h
    · rw [added]
      exact ⟨h.accepted, by simpa using room, h.answers⟩
  | gap =>
    rw [fillGap_path]
    split
    · exact entryIssued_fits h _
    · exact h
  | report =>
    rw [reportChannel_path]
    split
    · exact entryIssued_fits h _
    · exact h
  | summary =>
    obtain e | ⟨_, _, _, _, e⟩ := summaryStep_path s
    · exact e.symm ▸ h
    · exact e.symm ▸ entryIssued_fits h _
  | result =>
    obtain e | ⟨_, _, e⟩ := resultStep_path s
    · exact e.symm ▸ h
    · exact e.symm ▸ entryIssued_fits h _
  | writeBack =>
    obtain e | ⟨_, _, _, _, e⟩ := issueWriteBack_path s
    · exact e.symm ▸ h
    · exact e.symm ▸ entryIssued_fits h _
  | offer => exact ⟨h.accepted, h.queue, h.answers⟩
  | write addr beats refused open_ => exact placeWrite_fits h (canAccept_iff.mp open_).2 _ _ _ _
  | read addr length open_ =>
    have room := (canAccept_iff.mp open_).2
    exact ⟨by simpa [acceptRead] using room, h.queue, h.answers⟩
  | left => exact ⟨h.accepted, h.queue, h.answers⟩
  | grant => exact grantOne_fits h
  | discard hc old =>
    rw [(abandonedMemory_touches _ _ _).path (by decide)]
    have answers := h.answers
    rw [old, List.length_cons] at answers
    exact ⟨h.accepted, h.queue, by simp only [onPath_path]; omega⟩
  | @answer okay data _ b rest hc old =>
    rw [(answerMemory_touches _ _ _).path (by decide)]
    have answers := h.answers
    rw [old, List.length_cons] at answers
    have waiting : PathFits { s.path with outstanding := rest } := ⟨h.accepted, h.queue, by dsimp only; omega⟩
    exact answerPath_fits waiting _ _ _ _
  | returnWord => exact (returnStep_words s).fits h
  | index => exact (indexStep_words s).fits h
  | capture => exact (captureStep_words s).fits h
  | writeBackAck => exact (writeBackAckStep_words s).fits h
  | voidAck => exact (voidAckStep_words s).fits h
  | statusAck => exact (statusAckStep_words s).fits h
  | summaryAck => exact (summaryAckStep_words s).fits h
  | resultAck => exact (resultAckStep_words s).fits h
  | reset => exact ⟨Nat.zero_le _, Nat.zero_le _, by simpa [resetPart, resetPath, PathFront.reset] using h.answers⟩
  | _ => exact (kept.path (by decide)).symm ▸ h

/-- R18: every move keeps at most 16 holds. -/
theorem Move.holdsFit {c : Instr} {fs : List Field} {t : State} (move : Move c fs s t)
    (h : s.intake.holds.length ≤ 16) : t.intake.holds.length ≤ 16 := by
  have kept := move.touches
  cases move with
  | addLongest p => exact (addLongestWaiting_holds s p).symm ▸ h
  | expire => exact (expireNext_holds_length s).trans_le h
  | gap => exact (fillGap_holds s _).symm ▸ h
  | report => exact (reportChannel_holds s _).symm ▸ h
  | take => exact (takeNext_holds s).symm ▸ h
  | summary => exact (summaryStep_holds s).symm ▸ h
  | result => exact (resultStep_holds s).symm ▸ h
  | slotWrite sw => exact takeSlotWrite_holds_fit s sw h
  | returnWord => exact (returnStep_holds s).symm ▸ h
  | writeBackAck => exact (writeBackAckStep_holds_length s).trans h
  | voidAck => exact (voidAckStep_holds s).symm ▸ h
  | writeBack => exact (issueWriteBack_holds s).symm ▸ h
  | sweep => exact (sweepStep_holds s).symm ▸ h
  | reset => exact Nat.zero_le _
  | start => exact Nat.zero_le _
  | _ => exact (kept.intake (by decide)).symm ▸ h

/-- Settles O57: every move keeps the bounds of the path front and of the holds. -/
theorem buffersStayWithinTheirSizes : Obligations.BuffersStayWithinTheirSizes := by
  intro s t start run
  refine step_keeps (inv := BuffersFit) (fun c fs s t move h => ?_)
    (fun _ _ h => ⟨h.accepted, h.queue, h.answers, h.holds⟩) run start
  obtain ⟨accepted, queue, answers⟩ := move.pathFits ⟨h.accepted, h.queue, h.answers⟩
  exact ⟨accepted, queue, answers, move.holdsFit h.holds⟩

end Sys2Proof.Proofs
end

section
/-! SUPPORT. Commands of the memory path in a quiet state: offers, grants, issues and answers. -/

namespace Sys2Proof.Proofs

open Sys2Proof Sys2Proof.Machine Sys2Proof.Laws

variable {s t : State} {fs : List Field}

/-- R166: where the issue tests find no channel due, they find none after a step that leaves the channels, the settings
and the phase as they are. -/
theorem reportDue_of_kept (h : ReportsDone s) (k : Touches fs s t)
    (phase : .phase ∉ fs := by decide) (settings : .settings ∉ fs := by decide) (report : .report ∉ fs := by decide) :
    reportDue t = t := by
  refine reportDue_of fun running ch hc => ?_
  have due := h.2 (k.phase phase ▸ running) ch hc
  unfold channelAt at due ⊢
  rw [k.settings settings, k.report report]
  exact due

/-- A command whose step leaves the channels alone is, in a quiet state, its step. -/
theorem event_of_kept {f : State → State} (h : Quiet s) (k : Touches fs s (f s))
    (phase : .phase ∉ fs := by decide) (settings : .settings ∉ fs := by decide) (report : .report ∉ fs := by decide) :
    event f s = f s :=
  (event_of f h).trans (reportDue_of_kept h.1.1.1.1.1 k phase settings report)

theorem quiet_reports (h : Quiet s) : ReportsDone s := h.1.1.1.1.1

/-! ### Offers (R1, R7) -/

/-- R1: what can be accepted of a list of offered transactions is accepted, in order. -/
theorem acceptFrom_accepts (l : List Offered) (s : State) : ∃ u taken rest, l = taken ++ rest ∧ Accepts s taken u ∧
    (rest = [] ∨ u.phase ≠ .running ∨ 8 ≤ u.path.accepted.length) ∧
    acceptFrom l s = { u with path := { u.path with offered := rest } } := by
  induction l generalizing s with
  | nil => exact ⟨s, [], [], rfl, .none s, .inl rfl, rfl⟩
  | cons o os ih =>
    unfold acceptFrom
    split
    · next open_ =>
      obtain ⟨running, room⟩ := canAccept_iff.mp open_
      obtain ⟨u, taken, rest, rfl, accepts, stops, result⟩ := ih (acceptOne o s)
      exact ⟨u, o :: taken, rest, rfl, .one running room accepts, stops, result⟩
    · next shut =>
      refine ⟨s, [], o :: os, rfl, .none s, .inr ?_, rfl⟩
      by_contra! both
      exact shut (canAccept_iff.mpr both)

/-- R1: where none of what is offered can be accepted, accepting changes nothing. -/
theorem acceptOffered_of (h : NoneAcceptable s) : acceptOffered s = s := by
  unfold acceptOffered
  cases offered : s.path.offered with
  | nil =>
    unfold acceptFrom onPath
    rw [← offered]
  | cons o os =>
    have shut : ¬canAccept s = true := by
      rw [canAccept_iff]
      rintro ⟨running, room⟩
      rcases h with h | h | h
      · simp [h] at offered
      · exact h running
      · omega
    unfold acceptFrom onPath
    rw [if_neg shut, ← offered]

/-- An offer's command, in a quiet state. -/
theorem exec_offer (h : Quiet s) (o : Offered) :
    event (fun s => acceptOffered (offerUpstream o s)) s = reportDue (acceptOffered (offerUpstream o s)) :=
  event_of _ h

/-- R1: at an open port an offer is accepted at once. -/
theorem acceptOffered_ready (h : Ready s) (o : Offered) : acceptOffered (offerUpstream o s) =
    onPath (fun p => { p with offered := [] }) (acceptOne o (offerUpstream o s)) := by
  have offered : (offerUpstream o s).path.offered = [o] := by simp [offerUpstream, h.offered]
  have open_ : canAccept (offerUpstream o s) = true := canAccept_iff.mpr ⟨h.open_, h.room⟩
  unfold acceptOffered
  rw [offered, acceptFrom, if_pos open_]
  rfl

/-- Settles O6. -/
theorem offersAreAcceptedInOrder : Obligations.OffersAreAcceptedInOrder := by
  refine ⟨fun s => acceptFrom_accepts s.path.offered s, fun s o c quiet isOffer => ?_, fun _ _ _ => rfl,
    fun s addr length ready => ?_⟩
  · have run : exec c s = .next (reportDue (acceptOffered (offerUpstream o s))) := by
      obtain ⟨addr, beats, rfl, rfl⟩ | ⟨addr, length, rfl, rfl⟩ := isOffer <;>
        exact congrArg Host.Outcome.next (exec_offer quiet _)
    refine ⟨run, fun shut => ?_⟩
    have none : NoneAcceptable (offerUpstream o s) := .inr (by
      by_contra! both
      exact shut ⟨both.1, both.2⟩)
    rw [run, acceptOffered_of none, reportDue_of_kept (quiet_reports quiet) (offerUpstream_touches s o)]
    rfl
  · have accepted : acceptOffered (offerUpstream (.read addr length) s) = acceptOne (.read addr length) s := by
      rw [acceptOffered_ready ready]
      unfold acceptOne acceptRead offerUpstream onPath
      simp [ready.offered]
    have touched : Touches [.path] s (acceptRead addr length s) := onPath_touches s _
    refine congrArg Host.Outcome.next ((exec_offer ready.quiet _).trans ?_)
    rw [accepted]
    exact reportDue_of_kept (quiet_reports ready.quiet) touched

/-! ### Grants (R9, R10) -/

theorem grantOne_of_full {p : PathFront} (h : 16 ≤ p.abandoned.length + p.outstanding.length) : grantOne p = p := by
  simp [grantOne, canGrant, h]

theorem grantOne_of_idle {p : PathFront} (stream : p.stream = []) (queue : p.queue = []) : grantOne p = p := by
  simp [grantOne, grantStream, stream, queue]

theorem canGrant_of {p : PathFront} (h : p.abandoned.length + p.outstanding.length < 16) : canGrant p = true := by
  simpa [canGrant] using h

theorem grantOne_stream {p : PathFront} {b : Burst} {rest : List Burst}
    (room : p.abandoned.length + p.outstanding.length < 16) (stream : p.stream = b :: rest)
    (turn : p.queue = [] ∨ p.turnInternal = false) :
    grantOne p = { p with stream := rest, outstanding := p.outstanding ++ [b], turnInternal := true } := by
  have granted : grantStream p = { p with stream := rest, outstanding := p.outstanding ++ [b], turnInternal := true } := by
    simp [grantStream, stream]
  unfold grantOne
  rcases turn with turn | turn <;> simp [canGrant_of room, stream, turn, granted]

theorem grantOne_internal {p : PathFront} {e : Entry} {rest : List Entry} {b : Burst} {more : List Burst}
    (room : p.abandoned.length + p.outstanding.length < 16) (queue : p.queue = e :: rest) (bursts : e.bursts = b :: more)
    (turn : p.stream = [] ∨ p.turnInternal = true) :
    grantOne p = { p with
      queue := if more = [] then rest else { e with bursts := more } :: rest
      outstanding := p.outstanding ++ [b]
      turnInternal := false } := by
  have granted : grantInternal p = { p with
      queue := if more = [] then rest else { e with bursts := more } :: rest
      outstanding := p.outstanding ++ [b]
      turnInternal := false } := by
    cases more <;> simp [grantInternal, queue, bursts]
  unfold grantOne
  rcases turn with turn | turn <;> simp [canGrant_of room, queue, turn, granted]

/-- Settles O11. -/
theorem grantFollowsTheTurn : Obligations.GrantFollowsTheTurn := by
  intro s waiting quiet count
  have run : exec .downstreamGrant s = .next { s with path := grantOne s.path } :=
    congrArg Host.Outcome.next (event_of_kept quiet (onPath_touches s grantOne))
  refine ⟨fun full => ?_, fun stream queue => ?_, fun b rest room stream turn => ?_,
    fun e rest b more room queue bursts turn => ?_⟩
  · rw [run, grantOne_of_full (count ▸ full)]
  · rw [run, grantOne_of_idle stream queue]
  · rw [run, grantOne_stream (count ▸ room) stream turn]
  · rw [run, grantOne_internal (count ▸ room) queue bursts turn]

/-! ### Issues (R9, R35, R106, R157, R179) -/

theorem queueRoom_iff : queueRoom s = true ↔ s.path.queue.length < 32 := by simp [queueRoom]

/-- R9: the entry that waits longest is not of these kinds, or finds no room. -/
theorem waitingTurn_of {p : EntryKind → Bool}
    (h : ∀ e ∈ s.path.waiting.head?, p e.kind = false ∨ 32 ≤ s.path.queue.length) : waitingTurn p s = false := by
  unfold waitingTurn
  cases head : s.path.waiting.head? with
  | none => simp
  | some e =>
    rcases h e head with h | h
    · simp [h]
    · simp [queueRoom, h]

theorem issueStep_of {p : EntryKind → Bool} {act : State → State}
    (h : ∀ e ∈ s.path.waiting.head?, p e.kind = false ∨ 32 ≤ s.path.queue.length) : issueStep p act s = act s := by
  simp [issueStep, waitingTurn_of h]

theorem addLongestWaiting_of {p : EntryKind → Bool}
    (h : ∀ e ∈ s.path.waiting.head?, p e.kind = false ∨ 32 ≤ s.path.queue.length) : addLongestWaiting p s = s := by
  unfold addLongestWaiting
  split
  · rfl
  · next e rest waiting =>
    rcases h e (by simp [waiting]) with h | h
    · simp [h]
    · simp [queueRoom, h]

/-- R9: the entry that waits longest is added at its command, with room. -/
theorem addLongestWaiting_cons {p : EntryKind → Bool} {e : Entry} {rest : List Entry} (waiting : s.path.waiting = e :: rest)
    (room : s.path.queue.length < 32) (kind : p e.kind = true) :
    addLongestWaiting p s = addEntry e (onPath (fun q => { q with waiting := rest }) s) := by
  simp [addLongestWaiting, waiting, kind, queueRoom_iff.mpr room]

theorem issueStep_cons {p : EntryKind → Bool} (act : State → State) {e : Entry} {rest : List Entry}
    (waiting : s.path.waiting = e :: rest) (room : s.path.queue.length < 32) (kind : p e.kind = true) :
    issueStep p act s = addEntry e (onPath (fun q => { q with waiting := rest }) s) := by
  have turn : waitingTurn p s = true := by simp [waitingTurn, queueRoom_iff.mpr room, waiting, kind]
  rw [issueStep, if_pos turn, addLongestWaiting_cons waiting room kind]

/-- Adding an entry that is no write-back changes the queue alone. -/
theorem addEntry_eq {e : Entry} (h : isWriteBack e.kind = false) :
    addEntry e s = onPath (fun p => { p with queue := p.queue ++ [e] }) s := by
  unfold addEntry
  dsimp only
  split
  · next w slot kind => simp [kind, isWriteBack] at h
  · rfl

/-- Issuing an entry that is no write-back changes the path front alone. -/
theorem offerEntry_eq {e : Entry} (h : isWriteBack e.kind = false) :
    offerEntry e s = { s with path := entryIssued s.path e } := by
  rw [← offerEntry_path]
  unfold offerEntry
  rw [addEntry_eq h]
  split <;> rfl

/-- Settles O36: a waiting entry at its command, the three issues, and the cases in which none is made. -/
theorem issuesAddEntries : Obligations.IssuesAddEntries := by
  refine ⟨fun s c mine e rest waiting room kind isIssue u hu => ?_,
    fun s w output e quiet work built noneWaits he => ?_,
    fun s c bytes done running close summary turn => ?_,
    fun s r done running inProgress turn => ?_,
    fun s c mine quiet turn isIssue => ?_⟩
  · have added : addEntry e (onPath (fun q => { q with waiting := rest }) s) = match e.kind with
        | .writeBack w slot => { u with
          intake := { s.intake with
            windows := updAt s.intake.windows w fun t => { t with slots := updAt t.slots slot fun _ => .writing } }
          engine := { s.engine with work := none } }
        | _ => u := by
      subst hu
      obtain ⟨k, bursts⟩ := e
      cases k <;> rfl
    have run : exec c s = .next (addEntry e (onPath (fun q => { q with waiting := rest }) s)) := by
      simp only [List.mem_cons, Prod.mk.injEq, List.not_mem_nil, or_false] at isIssue
      obtain ⟨rfl, rfl⟩ | ⟨rfl, rfl⟩ | ⟨rfl, rfl⟩ | ⟨rfl, rfl⟩ := isIssue
      · exact congrArg Host.Outcome.next (issueStep_cons _ waiting room kind)
      · exact congrArg Host.Outcome.next (addLongestWaiting_cons waiting room kind)
      · exact congrArg Host.Outcome.next (issueStep_cons _ waiting room kind)
      · exact congrArg Host.Outcome.next (issueStep_cons _ waiting room kind)
    refine (run.trans (congrArg Host.Outcome.next added)).trans ?_
    cases e.kind <;> rfl
  · have noneWaiting : writeBackWaits s = false := by simpa [writeBackWaits] using noneWaits
    have issued : issueWriteBack s = offerEntry e s := by
      rw [issueWriteBack, if_neg (by simp [noneWaiting]), work]
      simp [built, he, writeBackEntry, slotAddr]
    have run : exec .writeBackIssue s = .next (offerEntry e s) := by
      refine congrArg Host.Outcome.next ((issueStep_of fun f hf => .inl ?_).trans ?_)
      · exact noneWaits f (List.mem_of_mem_head? hf)
      · rw [event_of_kept quiet (issueWriteBack_touches s), issued]
    rw [run, he]
    unfold offerEntry
    by_cases room : s.path.queue.length < 32 ∧ s.path.waiting = []
    · rw [if_pos room, if_pos (by simpa [queueRoom, List.isEmpty_iff] using room)]
      rfl
    · rw [if_neg room, if_neg (by simpa [queueRoom, List.isEmpty_iff] using room)]
      rfl
  · have issued : summaryStep s = { s with
        totals := { s.totals with close := some { c with summary := none } }
        path := entryIssued s.path (entryOfBytes .summary (s.settings.map.statusBase + 0x600) bytes) } := by
      simp only [summaryStep, close, summary, Option.bind_some]
      rw [offerEntry_eq rfl]
      simp [onTotals, close]
    refine congrArg Host.Outcome.next ((issueStep_of fun e he => ?_).trans ?_)
    · exact (turn e he).imp_left fun kind => by simpa [isSummary] using kind
    · rw [whenRunning_running _ running, settleSummary, settleStore_of running done, issued]
  · have issued : resultStep s = { s with
        directives := { s.directives with inProgress := some ⟨some r, true⟩ }
        path := entryIssued s.path ⟨.directiveResult, [⟨.internal .directiveResult true,
          s.settings.map.statusBase + 0x400 + 32 * (s.directives.done.toNat % 16),
          .write [⟨BitVec.ofNat 64 (16777216 * resultCode r), 8⟩]⟩]⟩ } := by
      have beat : leNat [0, 0, 0, byteOf (resultCode r)] = 16777216 * resultCode r := by cases r <;> decide
      simp only [resultStep, inProgress]
      rw [offerEntry_eq rfl]
      simp only [entryOfResult, beat]
      rfl
    refine congrArg Host.Outcome.next ((issueStep_of fun e he => ?_).trans ?_)
    · exact (turn e he).imp_left fun kind => by simpa [isResult] using kind
    · rw [settle, whenRunning_running _ running, settleSteps, settleSummary_of running done, issued]
  · have settled : whenRunning settleSummary s = s := by
      unfold whenRunning
      split
      · exact settleSummary_of ‹_› quiet.1
      · rfl
    rcases isIssue with isIssue | ⟨rfl, rfl, idle⟩
    · simp only [List.mem_cons, Prod.mk.injEq, List.not_mem_nil, or_false] at isIssue
      obtain ⟨rfl, rfl⟩ | ⟨rfl, rfl⟩ | ⟨rfl, rfl⟩ := isIssue
      · exact congrArg Host.Outcome.next (addLongestWaiting_of turn)
      · exact congrArg Host.Outcome.next ((issueStep_of turn).trans settled)
      · exact congrArg Host.Outcome.next ((issueStep_of turn).trans (settle_of quiet))
    · have none : issueWriteBack s = s := by
        unfold issueWriteBack
        rcases idle with ⟨f, hf, kind⟩ | none
        · rw [if_pos]
          exact List.any_eq_true.mpr ⟨f, hf, kind⟩
        · split
          · rfl
          · split
            · next w hw => rw [none w hw]
            · rfl
      refine congrArg Host.Outcome.next ((issueStep_of turn).trans ?_)
      rw [event_of_kept quiet (issueWriteBack_touches s), none]

end Sys2Proof.Proofs
end

section
/-! SUPPORT. The answers of the DRAM controller: what a burst writes, what a transaction is answered, and what is shown
(R1, R6, R8, R11, R12, R14). -/

namespace Sys2Proof.Proofs

open Sys2Proof Sys2Proof.Machine Sys2Proof.Laws

/-! ### The bytes of a burst -/

/-- A beat writes its strobed bytes, each at its position. -/
theorem mem_beatCells {addr a : Nat} {v : Byte} {b : Beat} : (a, v) ∈ beatCells addr b ↔
    addr ≤ a ∧ a < addr + 8 ∧ beatStrobe b (a - addr) = true ∧ beatByte b (a - addr) = v := by
  simp only [beatCells, List.mem_map, List.mem_filter, List.mem_range, Prod.mk.injEq]
  constructor
  · rintro ⟨i, ⟨below, strobe⟩, rfl, rfl⟩
    simp only [Nat.add_sub_cancel_left]
    exact ⟨Nat.le_add_right _ _, by omega, strobe, trivial⟩
  · rintro ⟨low, high, strobe, rfl⟩
    exact ⟨a - addr, ⟨by omega, strobe⟩, by omega, rfl⟩

/-- The byte that a burst puts at an address lies in its first beat, or in those behind it. -/
theorem burstByte_cons (addr : Nat) (b : Beat) (bs : List Beat) (a : Nat) : burstByte addr (b :: bs) a =
    if addr ≤ a ∧ a < addr + 8 then (if beatStrobe b (a - addr) then some (beatByte b (a - addr)) else none)
    else burstByte (addr + 8) bs a := by
  unfold burstByte
  by_cases low : a < addr
  · rw [if_pos low, if_neg (by omega), if_pos (by omega)]
  · rw [if_neg low]
    by_cases first : a < addr + 8
    · have beat : (a - addr) / 8 = 0 := by omega
      have position : (a - addr) % 8 = a - addr := by omega
      rw [if_pos (by omega), beat, position]
      rfl
    · have beat : (a - addr) / 8 = (a - (addr + 8)) / 8 + 1 := by omega
      have position : (a - addr) % 8 = (a - (addr + 8)) % 8 := by omega
      rw [if_neg (by omega), if_neg first, beat, position, List.getElem?_cons_succ]

/-- What a burst writes, as cells and as a function of the address. -/
theorem mem_beatsCells {addr a : Nat} {v : Byte} {beats : List Beat} :
    (a, v) ∈ beatsCells addr beats ↔ burstByte addr beats a = some v := by
  induction beats generalizing addr with
  | nil => simp [beatsCells, burstByte]
  | cons b bs ih =>
    rw [beatsCells, List.mem_append, mem_beatCells, ih, burstByte_cons]
    by_cases first : addr ≤ a ∧ a < addr + 8
    · have later : burstByte (addr + 8) bs a = none := if_pos first.2
      rw [if_pos first, later]
      by_cases strobe : beatStrobe b (a - addr) = true <;> simp [first, strobe]
    · rw [if_neg first]
      constructor
      · rintro (⟨low, high, -⟩ | h)
        · exact absurd ⟨low, high⟩ first
        · exact h
      · exact .inr

/-- After bytes are put in turn, an address holds one that was put there, or what it held where none was. -/
theorem memGet_memPutAll (a : Nat) (cs m : List Host.Cell) :
    (∃ v, (a, v) ∈ cs ∧ memGet a (memPutAll cs m) = some v) ∨
      ((∀ v, (a, v) ∉ cs) ∧ memGet a (memPutAll cs m) = memGet a m) := by
  induction cs generalizing m with
  | nil => exact .inr ⟨fun _ => List.not_mem_nil, rfl⟩
  | cons c cs ih =>
    change (∃ v, _ ∧ memGet a (memPutAll cs (memPut c m)) = _) ∨ _ ∧ memGet a (memPutAll cs (memPut c m)) = _
    obtain ⟨v, put, get⟩ | ⟨none, get⟩ := ih (memPut c m)
    · exact .inl ⟨v, List.mem_cons_of_mem _ put, get⟩
    · rw [get, memGet_memPut]
      by_cases here : c.1 = a
      · exact .inl ⟨c.2, by simp [← here], if_pos here⟩
      · refine .inr ⟨fun v h => ?_, if_neg here⟩
        rcases List.mem_cons.mp h with rfl | h
        · exact here rfl
        · exact none v h

variable {s t : State}

/-- R8: a write burst answered OKAY is in memory, and no other byte has changed. -/
theorem answerMemory_okay {b : Burst} {beats : List Beat} (op : b.op = .write beats) (s : State) (a : Nat) :
    memGet a (answerMemory b true s).dram = (burstByte b.addr beats a).or (memGet a s.dram) := by
  have written : (answerMemory b true s).dram = memPutAll (beatsCells b.addr beats) s.dram := by
    simp [answerMemory, op]
  rw [written]
  obtain ⟨v, put, get⟩ | ⟨none, get⟩ := memGet_memPutAll a (beatsCells b.addr beats) s.dram
  · rw [get, mem_beatsCells.mp put, Option.some_or]
  · have notWritten : burstByte b.addr beats a = .none :=
      Option.eq_none_iff_forall_ne_some.mpr fun v h => none v (mem_beatsCells.mpr h)
    rw [get, notWritten, Option.none_or]

/-- R12: of one answered ERROR each byte may or may not be, and no other byte has changed (log 8). -/
theorem answerMemory_error {b : Burst} {beats : List Beat} (op : b.op = .write beats) (s : State) (a : Nat) :
    memGet a (answerMemory b false s).dram = memGet a s.dram ∨ (burstByte b.addr beats a ≠ none ∧
      memGet a (answerMemory b false s).dram = burstByte b.addr beats a) := by
  have written : (answerMemory b false s).dram = memPutAll
      ((beatsCells b.addr beats).filter fun c => Config.errorByteLands s.freeCount c.1) s.dram := by
    simp [answerMemory, op]
  rw [written]
  obtain ⟨v, put, get⟩ | ⟨-, get⟩ := memGet_memPutAll a
    ((beatsCells b.addr beats).filter fun c => Config.errorByteLands s.freeCount c.1) s.dram
  · have landed := mem_beatsCells.mp (List.mem_filter.mp put).1
    exact .inr ⟨by simp [landed], get.trans landed.symm⟩
  · exact .inl get

theorem answerMemory_read {b : Burst} {length : Nat} (op : b.op = .read length) (okay : Bool) (s : State) :
    answerMemory b okay s = s := by simp [answerMemory, op]

/-- What a burst puts into memory does not turn on the path front. -/
theorem answerMemory_onPath_dram (b : Burst) (okay : Bool) (f : PathFront → PathFront) (s : State) :
    (answerMemory b okay (onPath f s)).dram = (answerMemory b okay s).dram := by
  unfold answerMemory
  split
  · rfl
  · split <;> rfl

theorem ofSummary_iff {b : Burst} : ofSummary b = true ↔ ∃ last, b.origin = .internal .summary last := by
  unfold ofSummary
  cases b.origin with
  | passThrough => simp
  | internal kind last => simp [isSummary]

/-- R14, R160: the memory after an answer: a summary's burst of before a reset writes nothing, any other is in it. -/
theorem answerStep_dram {b : Burst} (head : (s.path.abandoned ++ s.path.outstanding).head? = some b) (okay : Bool)
    (data : List Byte) : (answerStep okay data s).dram =
      if s.path.abandoned ≠ [] ∧ ofSummary b = true then s.dram else (answerMemory b okay s).dram := by
  unfold answerStep
  split
  · next old rest abandoned =>
    obtain rfl : old = b := by simpa [abandoned] using head
    by_cases summary : ofSummary old = true
    · simp [abandonedMemory, summary, abandoned]
    · simp [abandonedMemory, summary, answerMemory_onPath_dram]
  · next abandoned =>
    split
    · next first rest outstanding =>
      obtain rfl : first = b := by simpa [abandoned, outstanding] using head
      rw [(acceptOffered_touches _).dram (by decide), answerMemory_onPath_dram, if_neg (by simp [abandoned])]
    · next none => simp [abandoned, none] at head

/-- A step of memory alone leaves the rest of the state. -/
theorem memory_only (h : Touches [.dram, .freeCount] s t) :
    ∃ dram free, t = { s with dram := dram, freeCount := free } := by
  refine ⟨t.dram, t.freeCount, ?_⟩
  cases s
  cases t
  simp only [State.mk.injEq, true_and]
  exact ⟨h.phase (by decide), h.cause (by decide), h.settings (by decide), h.path (by decide), h.intake (by decide),
    h.engine (by decide), h.lanes (by decide), h.keys (by decide), h.totals (by decide), h.report (by decide),
    h.directives (by decide), h.sweepCount (by decide), h.port (by decide), h.nv (by decide), h.pending (by decide)⟩

/-! ### The command, in a quiet state -/

theorem exec_answer (h : Quiet s) (okay : Bool) (data : List Byte) :
    exec (.downstreamAnswer okay data) s = .next (reportDue (answerStep okay data s)) :=
  congrArg Host.Outcome.next (event_of _ h)

theorem answerStep_abandoned {b : Burst} {rest : List Burst} (h : s.path.abandoned = b :: rest) (okay : Bool)
    (data : List Byte) :
    answerStep okay data s = abandonedMemory b okay (onPath (fun p => { p with abandoned := rest }) s) := by
  simp only [answerStep, h]

theorem answerStep_outstanding {b : Burst} {rest : List Burst} (none : s.path.abandoned = [])
    (h : s.path.outstanding = b :: rest) (okay : Bool) (data : List Byte) :
    answerStep okay data s = acceptOffered (answerMemory b okay
      (onPath (fun p => answerPath s.settings.map b okay data { p with outstanding := rest }) s)) := by
  simp only [answerStep, none, h]

/-- R11: the answer to an internal burst is kept with its entry, which its last burst acknowledges. -/
theorem answerPath_internal {b : Burst} {kind : EntryKind} {last : Bool} (origin : b.origin = .internal kind last)
    (map : WindowMap) (okay : Bool) (data : List Byte) (p : PathFront) :
    answerPath map b okay data p = { p with
      entryFailed := !last && (p.entryFailed || !okay)
      acks := if last then p.acks ++ [⟨kind, okay && !p.entryFailed⟩] else p.acks } := by
  cases last <;> simp [answerPath, origin]

/-- Settles O12. -/
theorem answersReachMemory : Obligations.AnswersReachMemory := by
  refine ⟨fun s b okay data quiet head => ⟨_, exec_answer quiet okay data, fun beats op a => ?_, fun length op => ?_⟩,
    fun s okay data quiet => ⟨fun b rest abandoned => ?_, fun b rest kind last none abandoned outstanding origin => ?_,
      fun abandoned outstanding => ?_⟩⟩
  · rw [(reportDue_touches _).dram (by decide), answerStep_dram head]
    refine ⟨fun old summary => if_pos ⟨old, ofSummary_iff.mpr summary⟩, fun written => ?_⟩
    rw [if_neg (by
      rintro ⟨old, summary⟩
      obtain ⟨last, origin⟩ := ofSummary_iff.mp summary
      exact written.elim old fun other => other last origin)]
    exact ⟨fun h => h ▸ answerMemory_okay op s a, fun h => h ▸ answerMemory_error op s a⟩
  · rw [(reportDue_touches _).dram (by decide), answerStep_dram head, answerMemory_read op, ite_self]
  · have touched := abandonedMemory_touches (onPath (fun p => { p with abandoned := rest }) s) b okay
    obtain ⟨dram, free, result⟩ := memory_only touched
    refine ⟨dram, free, (exec_answer quiet okay data).trans (congrArg Host.Outcome.next ?_)⟩
    rw [answerStep_abandoned abandoned, reportDue_of_kept (quiet_reports quiet)
      (((onPath_touches s _).mono (gs := [.path, .dram, .freeCount]) (by decide)).andThen touched (by decide))]
    exact result
  · generalize atPath : onPath (fun p => answerPath s.settings.map b okay data { p with outstanding := rest }) s = u
    have touched := answerMemory_touches u b okay
    have path : u.path = { s.path with
        outstanding := rest
        entryFailed := !last && (s.path.entryFailed || !okay)
        acks := if last then s.path.acks ++ [⟨kind, okay && !s.path.entryFailed⟩] else s.path.acks } :=
      atPath ▸ answerPath_internal origin _ _ _ _
    have noneAfter : NoneAcceptable (answerMemory b okay u) := by
      unfold NoneAcceptable
      rw [touched.path (by decide), touched.phase (by decide), path, ← atPath]
      exact none
    have kept : Touches [.path, .dram, .freeCount] s (answerMemory b okay u) :=
      (atPath ▸ (onPath_touches s _).mono (by decide)).andThen touched (by decide)
    obtain ⟨dram, free, result⟩ := memory_only touched
    refine ⟨dram, free, (exec_answer quiet okay data).trans (congrArg Host.Outcome.next ?_)⟩
    rw [answerStep_outstanding abandoned outstanding, atPath, acceptOffered_of noneAfter,
      reportDue_of_kept (quiet_reports quiet) kept, result, ← path, ← atPath]
    rfl
  · have idle : answerStep okay data s = s := by simp only [answerStep, abandoned, outstanding]
    rw [exec_answer quiet, idle, reportDue_of (quiet_reports quiet).2]

/-! ### The answer to a pass-through burst (R1, R6, R7, R8) -/

/-- R11: the answer goes to the oldest transaction with a burst not yet answered. -/
theorem answerTxn_eq {before after : List UpTxn} {x : UpTxn} (done : ∀ y ∈ before, y.awaiting = 0)
    (waits : x.awaiting ≠ 0) (okay : Bool) (data : List Byte) :
    answerTxn okay data (before ++ x :: after) = before ++ { x with
      awaiting := x.awaiting - 1
      failed := x.failed || !okay
      data := if x.isRead then x.data ++ data else x.data } :: after := by
  induction before with
  | nil => exact if_neg waits
  | cons y ys ih =>
    rw [List.cons_append, answerTxn, if_pos (done y List.mem_cons_self), ih fun z hz => done z (List.mem_cons_of_mem _ hz)]
    rfl

/-- R1: the complete transactions at the front are answered, in order. -/
theorem sendResponses_eq (l : List UpTxn) : sendResponses l =
    ((l.takeWhile fun x => x.awaiting == 0).map responseOf, l.dropWhile fun x => x.awaiting == 0) := by
  induction l with
  | nil => rfl
  | cons t ts ih =>
    unfold sendResponses
    by_cases complete : t.awaiting = 0
    · simp [complete, ih]
    · simp [complete]

theorem respond_eq (p : PathFront) : respond p = { p with
    responses := p.responses ++ (p.accepted.takeWhile fun x => x.awaiting == 0).map responseOf
    accepted := p.accepted.dropWhile fun x => x.awaiting == 0 } := by
  rw [respond, sendResponses_eq]

/-- The status beat, by its offset, that a numbered beat of a burst is, if it is one. -/
def statusBeat (map : WindowMap) (addr : Nat) (x : Beat × Nat) : Option (Nat × Beat) :=
  match classOf map (addr + 8 * x.2) with
  | .status offset => some (offset, x.1)
  | _ => none

/-- R8: the return word that a status beat is, if it is one. -/
def asReturn (x : Nat × Beat) : Option ShownReturn :=
  if 0x280 ≤ x.1 ∧ x.1 < 0x2A8 then some ⟨(x.1 - 0x280) / 8, x.2⟩ else none

/-- R8: the directive unit's word that a status beat is, if it is one. -/
def asDirective (x : Nat × Beat) : Option ShownBeat :=
  if x.1 = 0x2A8 ∨ (0x400 ≤ x.1 ∧ x.1 < 0x600) then some ⟨x.1, x.2⟩ else none

/-- Status beats shown to their units. -/
def withShown (shown : List (Nat × Beat)) (p : PathFront) : PathFront :=
  { p with
    shownReturns := p.shownReturns ++ shown.filterMap asReturn
    shownDirectives := p.shownDirectives ++ shown.filterMap asDirective }

theorem withShown_append (a b : List (Nat × Beat)) (p : PathFront) :
    withShown b (withShown a p) = withShown (a ++ b) p := by
  simp [withShown, List.append_assoc]

/-- R8: one beat is shown as the status beat it is. -/
theorem showBeat_eq (map : WindowMap) (addr i : Nat) (b : Beat) (p : PathFront) :
    showBeat map (addr + 8 * i) b p = withShown (statusBeat map addr (b, i)).toList p := by
  unfold showBeat statusBeat
  cases classOf map (addr + 8 * i) with
  | status offset =>
    by_cases isReturn : 0x280 ≤ offset ∧ offset ≤ 0x2A7
    · have below : offset < 0x2A8 := by omega
      have other : ¬(offset = 0x2A8 ∨ (0x400 ≤ offset ∧ offset < 0x600)) := by omega
      simp [returnChannel, withShown, asReturn, asDirective, isReturn, below, other]
    · have noReturn : ¬(0x280 ≤ offset ∧ offset < 0x2A8) := by omega
      by_cases toDirectives : offset = 0x2A8 ∨ (0x400 ≤ offset ∧ offset < 0x600) <;>
        simp [returnChannel, shownToDirectives, withShown, asReturn, asDirective, isReturn, noReturn, toDirectives]
  | intake w slot offset => simp [withShown]
  | plain => simp [withShown]

/-- R8: the beats of a burst are shown in beat order. -/
theorem showBeats_zipIdx (map : WindowMap) (addr : Nat) (beats : List Beat) (i : Nat) (p : PathFront) :
    showBeats map (addr + 8 * i) beats p = withShown ((beats.zipIdx i).filterMap (statusBeat map addr)) p := by
  induction beats generalizing i p with
  | nil => simp [showBeats, withShown]
  | cons b bs ih =>
    rw [showBeats, showBeat_eq, show addr + 8 * i + 8 = addr + 8 * (i + 1) by omega, ih, withShown_append]
    congr 1
    rw [List.zipIdx_cons, List.filterMap_cons]
    cases statusBeat map addr (b, i) <;> rfl

/-- R8: a write burst answered OKAY shows its status beats, and no other answer shows one. -/
theorem showBurst_shown {b : Burst} {okay : Bool} (map : WindowMap) (p : PathFront) {shown : List (Nat × Beat)}
    (write : ∀ beats, okay = true → b.op = .write beats → shown = beats.zipIdx.filterMap (statusBeat map b.addr))
    (other : (okay = false ∨ ∃ length, b.op = .read length) → shown = []) :
    showBurst map b okay p = withShown shown p := by
  have nothing : withShown [] p = p := by simp [withShown]
  unfold showBurst
  split
  · next beats op =>
    split
    · next h =>
      rw [write beats h op]
      exact showBeats_zipIdx map b.addr beats 0 p
    · next h => rw [other (.inl (by simpa using h)), nothing]
  · next length op => rw [other (.inr ⟨length, op⟩), nothing]

/-- Settles O13: the path front's side of the answer, and what has come to be acceptable after it. -/
theorem passThroughAnswersCompleteTransactions : Obligations.PassThroughAnswersCompleteTransactions := by
  intro s okay data b rest before x after now shown quiet abandoned outstanding origin accepted done waits hnow hshown
  have answered : answerTxn okay data s.path.accepted = now := by rw [accepted, answerTxn_eq done waits, hnow]
  have shows (p : PathFront) : showBurst s.settings.map b okay p = withShown shown p := by
    refine showBurst_shown _ p (fun beats h op => ?_) fun h => ?_
    · subst h
      rw [hshown, op]
      rfl
    · rw [hshown]
      rcases h with rfl | ⟨length, op⟩
      · rfl
      · rw [op]
        cases okay <;> rfl
  have path : answerPath s.settings.map b okay data { s.path with outstanding := rest } = { s.path with
      outstanding := rest
      responses := s.path.responses ++
        (now.takeWhile fun y => y.awaiting == 0).map fun y => ⟨y.isRead, !y.failed, y.data⟩
      accepted := now.dropWhile fun y => y.awaiting == 0
      shownReturns := s.path.shownReturns ++ shown.filterMap asReturn
      shownDirectives := s.path.shownDirectives ++ shown.filterMap asDirective } := by
    simp only [answerPath, origin]
    rw [shows, respond_eq, ← answered]
    rfl
  obtain ⟨dram, free, result⟩ := memory_only (answerMemory_touches
    (onPath (fun p => answerPath s.settings.map b okay data { p with outstanding := rest }) s) b okay)
  refine ⟨dram, free, (exec_answer quiet okay data).trans ?_⟩
  rw [answerStep_outstanding abandoned outstanding, result]
  simp only [onPath, path]
  rfl

end Sys2Proof.Proofs
end

section
/-! SUPPORT. The entries of the internal write queue: how bytes are cut into beats and beats into bursts (R9). -/

namespace Sys2Proof.Proofs

open Sys2Proof Sys2Proof.Machine Sys2Proof.Laws

/-! ### Bytes in a beat -/

/-- The byte at a position of a little-endian number. -/
theorem leNat_byte (l : List Byte) (i : Nat) : leNat l / 256 ^ i % 256 = (l.getD i 0).toNat := by
  induction l generalizing i with
  | nil => simp [leNat]
  | cons b bs ih =>
    have byte : b.toNat < 256 := b.isLt
    cases i with
    | zero =>
      simp only [leNat, Nat.pow_zero, Nat.div_one, List.getD_cons_zero]
      omega
    | succ i =>
      rw [leNat, Nat.pow_succ', ← Nat.div_div_eq_div_mul, List.getD_cons_succ, ← ih]
      congr 2
      omega

theorem leNat_lt (l : List Byte) : leNat l < 256 ^ l.length := by
  induction l with
  | nil => simp [leNat]
  | cons b bs ih =>
    have byte : b.toNat < 256 := b.isLt
    rw [leNat, List.length_cons, Nat.pow_succ']
    omega

/-- A beat of eight bytes holds them in order. -/
theorem beatByte_fullBeat {l : List Byte} (h : l.length ≤ 8) (i : Nat) : beatByte (fullBeat l) i = l.getD i 0 := by
  have fits : leNat l < 2 ^ 64 := (leNat_lt l).trans_le (Nat.pow_le_pow_right (by decide) h)
  apply BitVec.eq_of_toNat_eq
  have shift : 2 ^ (8 * i) = 256 ^ i := by rw [Nat.pow_mul]
  rw [beatByte, fullBeat, BitVec.extractLsb'_toNat, BitVec.toNat_ofNat, Nat.mod_eq_of_lt fits, Nat.shiftRight_eq_div_pow,
    shift, ← leNat_byte]

theorem beatStrobe_fullBeat (l : List Byte) {i : Nat} (h : i < 8) : beatStrobe (fullBeat l) i = true := by
  have all : ∀ i < 8, BitVec.getLsbD (255#8) i = true := by decide
  exact all i h

/-- The cells of bytes written from an address on. -/
def byteCells (addr : Nat) (bytes : List Byte) : List Host.Cell :=
  (List.range bytes.length).map fun i => (addr + i, bytes.getD i 0)

theorem byteCells_append (addr : Nat) (a b : List Byte) :
    byteCells addr (a ++ b) = byteCells addr a ++ byteCells (addr + a.length) b := by
  simp only [byteCells, List.length_append, List.range_add, List.map_append, List.map_map]
  congr 1
  · refine List.map_congr_left fun i hi => ?_
    rw [List.getD_append _ _ _ _ (List.mem_range.mp hi)]
  · refine List.map_congr_left fun i _ => ?_
    simp [List.getElem?_append_right, Nat.add_assoc]

theorem beatCells_fullBeat {l : List Byte} (h : l.length = 8) (addr : Nat) :
    beatCells addr (fullBeat l) = byteCells addr l := by
  have all : (List.range 8).filter (beatStrobe (fullBeat l)) = List.range 8 :=
    List.filter_eq_self.mpr fun i hi => beatStrobe_fullBeat l (List.mem_range.mp hi)
  rw [beatCells, all, byteCells, h]
  exact List.map_congr_left fun i _ => by rw [beatByte_fullBeat h.le]

/-- Bytes, a multiple of 8 of them, written beat by beat. -/
theorem beatsCells_fullBeats (fuel : Nat) (bytes : List Byte) (fits : bytes.length ≤ fuel) (whole : bytes.length % 8 = 0)
    (addr : Nat) : beatsCells addr ((chunksOf 8 fuel bytes).map fullBeat) = byteCells addr bytes := by
  induction fuel generalizing bytes addr with
  | zero =>
    obtain rfl : bytes = [] := List.length_eq_zero_iff.mp (by omega)
    rfl
  | succ fuel ih =>
    unfold chunksOf
    split
    · next empty =>
      obtain rfl := List.isEmpty_iff.mp empty
      rfl
    · next some =>
      have positive : bytes.length ≠ 0 := by simpa [List.isEmpty_iff] using some
      have first : (bytes.take 8).length = 8 := by rw [List.length_take]; omega
      have rest := ih (bytes.drop 8) (by rw [List.length_drop]; omega) (by rw [List.length_drop]; omega) (addr + 8)
      rw [List.map_cons, beatsCells, beatCells_fullBeat first, rest]
      conv_rhs => rw [← List.take_append_drop 8 bytes, byteCells_append, first]

theorem chunksOf_length_le {α : Type} {n : Nat} (pos : 0 < n) (fuel : Nat) (l : List α) :
    n * (chunksOf n fuel l).length ≤ l.length + (n - 1) := by
  induction fuel generalizing l with
  | zero => simp [chunksOf]
  | succ fuel ih =>
    unfold chunksOf
    split
    · simp
    · next some =>
      have positive : l.length ≠ 0 := by simpa [List.isEmpty_iff] using some
      have rest := ih (l.drop n)
      rw [List.length_drop] at rest
      rw [List.length_cons, Nat.mul_succ]
      have dropped : l.length - n + (n - 1) + n ≤ l.length + (n - 1) ∨ l.length < n := by omega
      rcases dropped with h | h
      · omega
      · have none : l.drop n = [] := List.drop_eq_nil_of_le h.le
        have empty : (chunksOf n fuel ([] : List α)).length = 0 := by cases fuel <;> simp [chunksOf]
        rw [none, empty]
        omega

theorem chunksOf_ne_nil {α : Type} {n fuel : Nat} {l : List α} (some : l ≠ []) (fuelled : l.length ≤ fuel) :
    chunksOf n fuel l ≠ [] := by
  cases fuel with
  | zero => exact absurd (List.length_eq_zero_iff.mp (by omega)) some
  | succ fuel => simp [chunksOf, some]

/-! ### Beats in bursts -/

/-- R9: these bursts of an entry are its beats from an address, 16 in each but the last, which alone ends the entry. -/
inductive CutInBursts (kind : EntryKind) : Nat → List Beat → List Burst → Prop where
  | none (addr : Nat) : CutInBursts kind addr [] []
  | last {beats : List Beat} (addr : Nat) (some : beats ≠ []) (few : beats.length ≤ 16) :
      CutInBursts kind addr beats [⟨.internal kind true, addr, .write beats⟩]
  | more {first rest : List Beat} {addr : Nat} {bursts : List Burst} (full : first.length = 16) (some : rest ≠ [])
      (cut : CutInBursts kind (addr + 128) rest bursts) :
      CutInBursts kind addr (first ++ rest) (⟨.internal kind false, addr, .write first⟩ :: bursts)

theorem burstsFrom_cons (kind : EntryKind) (addr : Nat) (b : List Beat) {rest : List (List Beat)} (some : rest ≠ []) :
    burstsFrom kind addr (b :: rest) = ⟨.internal kind false, addr, .write b⟩ :: burstsFrom kind (addr + 128) rest := by
  cases rest with
  | nil => exact absurd rfl some
  | cons c rest => rfl

theorem burstsFrom_cut (kind : EntryKind) (fuel : Nat) (beats : List Beat) (fits : beats.length ≤ fuel) (addr : Nat) :
    CutInBursts kind addr beats (burstsFrom kind addr (chunksOf 16 fuel beats)) := by
  induction fuel generalizing beats addr with
  | zero =>
    obtain rfl : beats = [] := List.length_eq_zero_iff.mp (by omega)
    exact .none addr
  | succ fuel ih =>
    unfold chunksOf
    split
    · next empty =>
      obtain rfl := List.isEmpty_iff.mp empty
      exact .none addr
    · next some =>
      have some : beats ≠ [] := by simpa using some
      have positive : beats.length ≠ 0 := by simpa using some
      have restFits : (beats.drop 16).length ≤ fuel := by rw [List.length_drop]; omega
      by_cases few : beats.length ≤ 16
      · have restNone : chunksOf 16 fuel (beats.drop 16) = [] := by
          rw [List.drop_eq_nil_of_le few]
          cases fuel <;> simp [chunksOf]
        rw [restNone, List.take_of_length_le few]
        exact .last addr some few
      · have restSome : beats.drop 16 ≠ [] := by
          rw [Ne, List.drop_eq_nil_iff]
          omega
        have cut := CutInBursts.more (first := beats.take 16) (by rw [List.length_take]; omega) restSome
          (ih (beats.drop 16) restFits (addr + 128))
        rw [burstsFrom_cons kind addr _ (chunksOf_ne_nil restSome restFits)]
        rwa [List.take_append_drop] at cut

/-- The bursts of an entry that writes bytes are these bytes' beats, cut. -/
theorem entryOfBytes_cut (kind : EntryKind) (addr : Nat) (bytes : List Byte) :
    CutInBursts kind addr ((chunksOf 8 bytes.length bytes).map fullBeat) (entryOfBytes kind addr bytes).bursts := by
  refine burstsFrom_cut kind bytes.length _ ?_ addr
  have count := chunksOf_length_le (n := 8) (by decide) bytes.length bytes
  rw [List.length_map]
  omega

/-- The bytes that a burst writes. -/
def burstCells (b : Burst) : List Host.Cell :=
  match b.op with
  | .write beats => beatsCells b.addr beats
  | .read _ => []

namespace CutInBursts

variable {kind : EntryKind} {addr : Nat} {beats : List Beat} {bursts : List Burst}

theorem cells (h : CutInBursts kind addr beats bursts) : bursts.flatMap burstCells = beatsCells addr beats := by
  have append : ∀ (a b : List Beat) (addr : Nat),
      beatsCells addr (a ++ b) = beatsCells addr a ++ beatsCells (addr + 8 * a.length) b := by
    intro a b
    induction a with
    | nil => intro addr; rfl
    | cons x xs ih =>
      intro addr
      rw [List.cons_append, beatsCells, ih, beatsCells, List.append_assoc, List.length_cons]
      congr 3
      omega
  induction h with
  | none => rfl
  | last => simp [burstCells]
  | more full _ _ ih =>
    rw [List.flatMap_cons, ih, append, full]
    rfl

theorem shape (h : CutInBursts kind addr beats bursts) (some : beats ≠ []) :
    ∃ first last, bursts = first ++ [last] ∧
      (last.origin = .internal kind true ∧ ∃ beats, last.op = .write beats ∧ 1 ≤ beats.length ∧ beats.length ≤ 16) ∧
      ∀ b ∈ first, b.origin = .internal kind false ∧ ∃ beats, b.op = .write beats ∧ beats.length = 16 := by
  induction h with
  | none => exact absurd rfl some
  | last _ some few =>
    exact ⟨[], _, rfl, ⟨rfl, _, rfl, List.length_pos_of_ne_nil some, few⟩, by simp⟩
  | more full restSome _ ih =>
    obtain ⟨first, last, rfl, ends, fulls⟩ := ih restSome
    refine ⟨_ :: first, last, rfl, ends, fun b hb => ?_⟩
    rcases List.mem_cons.mp hb with rfl | hb
    · exact ⟨rfl, _, rfl, full⟩
    · exact fulls b hb

/-- Every burst is the entry's. -/
theorem origin (h : CutInBursts kind addr beats bursts) : ∀ b ∈ bursts, ∃ last, b.origin = .internal kind last := by
  induction h with
  | none => simp
  | last => simp
  | more _ _ _ ih =>
    intro b hb
    rcases List.mem_cons.mp hb with rfl | hb
    · exact ⟨false, rfl⟩
    · exact ih b hb

/-- Every burst writes within the entry's beats. -/
theorem within (h : CutInBursts kind addr beats bursts) : ∀ b ∈ bursts, ∀ run, b.op = .write run →
    addr ≤ b.addr ∧ b.addr + 8 * run.length ≤ addr + 8 * beats.length := by
  induction h with
  | none => simp
  | last =>
    intro b hb run op
    obtain rfl := List.mem_singleton.mp hb
    cases op
    exact ⟨Nat.le_refl _, Nat.le_refl _⟩
  | more full _ _ ih =>
    intro b hb run op
    rw [List.length_append, full]
    rcases List.mem_cons.mp hb with rfl | hb
    · cases op
      exact ⟨Nat.le_refl _, by dsimp only; omega⟩
    · obtain ⟨low, high⟩ := ih b hb run op
      omega

end CutInBursts

/-- Settles O37: the bytes cut into beats, and the beats into bursts. -/
theorem entriesWriteTheirBytes : Obligations.EntriesWriteTheirBytes := by
  intro kind addr bytes whole some
  have cut := entryOfBytes_cut kind addr bytes
  have beatsSome : (chunksOf 8 bytes.length bytes).map fullBeat ≠ [] := by
    simpa using chunksOf_ne_nil some (Nat.le_refl _)
  exact ⟨rfl, cut.cells.trans (beatsCells_fullBeats _ bytes (Nat.le_refl _) whole addr), cut.shape beatsSome⟩

end Sys2Proof.Proofs
end

section
/-! SUPPORT. The classing of an accepted write: its forwarded runs and its slot writes (R3 to R6, R19). -/

namespace Sys2Proof.Proofs

open Sys2Proof Sys2Proof.Machine Sys2Proof.Laws

/-! ### The beats of a write, classed -/

/-- A numbered beat, classed, where it is not empty (R3). -/
def classedBeat (map : WindowMap) (start : BitVec 40) (x : Beat × Nat) : Option ClassedBeat :=
  if beatEmpty x.1 then none else some ⟨x.2, beatAddr start x.2, classOf map (beatAddr start x.2), x.1⟩

theorem classBeats_eq (map : WindowMap) (start : BitVec 40) (i : Nat) (beats : List Beat) :
    classBeats map start i beats = (beats.zipIdx i).filterMap (classedBeat map start) := by
  induction beats generalizing i with
  | nil => rfl
  | cons b bs ih =>
    rw [classBeats, List.zipIdx_cons, List.filterMap_cons, ih]
    unfold classedBeat
    split <;> rfl

/-- The classed beats of a write: in beat order, each at its own address, all positions below `n`. -/
structure Indexed (start : BitVec 40) (n : Nat) (cs : List ClassedBeat) : Prop where
  order : cs.Pairwise fun c d => c.index < d.index
  place : ∀ c ∈ cs, c.addr = beatAddr start c.index ∧ c.index < n

theorem Indexed.tail {start : BitVec 40} {n : Nat} {c : ClassedBeat} {cs : List ClassedBeat}
    (h : Indexed start n (c :: cs)) : Indexed start n cs :=
  ⟨(List.pairwise_cons.mp h.order).2, fun d hd => h.place d (List.mem_cons_of_mem _ hd)⟩

theorem classBeats_mem {map : WindowMap} {start : BitVec 40} {i : Nat} {beats : List Beat} {c : ClassedBeat}
    (h : c ∈ classBeats map start i beats) :
    c.addr = beatAddr start c.index ∧ c.cls = classOf map c.addr ∧ i ≤ c.index ∧ c.index < i + beats.length := by
  rw [classBeats_eq, List.mem_filterMap] at h
  obtain ⟨⟨b, k⟩, mem, classed⟩ := h
  obtain ⟨low, high, -⟩ := List.mem_zipIdx mem
  unfold classedBeat at classed
  split at classed
  · simp at classed
  · obtain rfl := Option.some_injective _ classed
    exact ⟨rfl, rfl, low, high⟩

theorem classBeats_indexed (map : WindowMap) (start : BitVec 40) (i : Nat) (beats : List Beat) :
    Indexed start (i + beats.length) (classBeats map start i beats) := by
  refine ⟨?_, fun c h => ?_⟩
  · induction beats generalizing i with
    | nil => exact .nil
    | cons b bs ih =>
      unfold classBeats
      split
      · exact ih (i + 1)
      · refine List.pairwise_cons.mpr ⟨fun d hd => ?_, ih (i + 1)⟩
        have later := (classBeats_mem hd).2.2.1
        exact later
  · obtain ⟨addr, -, -, high⟩ := classBeats_mem h
    exact ⟨addr, high⟩

/-! ### The forwarded runs (R4) -/

/-- A forwarded beat with its address. -/
def forwarded (c : ClassedBeat) : Option (Nat × Beat) :=
  match c.cls with
  | .intake _ _ _ => none
  | _ => some (c.addr, c.beat)

/-- The beats of a burst with their addresses. -/
def runBeats (addr : Nat) (beats : List Beat) : List (Nat × Beat) := beats.zipIdx.map fun x => (addr + 8 * x.2, x.1)

theorem runBeats_cons (addr : Nat) (b : Beat) (bs : List Beat) :
    runBeats addr (b :: bs) = (addr, b) :: runBeats (addr + 8) bs := by
  unfold runBeats
  rw [List.zipIdx_cons', List.map_cons, List.map_map]
  congr 1
  exact List.map_congr_left fun x _ => Prod.ext (by simp [Prod.map]; omega) rfl

/-- A run: its first address is that of its first beat, and it lies in one aligned block of 4096 bytes. -/
structure RunGood (start : BitVec 40) (n : Nat) (r : ForwardRun) : Prop where
  addr  : r.addr = beatAddr start r.index
  below : r.index < n
  some  : r.beats ≠ []
  block : ∀ k < r.beats.length, (r.addr + 8 * k) / 4096 = r.addr / 4096

/-- One run ends before the next begins, and does not go on in the same block. -/
def Apart (x y : ForwardRun) : Prop :=
  x.index + x.beats.length ≤ y.index ∧ (y.index = x.index + x.beats.length → y.addr / 4096 ≠ x.addr / 4096)

/-- R4: these are the runs of the forwarded ones among classed beats. -/
structure RunsOf (start : BitVec 40) (n : Nat) (cs : List ClassedBeat) (runs : List ForwardRun) : Prop where
  good  : ∀ r ∈ runs, RunGood start n r
  apart : runs.IsChain Apart
  heads : ∀ r ∈ runs, ∃ c ∈ cs, c.index = r.index
  beats : (runs.flatMap fun r => runBeats r.addr r.beats) = cs.filterMap forwarded

/-- Two beats next to each other in one block stand 8 bytes apart. -/
theorem beatAddr_succ {start : BitVec 40} {i : Nat} (h : beatAddr start (i + 1) / 4096 = beatAddr start i / 4096) :
    beatAddr start (i + 1) = beatAddr start i + 8 := by
  unfold beatAddr at *
  omega

/-- Beats that do not follow each other in a write of 16 beats do not stand next to each other. -/
theorem beatAddr_apart {start : BitVec 40} {i j k : Nat} (h : i + k < j) (short : j < 16) :
    beatAddr start j ≠ beatAddr start i + 8 * k := by
  unfold beatAddr
  omega

/-- A beat put in front of the runs of the beats behind it. -/
theorem joinRun_runsOf {start : BitVec 40} {n : Nat} {c : ClassedBeat} {cs : List ClassedBeat} {runs : List ForwardRun}
    (indexed : Indexed start n (c :: cs)) (h : RunsOf start n cs runs) (isForwarded : forwarded c = some (c.addr, c.beat)) :
    RunsOf start n (c :: cs) (joinRun c runs) := by
  obtain ⟨good, apart, heads, beats⟩ := h
  obtain ⟨place, below⟩ := indexed.place c List.mem_cons_self
  have before : ∀ r ∈ runs, c.index < r.index := fun r hr => by
    obtain ⟨d, hd, e⟩ := heads r hr
    exact e ▸ (List.pairwise_cons.mp indexed.order).1 d hd
  have single : RunGood start n ⟨c.index, c.addr, [c.beat]⟩ :=
    ⟨place, below, by simp, fun k hk => by simp_all⟩
  have headsBehind : ∀ r ∈ runs, ∃ d ∈ c :: cs, d.index = r.index := fun r hr => by
    obtain ⟨d, hd, e⟩ := heads r hr
    exact ⟨d, List.mem_cons_of_mem _ hd, e⟩
  cases runs with
  | nil =>
    refine ⟨by simpa [joinRun] using single, by simp [joinRun], by simp [joinRun], ?_⟩
    simp only [List.flatMap_nil] at beats
    simp [joinRun, isForwarded, ← beats, runBeats]
  | cons r rs =>
    have goodHead := good r List.mem_cons_self
    have goodRest : ∀ q ∈ rs, RunGood start n q := fun q hq => good q (List.mem_cons_of_mem _ hq)
    rw [joinRun]
    split
    · next joins =>
      obtain ⟨next, block⟩ := joins
      have addr : r.addr = c.addr + 8 := by
        rw [goodHead.addr, next, place]
        rw [goodHead.addr, next, place] at block
        exact beatAddr_succ block
      refine ⟨fun q hq => ?_, ?_, fun q hq => ?_, ?_⟩
      · rcases List.mem_cons.mp hq with rfl | hq
        · refine ⟨place, below, by simp, fun k hk => ?_⟩
          cases k with
          | zero => rfl
          | succ k =>
            have inBlock := goodHead.block k (by simpa using hk)
            rw [addr] at inBlock block
            dsimp only
            rw [← block, ← inBlock]
            congr 1
            omega
        · exact goodRest q hq
      · rw [List.isChain_cons] at apart ⊢
        refine ⟨fun y hy => ?_, apart.2⟩
        obtain ⟨ends, split⟩ := apart.1 y hy
        rw [next] at ends split
        rw [block] at split
        refine ⟨?_, fun e => split ?_⟩
        · simp only [List.length_cons]; omega
        · rw [e]; simp only [List.length_cons]; omega
      · rcases List.mem_cons.mp hq with rfl | hq
        · exact ⟨c, List.mem_cons_self, rfl⟩
        · exact headsBehind q (List.mem_cons_of_mem _ hq)
      · rw [List.filterMap_cons, isForwarded, ← beats]
        simp [runBeats_cons, addr]
    · next parts =>
      refine ⟨fun q hq => ?_, ?_, fun q hq => ?_, ?_⟩
      · rcases List.mem_cons.mp hq with rfl | hq
        · exact single
        · exact good q hq
      · refine List.isChain_cons_cons.mpr ⟨⟨before r List.mem_cons_self, fun e block => parts ⟨e, block⟩⟩, apart⟩
      · rcases List.mem_cons.mp hq with rfl | hq
        · exact ⟨c, List.mem_cons_self, rfl⟩
        · exact headsBehind q hq
      · rw [List.filterMap_cons, isForwarded, ← beats]
        simp [runBeats]

theorem forwardRunsOf_runsOf {start : BitVec 40} {n : Nat} {cs : List ClassedBeat} (indexed : Indexed start n cs) :
    RunsOf start n cs (forwardRunsOf cs) := by
  induction cs with
  | nil => exact ⟨by simp [forwardRunsOf], .nil, by simp [forwardRunsOf], rfl⟩
  | cons c cs ih =>
    have behind := ih indexed.tail
    unfold forwardRunsOf
    split
    · next cls =>
      obtain ⟨good, apart, heads, beats⟩ := behind
      refine ⟨good, apart, fun r hr => ?_, ?_⟩
      · obtain ⟨d, hd, e⟩ := heads r hr
        exact ⟨d, List.mem_cons_of_mem _ hd, e⟩
      · rw [beats, List.filterMap_cons, forwarded, cls]
    · next plain =>
      refine joinRun_runsOf indexed behind ?_
      unfold forwarded
      split
      · next cls => exact absurd cls (plain _ _ _)
      · rfl

/-- R4: the bursts of a write of at most 16 beats are maximal. -/
theorem RunsOf.bursts_apart {start : BitVec 40} {cs : List ClassedBeat} {runs : List ForwardRun}
    (h : RunsOf start 16 cs runs) : (runs.map burstOfRun).IsChain fun x y => ∀ run, x.op = .write run →
      y.addr ≠ x.addr + 8 * run.length ∨ y.addr / 4096 ≠ x.addr / 4096 := by
  obtain ⟨good, apart, -, -⟩ := h
  rw [List.isChain_map]
  induction runs with
  | nil => exact .nil
  | cons r rs ih =>
    rw [List.isChain_cons] at apart ⊢
    refine ⟨fun y hy run op => ?_, ih (fun q hq => good q (List.mem_cons_of_mem _ hq)) apart.2⟩
    obtain rfl : r.beats = run := by simpa [burstOfRun] using op
    obtain ⟨ends, split⟩ := apart.1 y hy
    have goodHead := good r List.mem_cons_self
    have goodNext := good y (List.mem_cons_of_mem _ (List.mem_of_mem_head? hy))
    by_cases next : y.index = r.index + r.beats.length
    · exact .inr (split next)
    · left
      change y.addr ≠ r.addr + 8 * r.beats.length
      rw [goodNext.addr, goodHead.addr]
      exact beatAddr_apart (by omega) goodNext.below

/-! ### The slot writes (R19) -/

/-- An intake beat with its slot and offset. -/
def slotted (c : ClassedBeat) : Option (Nat × Nat × Nat × Beat) :=
  match c.cls with
  | .intake w slot offset => some (w, slot, offset, c.beat)
  | _ => none

/-- The beats of a slot write, each with its slot and offset. -/
def groupBeats (g : SlotWrite) : List (Nat × Nat × Nat × Beat) := g.beats.map fun b => (g.window, g.slot, b.1, b.2)

/-- R19: these are the slot writes of the intake beats among classed beats. -/
structure GroupsOf (cs : List ClassedBeat) (groups : List SlotWrite) : Prop where
  beats : groups.flatMap groupBeats = cs.filterMap slotted
  some  : ∀ g ∈ groups, g.beats ≠ []
  apart : groups.IsChain fun x y => (x.window, x.slot) ≠ (y.window, y.slot)

theorem joinSlotWrite_groups {cs : List ClassedBeat} {groups : List SlotWrite} (h : GroupsOf cs groups)
    {c : ClassedBeat} {w slot offset : Nat} (cls : c.cls = .intake w slot offset) :
    GroupsOf (c :: cs) (joinSlotWrite w slot offset c.beat groups) := by
  obtain ⟨beats, some, apart⟩ := h
  have isSlotted : slotted c = .some (w, slot, offset, c.beat) := by rw [slotted, cls]
  cases groups with
  | nil =>
    simp only [List.flatMap_nil] at beats
    exact ⟨by simp [joinSlotWrite, isSlotted, ← beats, groupBeats], by simp [joinSlotWrite], by simp [joinSlotWrite]⟩
  | cons g gs =>
    rw [joinSlotWrite]
    split
    · next same =>
      obtain ⟨rfl, rfl⟩ := same
      refine ⟨?_, fun q hq => ?_, ?_⟩
      · rw [List.filterMap_cons, isSlotted, ← beats]
        simp [groupBeats]
      · rcases List.mem_cons.mp hq with rfl | hq
        · simp
        · exact some q (List.mem_cons_of_mem _ hq)
      · rw [List.isChain_cons] at apart ⊢
        exact apart
    · next other =>
      refine ⟨?_, fun q hq => ?_, List.isChain_cons_cons.mpr ⟨fun e => other ?_, apart⟩⟩
      · rw [List.filterMap_cons, isSlotted, ← beats]
        simp [groupBeats]
      · rcases List.mem_cons.mp hq with rfl | hq
        · simp
        · exact some q hq
      · obtain ⟨rfl, rfl⟩ := Prod.mk.inj e
        exact ⟨rfl, rfl⟩

theorem slotWritesOf_groups (cs : List ClassedBeat) : GroupsOf cs (slotWritesOf cs) := by
  induction cs with
  | nil => exact ⟨rfl, by simp [slotWritesOf], .nil⟩
  | cons c cs ih =>
    unfold slotWritesOf
    split
    · next cls => exact joinSlotWrite_groups ih cls
    · next other =>
      obtain ⟨beats, some, apart⟩ := ih
      refine ⟨?_, some, apart⟩
      have notSlotted : slotted c = none := by
        unfold slotted
        split
        · next cls => exact absurd cls (other _ _ _)
        · rfl
      rw [List.filterMap_cons, notSlotted, beats]

theorem takeSlotWrites_taken (l : List SlotWrite) (s : State) :
    SlotWritesTaken s l (takeSlotWrites l s).1 (takeSlotWrites l s).2 := by
  induction l generalizing s with
  | nil => exact .none s
  | cons sw rest ih => exact .one (ih _)

/-! ### A write alone at an open port -/

/-- R4: a write of plain and status beats in one block is one run. -/
theorem classBeats_oneBlock {map : WindowMap} {start : BitVec 40} {i : Nat} {beats : List Beat} (some : beats ≠ [])
    (strobed : ∀ b ∈ beats, b.strobes ≠ 0)
    (outside : ∀ k < beats.length, ∀ w slot offset, classOf map (beatAddr start (i + k)) ≠ .intake w slot offset)
    (block : ∀ k < beats.length, beatAddr start (i + k) / 4096 = beatAddr start i / 4096) :
    forwardRunsOf (classBeats map start i beats) = [⟨i, beatAddr start i, beats⟩] ∧
      slotWritesOf (classBeats map start i beats) = [] := by
  induction beats generalizing i with
  | nil => exact absurd rfl some
  | cons b bs ih =>
    have full : beatEmpty b = false := by simpa [beatEmpty] using strobed b List.mem_cons_self
    have plain : ∀ w slot offset, classOf map (beatAddr start i) ≠ .intake w slot offset := outside 0 (by simp)
    have classed : classBeats map start i (b :: bs) =
        ⟨i, beatAddr start i, classOf map (beatAddr start i), b⟩ :: classBeats map start (i + 1) bs := by
      simp [classBeats, full]
    have runs : forwardRunsOf (classBeats map start i (b :: bs)) =
        joinRun ⟨i, beatAddr start i, classOf map (beatAddr start i), b⟩
          (forwardRunsOf (classBeats map start (i + 1) bs)) := by
      rw [classed, forwardRunsOf]
      cases cls : classOf map (beatAddr start i) with
      | intake w slot offset => exact absurd cls (plain w slot offset)
      | _ => rfl
    have groups : slotWritesOf (classBeats map start i (b :: bs)) = slotWritesOf (classBeats map start (i + 1) bs) := by
      rw [classed, slotWritesOf]
      cases cls : classOf map (beatAddr start i) with
      | intake w slot offset => exact absurd cls (plain w slot offset)
      | _ => rfl
    rw [runs, groups]
    cases bs with
    | nil => exact ⟨rfl, rfl⟩
    | cons b' bs =>
      have next := block 1 (by simp)
      obtain ⟨one, none⟩ := ih (i := i + 1) (by simp) (fun x hx => strobed x (List.mem_cons_of_mem _ hx))
        (fun k hk => Nat.add_right_comm i k 1 ▸ outside (k + 1) (by simpa using hk))
        (fun k hk => by
          rw [next, ← block (k + 1) (by simpa using hk), Nat.add_right_comm i 1 k]
          rfl)
      rw [one]
      exact ⟨if_pos ⟨rfl, next⟩, none⟩

theorem classBeats_empty {map : WindowMap} {start : BitVec 40} {i : Nat} {beats : List Beat}
    (empty : ∀ b ∈ beats, b.strobes = 0) : classBeats map start i beats = [] := by
  induction beats generalizing i with
  | nil => rfl
  | cons b bs ih =>
    have none : beatEmpty b = true := by simpa [beatEmpty] using empty b List.mem_cons_self
    rw [classBeats, if_pos none]
    exact ih fun x hx => empty x (List.mem_cons_of_mem _ hx)

variable {s : State}

/-- R1, R4: a write without intake beats, at an open port, is placed and nothing else happens. -/
theorem exec_write_ready (h : Ready s) {addr : BitVec 40} {beats : List Beat}
    (noSlot : slotWritesOf (classBeats s.settings.map addr 0 beats) = []) :
    exec (.upstreamWrite addr beats) s = .next (onPath (placeWrite s.settings.map addr beats false) s) := by
  have placed : acceptOffered (offerUpstream (.write addr beats) s) =
      onPath (placeWrite s.settings.map addr beats false) s := by
    have accepted : acceptOne (.write addr beats) (offerUpstream (.write addr beats) s) =
        onPath (placeWrite s.settings.map addr beats false) (offerUpstream (.write addr beats) s) := by
      change acceptWrite addr beats _ = _
      rw [acceptWrite_eq]
      change onPath (placeWrite s.settings.map addr beats
        (takeSlotWrites (slotWritesOf (classBeats s.settings.map addr 0 beats)) _).2) (takeSlotWrites
          (slotWritesOf (classBeats s.settings.map addr 0 beats)) _).1 = _
      rw [noSlot]
      rfl
    rw [acceptOffered_ready h, accepted]
    unfold offerUpstream onPath placeWrite respond
    simp [h.offered]
  refine congrArg Host.Outcome.next ((exec_offer h.quiet _).trans ?_)
  rw [placed, reportDue_of_kept (quiet_reports h.quiet) (onPath_touches s _)]

/-- Settles O7: the runs, the slot writes, and the two writes that meet an open port alone. -/
theorem writesAreForwardedByTheirBeats : Obligations.WritesAreForwardedByTheirBeats := by
  refine ⟨fun s addr beats short => ?_, fun s addr beats ready some strobed outside block => ?_,
    fun s addr beats ready alone empty => ?_⟩
  · have indexed : Indexed addr 16 (classBeats s.settings.map addr 0 beats) := by
      obtain ⟨order, place⟩ := classBeats_indexed s.settings.map addr 0 beats
      exact ⟨order, fun c hc => ⟨(place c hc).1, by have := (place c hc).2; omega⟩⟩
    have runs := forwardRunsOf_runsOf indexed
    have groups := slotWritesOf_groups (classBeats s.settings.map addr 0 beats)
    refine ⟨(forwardRunsOf (classBeats s.settings.map addr 0 beats)).map burstOfRun,
      slotWritesOf (classBeats s.settings.map addr 0 beats), _, _, ?_, fun b hb => ?_, runs.bursts_apart, ?_,
      groups.some, groups.apart, takeSlotWrites_taken _ s, fun waiting hw => ?_⟩
    · rw [List.flatMap_map]
      refine runs.beats.trans ?_
      rw [classBeats_eq, List.filterMap_filterMap]
      refine List.filterMap_congr fun x _ => ?_
      unfold classedBeat
      by_cases empty : x.1.strobes = 0#8
      · simp [beatEmpty, empty]
      · rw [if_neg (by simpa [beatEmpty] using empty), if_neg empty]
        cases cls : classOf s.settings.map (beatAddr addr x.2) <;> simp [forwarded]
    · obtain ⟨r, hr, rfl⟩ := List.mem_map.mp hb
      exact ⟨rfl, r.beats, rfl, (runs.good r hr).some, (runs.good r hr).block⟩
    · refine groups.beats.trans ?_
      rw [classBeats_eq, List.filterMap_filterMap]
      refine List.filterMap_congr fun x _ => ?_
      unfold classedBeat
      by_cases empty : x.1.strobes = 0#8
      · simp [beatEmpty, empty]
      · rw [if_neg (by simpa [beatEmpty] using empty), if_neg empty]
        cases cls : classOf s.settings.map (beatAddr addr x.2) <;> simp [slotted]
    · rw [hw]
      change acceptWrite addr beats s = _
      rw [acceptWrite_eq]
      unfold placeWrite
      simp only [onPath, respond_eq]
      rfl
  · obtain ⟨one, none⟩ := classBeats_oneBlock (map := s.settings.map) (start := addr) (i := 0) some strobed
      (fun k hk => by rw [Nat.zero_add]; exact outside k hk) (fun k hk => by rw [Nat.zero_add]; exact block k hk)
    rw [exec_write_ready ready none]
    have waits : ((s.path.accepted ++ [(⟨false, 1, false, []⟩ : UpTxn)]).takeWhile fun x => x.awaiting == 0) = [] ∧
        ((s.path.accepted ++ [(⟨false, 1, false, []⟩ : UpTxn)]).dropWhile fun x => x.awaiting == 0) =
          s.path.accepted ++ [⟨false, 1, false, []⟩] := by
      cases accepted : s.path.accepted with
      | nil => simp
      | cons x xs => simp [ready.waits x (by simp [accepted])]
    unfold placeWrite
    rw [one]
    simp only [onPath, respond_eq, List.map_cons, List.map_nil, List.length_cons, List.length_nil, Nat.zero_add,
      waits, List.append_nil]
    rfl
  · have none : classBeats s.settings.map addr 0 beats = [] := classBeats_empty empty
    rw [exec_write_ready ready (by rw [none]; rfl)]
    unfold placeWrite
    rw [none]
    simp [onPath, respond_eq, forwardRunsOf, alone, responseOf]

end Sys2Proof.Proofs
end

section
/-! SUPPORT. The settings that a stored image gives (R191, R192), and that they are legal (R2). -/

namespace Sys2Proof.Proofs

open Sys2Proof Sys2Proof.Machine Sys2Proof.Laws

/-! ### Fields and words (R191) -/

section
variable {α : Type} {n : NvStore} {g : Nat} {a b : α}

theorem fieldOf_loaded (h : groupOutcome n g = .loaded) : fieldOf n g a b = a := if_pos h

theorem fieldOf_default (h : groupOutcome n g ≠ .loaded) : fieldOf n g a b = b := if_neg h

/-- What holds of the loaded value and of the default holds of the field. -/
theorem fieldOf_of {P : α → Prop} (loaded : P a) (default : P b) : P (fieldOf n g a b) := by
  unfold fieldOf
  split
  · exact loaded
  · exact default

end

theorem wordAt_lt (words : List (BitVec 16)) (i : Nat) : wordAt words i < 65536 := (words.getD i 0).isLt

theorem word32_lt (words : List (BitVec 16)) (i : Nat) : word32 words i < 2 ^ 32 := by
  have low := wordAt_lt words i
  have high := wordAt_lt words (i + 1)
  unfold word32
  omega

theorem timingField_between {n : NvStore} {i lo hi default : Nat} (le : lo ≤ hi) (low : lo ≤ default)
    (high : default ≤ hi) : lo ≤ timingField n i lo hi default ∧ timingField n i lo hi default ≤ hi :=
  fieldOf_of (P := fun v => lo ≤ v ∧ v ≤ hi) (by unfold clampTo; omega) ⟨low, high⟩

theorem imageSettings_outcome (n : NvStore) {g : Nat} (h : g < 5) :
    (imageSettings n).outcomes[g]? = some (groupOutcome n g) := by
  simp [imageSettings, h]

theorem getLsbD_low (word : BitVec 16) :
    word.getLsbD 0 = (word.toNat % 2 == 1) ∧ word.getLsbD 1 = (word.toNat / 2 % 2 == 1) := by
  simp [BitVec.getLsbD, Nat.testBit, Nat.shiftRight_eq_div_pow]

/-! ### The windows of group 1 (R191) -/

theorem clampSlotSize_legal (v : Nat) : clampSlotSize v = 256 ∨ clampSlotSize v = 512 := by
  unfold clampSlotSize
  split <;> simp

theorem clampSlotCount_legal (v : Nat) : clampSlotCount v ∈ [16, 32, 64, 128, 256] := by
  unfold clampSlotCount
  repeat' split
  all_goals simp

theorem clampBase_eq {base size : Nat} (h : size ≤ 2 ^ 40) : clampBase base size = min base (2 ^ 40 - size) := by
  unfold clampBase
  split <;> omega

/-- The sizes that clamping gives: a multiple of 4096, well below the address space. -/
theorem clampedSpan (size count : Nat) : clampSlotCount count * clampSlotSize size % 4096 = 0 ∧
    clampSlotCount count * clampSlotSize size ≤ 2 ^ 17 := by
  have counts := clampSlotCount_legal count
  simp only [List.mem_cons, List.not_mem_nil, or_false] at counts
  obtain h | h := clampSlotSize_legal size <;> obtain c | c | c | c | c := counts <;> simp [h, c]

theorem imageWindow_legal (words : List (BitVec 16)) (w : Nat) : WindowLegal (imageWindow words w) := by
  obtain ⟨aligned, small⟩ := clampedSpan (wordAt words (5 * w + 3)) (wordAt words (5 * w + 4))
  have base : (imageWindow words w).base = min (baseAt words (5 * w + 1))
      (2 ^ 40 - windowSpan (imageWindow words w)) := clampBase_eq (small.trans (by decide))
  refine ⟨?_, ?_, clampSlotSize_legal _, clampSlotCount_legal _⟩
  · have raw : baseAt words (5 * w + 1) % 4096 = 0 := Nat.mul_mod_left _ _
    change windowSpan (imageWindow words w) % 4096 = 0 at aligned
    change windowSpan (imageWindow words w) ≤ _ at small
    rw [base]
    omega
  · change windowSpan (imageWindow words w) ≤ _ at small
    rw [base]
    omega

theorem disabled_legal : WindowLegal IntakeWindow.disabled := ⟨rfl, by decide, .inl rfl, by decide⟩

theorem imageWindows_length (n : NvStore) : (imageWindows n).length = 4 :=
  fieldOf_of (P := fun ws : List IntakeWindow => ws.length = 4) rfl rfl

theorem imageWindows_get (n : NvStore) {v : Nat} (h : v < 4) :
    (imageWindows n)[v]? = some (fieldOf n 1 (imageWindow (groupOf n 1) v) IntakeWindow.disabled) := by
  unfold imageWindows fieldOf
  split
  · simp [h]
  · rw [List.getElem?_replicate, if_pos h]

theorem imageWindows_legal (n : NvStore) : ∀ w ∈ imageWindows n, WindowLegal w := by
  refine fieldOf_of (P := fun ws : List IntakeWindow => ∀ w ∈ ws, WindowLegal w) (fun w hw => ?_) fun w hw => ?_
  · obtain ⟨v, -, rfl⟩ := List.mem_map.mp hw
    exact imageWindow_legal _ v
  · exact List.eq_of_mem_replicate hw ▸ disabled_legal

/-! ### Entering the map (R192) -/

theorem rangesMeet_iff (a b : Nat × Nat) : rangesMeet a b = true ↔ a.1 < b.1 + b.2 ∧ b.1 < a.1 + a.2 := by
  simp [rangesMeet]

/-- The byte range of a window. -/
def rangeOf (w : IntakeWindow) : Nat × Nat := (w.base, windowSpan w)

/-- R192: a window shares a byte with a range that has entered the map, or with an earlier window that has. -/
def Meets (entered : List (Nat × Nat)) (earlier : List IntakeWindow) (w : IntakeWindow) : Prop :=
  (∃ r ∈ entered, rangesMeet (rangeOf w) r = true) ∨
    ∃ x ∈ earlier, x.enabled = true ∧ rangesMeet (rangeOf w) (rangeOf x) = true

theorem meets_cons (entered : List (Nat × Nat)) (x : IntakeWindow) (earlier : List IntakeWindow) (w : IntakeWindow) :
    Meets entered (x :: earlier) w ↔ Meets (if x.enabled then rangeOf x :: entered else entered) earlier w := by
  unfold Meets
  cases enabled : x.enabled
  · simp [enabled]
  · simp only [enabled, if_true, List.mem_cons, exists_eq_or_imp, true_and, or_assoc]
    exact or_left_comm

/-- R192: a window as it enters the map, and its overlap bit. -/
def entering (entered : List (Nat × Nat)) (w : IntakeWindow) : Bool := w.enabled && entered.any (rangesMeet (rangeOf w))

theorem enterWindows_cons (entered : List (Nat × Nat)) (w : IntakeWindow) (ws : List IntakeWindow) :
    enterWindows entered (w :: ws) =
      ({ w with enabled := w.enabled && !entering entered w } ::
        (enterWindows (if w.enabled && !entering entered w then rangeOf w :: entered else entered) ws).1,
       entering entered w ::
        (enterWindows (if w.enabled && !entering entered w then rangeOf w :: entered else entered) ws).2) := by
  obtain ⟨enabled, base, size, count⟩ := w
  cases enabled
  · rfl
  · change (if entered.any (rangesMeet (rangeOf _)) then _ else _) = _
    cases meets : entered.any (rangesMeet (rangeOf ⟨true, base, size, count⟩))
    · simp only [entering, meets, Bool.and_false, Bool.not_false, Bool.and_true, if_true, Bool.false_eq_true, if_false]
      rfl
    · simp [entering, meets]

theorem enterWindows_length (entered : List (Nat × Nat)) (ws : List IntakeWindow) :
    (enterWindows entered ws).1.length = ws.length ∧ (enterWindows entered ws).2.length = ws.length := by
  induction ws generalizing entered with
  | nil => exact ⟨rfl, rfl⟩
  | cons w ws ih => rw [enterWindows_cons]; exact ⟨congrArg (· + 1) (ih _).1, congrArg (· + 1) (ih _).2⟩

/-- R192: a window enters the map enabled unless it meets what has entered before it, which its overlap bit says. -/
theorem enterWindows_get {entered : List (Nat × Nat)} {ws : List IntakeWindow} {i : Nat} {w : IntakeWindow}
    (h : ws[i]? = some w) : ∃ overlap, (enterWindows entered ws).1[i]? = some { w with enabled := w.enabled && !overlap } ∧
      (enterWindows entered ws).2[i]? = some overlap ∧
      (overlap = true ↔ w.enabled = true ∧ Meets entered ((enterWindows entered ws).1.take i) w) := by
  induction ws generalizing entered i with
  | nil => simp at h
  | cons v vs ih =>
    rw [enterWindows_cons]
    cases i with
    | zero =>
      obtain rfl : v = w := by simpa using h
      exact ⟨entering entered v, rfl, rfl, by simp [entering, Meets]⟩
    | succ i =>
      obtain ⟨overlap, window, bit, judged⟩ := ih (by simpa using h)
      refine ⟨overlap, window, bit, ?_⟩
      rw [List.take_succ_cons, meets_cons]
      exact judged

/-- Two windows that hold one address share a byte. -/
theorem rangesMeet_of_inWindow {v w : IntakeWindow} {a : Nat} (hv : inWindow v a = true) (hw : inWindow w a = true) :
    rangesMeet (rangeOf w) (rangeOf v) = true := by
  simp only [inWindow, Bool.and_eq_true, decide_eq_true_eq] at hv hw
  rw [rangesMeet_iff]
  simp only [rangeOf]
  omega

theorem enabled_of_inWindow {w : IntakeWindow} {a : Nat} (h : inWindow w a = true) : w.enabled = true := by
  simp only [inWindow, Bool.and_eq_true] at h
  exact h.1.1

/-- R192: no enabled window of the map meets what has entered before it. -/
theorem enterWindows_not_meets {entered : List (Nat × Nat)} {ws : List IntakeWindow} {i : Nat} {w : IntakeWindow}
    (h : (enterWindows entered ws).1[i]? = some w) (enabled : w.enabled = true) :
    ¬Meets entered ((enterWindows entered ws).1.take i) w := by
  have lt : i < ws.length := (enterWindows_length entered ws).1 ▸ (List.getElem?_eq_some_iff.mp h).1
  obtain ⟨overlap, window, -, judged⟩ := enterWindows_get (entered := entered) (List.getElem?_eq_getElem lt)
  obtain rfl := Option.some_injective _ (h.symm.trans window)
  obtain ⟨asked, apart⟩ : ws[i].enabled = true ∧ overlap = false := by simpa using enabled
  intro meets
  exact absurd (judged.mpr ⟨asked, meets⟩) (by simp [apart])

theorem enterWindows_apart (entered : List (Nat × Nat)) (ws : List IntakeWindow) :
    (enterWindows entered ws).1.Pairwise fun v w => ∀ a, ¬(inWindow v a = true ∧ inWindow w a = true) := by
  rw [List.pairwise_iff_getElem]
  rintro i j hi hj lt a ⟨hv, hw⟩
  have earlier : (enterWindows entered ws).1[i] ∈ (enterWindows entered ws).1.take j :=
    List.mem_take_iff_getElem.mpr ⟨i, by omega, rfl⟩
  exact enterWindows_not_meets (List.getElem?_eq_getElem hj) (enabled_of_inWindow hw)
    (.inr ⟨_, earlier, enabled_of_inWindow hv, rangesMeet_of_inWindow hv hw⟩)

/-- A window of the map keeps its place and its slots. -/
theorem enterWindows_legal {entered : List (Nat × Nat)} {ws : List IntakeWindow} (h : ∀ w ∈ ws, WindowLegal w) :
    ∀ w ∈ (enterWindows entered ws).1, WindowLegal w := by
  induction ws generalizing entered with
  | nil => intro w hw; cases hw
  | cons v vs ih =>
    rw [enterWindows_cons]
    intro w hw
    rcases List.mem_cons.mp hw with rfl | hw
    · obtain ⟨aligned, below, slotSize, count⟩ := h v List.mem_cons_self
      exact ⟨aligned, below, slotSize, count⟩
    · exact ih (fun x hx => h x (List.mem_cons_of_mem _ hx)) w hw

/-! ### The settings are legal (R2) -/

theorem imageStatusBase_legal (n : NvStore) : imageStatusBase n % 4096 = 0 ∧ imageStatusBase n + 4096 ≤ 2 ^ 40 :=
  fieldOf_of (P := fun v => v % 4096 = 0 ∧ v + 4096 ≤ 2 ^ 40) (by unfold baseAt; omega) (by decide)

theorem imageSettings_mapLegal (n : NvStore) : MapLegal (imageSettings n).map := by
  refine ⟨(enterWindows_length _ _).1.trans (imageWindows_length n), enterWindows_legal (imageWindows_legal n),
    imageStatusBase_legal n, enterWindows_apart _ _, fun enabled w hw a low high => ?_⟩
  obtain ⟨i, hi⟩ := List.mem_iff_getElem?.mp hw
  refine Bool.eq_false_iff.mpr fun inside => ?_
  refine enterWindows_not_meets hi (enabled_of_inWindow inside) (.inl ⟨(imageStatusBase n, 4096), ?_, ?_⟩)
  · change imageStatusEnabled n = true at enabled
    rw [statusRange, if_pos enabled]
    exact List.mem_singleton_self _
  · simp only [inWindow, Bool.and_eq_true, decide_eq_true_eq] at inside
    rw [rangesMeet_iff]
    simp only [rangeOf]
    change imageStatusBase n ≤ a at low
    change a < imageStatusBase n + 4096 at high
    omega

theorem imageSettings_legal (n : NvStore) : SettingsLegal (imageSettings n) where
  map := imageSettings_mapLegal n
  store := fieldOf_of (P := (· < 2 ^ 32)) (word32_lt _ _) (by decide)
  priorities := fieldOf_of (P := fun l : List Nat => l.length = 8 ∧ ∀ p ∈ l, p ≤ 3)
    ⟨rfl, fun p hp => by obtain ⟨c, -, rfl⟩ := List.mem_map.mp hp; exact min_le_left _ _⟩ (by decide)
  period := fieldOf_of (P := (· ∈ [10, 20, 40, 80])) (by unfold clampSweepPeriod; split_ifs <;> simp) (by decide)
  expiry := timingField_between (by decide) (by decide) (by decide)
  confirm := timingField_between (by decide) (by decide) (by decide)
  silence := timingField_between (by decide) (by decide) (by decide)
  coalesce := timingField_between (by decide) (by decide) (by decide)
  times := ⟨(timingField_between (by decide) (by decide) (by decide)).2,
    (timingField_between (by decide) (by decide) (by decide)).2⟩
  warning := fieldOf_of (P := (· < 2 ^ 32)) (word32_lt _ _) (by decide)
  policies := fieldOf_of (P := fun l : List Kinds => l.length = 48) (by simp) (by decide)
  outcomes := ⟨by simp [imageSettings], by
    rw [imageSettings_outcome n (by decide), groupOutcome]
    split_ifs <;> simp_all⟩
  overlap := (enterWindows_length _ _).2.trans (imageWindows_length n)

/-! ### What each group gives (R191) -/

/-- R192: the window of a number in the map, and its overlap bit. -/
theorem imageSettings_window (n : NvStore) {v : Nat} (h : v < 4) : ∃ w x overlap,
    x = fieldOf n 1 (imageWindow (groupOf n 1) v) IntakeWindow.disabled ∧
    w = { x with enabled := x.enabled && !overlap } ∧
    (imageSettings n).map.intake[v]? = some w ∧ (imageSettings n).overlap[v]? = some overlap ∧
    (overlap = true ↔ x.enabled = true ∧ Meets (statusRange n) ((imageSettings n).map.intake.take v) w) := by
  obtain ⟨overlap, window, bit, judged⟩ := enterWindows_get (entered := statusRange n) (imageWindows_get n h)
  exact ⟨_, _, overlap, rfl, rfl, window, bit, judged⟩

theorem imageWindow_enabled (n : NvStore) (v : Nat) :
    (fieldOf n 1 (imageWindow (groupOf n 1) v) IntakeWindow.disabled).enabled = true ↔
      groupOutcome n 1 = .loaded ∧ wordAt (groupOf n 1) (5 * v) % 2 = 1 := by
  by_cases loaded : groupOutcome n 1 = .loaded
  · rw [fieldOf_loaded loaded]
    simp [loaded, imageWindow, enableAt]
  · rw [fieldOf_default loaded]
    simp [loaded, IntakeWindow.disabled]

/-- R192: to meet the map is to share a byte with the status window or an earlier enabled window. -/
theorem meets_iff (n : NvStore) (v : Nat) (w : IntakeWindow) :
    Meets (statusRange n) ((imageSettings n).map.intake.take v) w ↔
      (imageStatusEnabled n = true ∧ imageStatusBase n < w.base + w.count * w.slotSize ∧
          w.base < imageStatusBase n + 4096) ∨
        ∃ u < v, ∃ x, (imageSettings n).map.intake[u]? = some x ∧ x.enabled = true ∧
          x.base < w.base + w.count * w.slotSize ∧ w.base < x.base + x.count * x.slotSize := by
  have status : (∃ r ∈ statusRange n, rangesMeet (rangeOf w) r = true) ↔ imageStatusEnabled n = true ∧
      imageStatusBase n < w.base + w.count * w.slotSize ∧ w.base < imageStatusBase n + 4096 := by
    unfold statusRange
    cases imageStatusEnabled n <;> simp [rangesMeet_iff, rangeOf, windowSpan, and_comm]
  have windows (x : IntakeWindow) : rangesMeet (rangeOf w) (rangeOf x) = true ↔
      x.base < w.base + w.count * w.slotSize ∧ w.base < x.base + x.count * x.slotSize := by
    simp [rangesMeet_iff, rangeOf, windowSpan, and_comm]
  unfold Meets
  rw [status]
  refine or_congr_right ⟨?_, ?_⟩
  · rintro ⟨x, hx, enabled, meets⟩
    obtain ⟨u, hu, rfl⟩ := List.mem_take_iff_getElem.mp hx
    exact ⟨u, by omega, _, List.getElem?_eq_getElem _, enabled, (windows _).mp meets⟩
  · rintro ⟨u, lt, x, hx, enabled, meets⟩
    obtain ⟨hu, rfl⟩ := List.getElem?_eq_some_iff.mp hx
    exact ⟨_, List.mem_take_iff_getElem.mpr ⟨u, by omega, rfl⟩, enabled, (windows _).mpr meets⟩

/-- Settles O5: each group's field by field, the windows by `enterWindows_get`, and `imageSettings_legal`. -/
theorem imageGivesTheSettings : Obligations.ImageGivesTheSettings := by
  rintro n c word loaded rfl words isLoaded
  have outcome (g : Nat) (h : g < 5) : loaded g ↔ groupOutcome n g = .loaded := by
    rw [isLoaded, imageSettings_outcome n h, Option.some_inj]
  have wordOf (g i : Nat) : wordAt (groupOf n g) i = word g i := (words g i).symm
  refine ⟨imageSettings_legal n, fun g h => ?_, fun h => ?_, fun h => ?_, fun h v hv => ?_, fun v hv => ?_,
    fun k hk => ?_, fun h => ?_, fun h => ?_, fun l hl => ?_⟩
  · rw [imageSettings_outcome n h, groupOutcome]
    simp [groupSound, groupOf]
  · have read := (outcome 0 (by decide)).mp h
    simp only [imageSettings, imageStatusEnabled, imageStatusBase, fieldOf_loaded read, word32, enableAt, baseAt,
      wordOf, beq_iff_eq, and_self]
  · have unread := mt (outcome 0 (by decide)).mpr h
    exact ⟨fieldOf_default unread, fieldOf_default unread⟩
  · obtain ⟨w, x, overlap, hx, hw, window, -⟩ := imageSettings_window n hv
    rw [fieldOf_loaded ((outcome 1 (by decide)).mp h)] at hx
    subst hx hw
    refine ⟨_, window, ?_, ?_, ?_⟩
    · simp only [imageWindow, clampSlotSize, wordOf]
    · simp only [imageWindow, clampSlotCount, wordOf]
    · obtain ⟨-, small⟩ := clampedSpan (wordAt (groupOf n 1) (5 * v + 3)) (wordAt (groupOf n 1) (5 * v + 4))
      simp only [imageWindow, baseAt, word32, wordOf] at small ⊢
      exact clampBase_eq (small.trans (by decide))
  · obtain ⟨w, x, overlap, hx, hw, window, bit, judged⟩ := imageSettings_window n hv
    have asked : x.enabled = true ↔ loaded 1 ∧ word 1 (5 * v) % 2 = 1 := by
      rw [hx, imageWindow_enabled, outcome 1 (by decide), wordOf]
    refine ⟨w, window, ?_, ?_⟩
    · rw [bit, hw, ← and_assoc, ← asked]
      simp
    · rw [bit, Option.some_inj, judged, asked, and_assoc, meets_iff]
      rfl
  · change (fieldOf n 2 _ _)[k]? = _
    simp only [imageSettings_outcome n (g := 2) (by decide), Option.some_inj]
    unfold fieldOf
    split
    · simp [hk, wordOf]
    · interval_cases k <;> rfl
  · have read := (outcome 3 (by decide)).mp h
    simp only [imageSettings, timingField, fieldOf_loaded read, clampSweepPeriod, clampTo, word32, wordOf,
      Nat.zero_max, and_self]
  · have unread := mt (outcome 3 (by decide)).mpr h
    simp only [imageSettings, timingField, fieldOf_default unread, and_self]
  · change (fieldOf n 4 _ _)[l]? = _
    simp only [imageSettings_outcome n (g := 4) (by decide), Option.some_inj]
    unfold fieldOf
    split
    · rw [List.getElem?_map, List.getElem?_range hl, Option.map_some, policyOf, (getLsbD_low _).1, (getLsbD_low _).2]
      simp only [← wordOf]
      rfl
    · exact (List.getElem?_replicate ..).trans (if_pos hl)

end Sys2Proof.Proofs
end

section
/-! SUPPORT. What the steps of the blocks leave alone: which channels exist, the record in work and its output, the close
and its summary. -/

namespace Sys2Proof.Proofs

open Sys2Proof Sys2Proof.Machine Sys2Proof.Laws

/-! ### No update of a channel makes it exist (R162) -/

section
variable (c : Channel)

@[simp] theorem markDirty_present : (markDirty c).present = c.present := by unfold markDirty; split <;> rfl

@[simp] theorem countOn_present (id : CountId) (n : Nat) : (countOn id n c).present = c.present := by
  unfold countOn
  split <;> simp

@[simp] theorem releaseOn_present : (releaseOn c).present = c.present := by
  unfold releaseOn
  split <;> simp

@[simp] theorem oweOn_present : (oweOn c).present = c.present := by unfold oweOn; split <;> rfl

@[simp] theorem dirtyOn_present : (dirtyOn c).present = c.present := by
  unfold dirtyOn
  split <;> simp

@[simp] theorem raiseReturnIgnored_present : (raiseReturnIgnored c).present = c.present := by
  unfold raiseReturnIgnored
  split
  · split <;> simp
  · rfl

@[simp] theorem raiseWriteFault_present (isStore : Bool) : (raiseWriteFault isStore c).present = c.present := by
  unfold raiseWriteFault
  split
  · split
    · split <;> simp
    · rfl
  · rfl

@[simp] theorem contentTaken_present : (contentTaken c).present = c.present := rfl

@[simp] theorem statusAcknowledged_present (isStore okay : Bool) :
    (statusAcknowledged isStore okay c).present = c.present := by
  unfold statusAcknowledged
  cases okay <;> simp

@[simp] theorem returnTaken_present (tag : Nat) : (returnTaken tag c).present = c.present := by
  unfold returnTaken
  dsimp only
  split
  · rfl
  · split <;> rfl

@[simp] theorem sweepOn_present : (sweepOn c).present = c.present := by unfold sweepOn; split <;> rfl

@[simp] theorem releaseTimes_present (n : Nat) : (releaseTimes n c).present = c.present := by
  induction n generalizing c with
  | zero => rfl
  | succ n ih => rw [releaseTimes, ih, releaseOn_present]

end

/-- Which channels exist. -/
def presents (s : State) : List Bool := s.report.map (·.present)

theorem map_updAt {α β : Type} {f : α → β} {g : α → α} (h : ∀ x, f (g x) = f x) (l : List α) (i : Nat) :
    (updAt l i g).map f = l.map f := by
  induction l generalizing i with
  | nil => rfl
  | cons x xs ih => cases i <;> simp [updAt, h, ih]

/-! ### What follows on what -/

/-- From `s` to `t` no channel comes or goes, no record comes into work, no close begins; an output of the record in work
that is new is as long as its slot, and a new summary has at most 848 bytes. -/
structure Follows (s t : State) : Prop where
  settings : t.settings = s.settings
  channels : presents t = presents s
  work  : ∀ v ∈ t.engine.work, ∃ w ∈ s.engine.work, v.window = w.window ∧
    ∀ o ∈ v.output, o ∈ w.output ∨ o.length = (windowOfMap s w.window).slotSize
  close : ∀ d ∈ t.totals.close, ∃ c ∈ s.totals.close, ∀ bytes ∈ d.summary, bytes ∈ c.summary ∨ bytes.length ≤ 848

namespace Follows

variable {s t u : State} {fs : List Field}

theorem refl (s : State) : Follows s s :=
  ⟨rfl, rfl, fun w hw => ⟨w, hw, rfl, fun _ => .inl⟩, fun c hc => ⟨c, hc, fun _ => .inl⟩⟩

theorem trans (h : Follows s t) (k : Follows t u) : Follows s u := by
  refine ⟨k.settings.trans h.settings, k.channels.trans h.channels, fun v hv => ?_, fun d hd => ?_⟩
  · obtain ⟨w, hw, sameWindow, outputs⟩ := k.work v hv
    obtain ⟨x, hx, window, earlier⟩ := h.work w hw
    refine ⟨x, hx, sameWindow.trans window, fun o ho => ?_⟩
    have size : (windowOfMap t w.window).slotSize = (windowOfMap s x.window).slotSize := by
      rw [windowOfMap, windowOfMap, h.settings, window]
    exact (outputs o ho).elim (earlier o) fun e => .inr (e.trans size)
  · obtain ⟨c, hc, summaries⟩ := k.close d hd
    obtain ⟨b, hb, earlier⟩ := h.close c hc
    exact ⟨b, hb, fun o ho => (summaries o ho).elim (earlier o) .inr⟩

theorem of_touches (h : Touches fs s t) (settings : .settings ∉ fs := by decide) (report : .report ∉ fs := by decide)
    (engine : .engine ∉ fs := by decide) (totals : .totals ∉ fs := by decide) : Follows s t := by
  obtain ⟨-, -, work, close⟩ := refl s
  rw [← h.engine engine] at work
  rw [← h.totals totals] at close
  exact ⟨h.settings settings, congrArg (List.map Channel.present) (h.report report), by rwa [h.engine engine] at work ⊢,
    by rwa [h.totals totals] at close ⊢⟩

theorem andTouches (h : Follows s t) (k : Touches fs t u) (settings : .settings ∉ fs := by decide)
    (report : .report ∉ fs := by decide) (engine : .engine ∉ fs := by decide) (totals : .totals ∉ fs := by decide) :
    Follows s u := h.trans (of_touches k settings report engine totals)

theorem ite {p : Prop} [Decidable p] (h : Follows s t) (k : Follows s u) : Follows s (if p then t else u) := by
  split <;> assumption

theorem onReport {f : List Channel → List Channel} (h : (f s.report).map (·.present) = s.report.map (·.present)) :
    Follows s (onReport f s) := ⟨rfl, h, (refl s).work, (refl s).close⟩

theorem onChannel (ch : Nat) {f : Channel → Channel} (h : ∀ c, (f c).present = c.present) :
    Follows s (Machine.onChannel ch f s) := onReport (map_updAt h _ _)

/-- The update of a record keeps its slot, and an output that it brings is as long as the slot. -/
theorem onWork {f : Work → Work} (h : ∀ w ∈ s.engine.work, (f w).window = w.window ∧
    ∀ o ∈ (f w).output, o ∈ w.output ∨ o.length = (windowOfMap s w.window).slotSize) :
    Follows s (Machine.onWork f s) := by
  refine ⟨rfl, rfl, fun v hv => ?_, (refl s).close⟩
  obtain ⟨w, hw, rfl⟩ := Option.map_eq_some_iff.mp hv
  exact ⟨w, hw, h w hw⟩

/-- An update of a record that leaves its slot and its output. -/
theorem onWork_silent {f : Work → Work} (window : ∀ w, (f w).window = w.window) (output : ∀ w, (f w).output = w.output) :
    Follows s (Machine.onWork f s) := onWork fun w _ => ⟨window w, fun _ ho => .inl (output w ▸ ho)⟩

/-- The engine discards its record. -/
theorem discard (f : List QueueEntry → List QueueEntry) :
    Follows s (onEngine (fun g => { queue := f g.queue, work := none }) s) :=
  ⟨rfl, rfl, by simp, (refl s).close⟩

/-- The close keeps its place, and a summary that it gets has at most 848 bytes. -/
theorem onTotals {f : Totals → Totals} (h : ∀ d ∈ (f s.totals).close, ∃ c ∈ s.totals.close,
    ∀ bytes ∈ d.summary, bytes ∈ c.summary ∨ bytes.length ≤ 848) : Follows s (Machine.onTotals f s) :=
  ⟨rfl, rfl, (refl s).work, h⟩

end Follows

theorem padTo_length (n : Nat) (l : List Byte) : (padTo n l).length = n := by simp [padTo, zeros]

/-- A hold stands for the record in work. -/
def Serves (h : Hold) (s : State) : Prop := ∀ w ∈ s.engine.work, w.window = h.window

theorem Serves.follows {h : Hold} {s t : State} (serves : Serves h s) (k : Follows s t) : Serves h t := fun v hv => by
  obtain ⟨w, hw, same, -⟩ := k.work v hv
  exact same.trans (serves w hw)

theorem holdOf_window {s : State} {w slot : Nat} {h : Hold} (found : holdOf s w slot = some h) : h.window = w := by
  have serves := List.find?_some found
  simp only [holdServes, Bool.and_eq_true, beq_iff_eq] at serves
  exact serves.1

theorem serves_of_holdOf {s : State} {w : Work} {h : Hold} (work : s.engine.work = some w)
    (found : holdOf s w.window w.slot = some h) : Serves h s := fun v hv => by
  obtain rfl := Option.some_injective _ (work.symm.trans hv)
  exact (holdOf_window found).symm

theorem serves_of_workHold {s : State} {h : Hold} (found : workHold s = some h) : Serves h s := by
  unfold workHold at found
  split at found
  · next work => exact serves_of_holdOf work found
  · simp at found

/-! ### The channels, the key unit, the lane table -/

variable (s : State)

theorem oweStore_follows : Follows s (oweStore s) := .onChannel 4 oweOn_present

theorem addCount_follows (w : Nat) (id : CountId) (n : Nat) : Follows s (addCount w id n s) :=
  .onChannel w fun c => countOn_present c id n

theorem storeFaultUnless_follows (okay : Bool) : Follows s (storeFaultUnless okay s) :=
  .ite (.refl s) (.onChannel 4 fun c => raiseWriteFault_present c true)

theorem keyChange_follows (f : KeyUnit → KeyUnit) : Follows s (keyChange f s) := by
  have changed : Follows s (onKeys f s) := .of_touches (onKeys_touches s f)
  exact .ite (changed.trans (oweStore_follows _)) changed

theorem timeoutLane_follows (lane : Nat) : Follows s (timeoutLane lane s) :=
  .ite ((Follows.of_touches (onLane_touches s lane timeoutConfirm)).trans (oweStore_follows _)) (.refl s)

theorem silentLane_follows (lane : Nat) : Follows s (silentLane lane s) :=
  .ite ((Follows.of_touches (onLane_touches s lane silenceLane)).trans (oweStore_follows _)) (.refl s)

theorem enterEnrolment_follows (lane : Nat) (a : EnrolmentAnswer) : Follows s (enterEnrolment lane a s) := by
  have entered := Follows.of_touches (onLanes_touches s fun t => { t with
    entries := updAt t.entries lane fun _ => a.lane
    answerSerial := if a.usedSerial then t.answerSerial + 1 else t.answerSerial })
  exact .ite (entered.trans (oweStore_follows _)) entered

theorem sweepStep_follows : Follows s (sweepStep s) := by
  have counted : Follows s { s with sweepCount := s.sweepCount + 1 } :=
    ⟨rfl, rfl, (Follows.refl s).work, (Follows.refl s).close⟩
  refine (((counted.andTouches (onIntake_touches _ _)).andTouches (onLanes_touches _ _)).trans
    (.onReport ?_)).andTouches (retryWrite_touches _)
  simp [Function.comp_def]

/-! ### The issues -/

theorem addEntry_follows (e : Entry) : Follows s (addEntry e s) := by
  have queued : Follows s (onPath (fun p => { p with queue := p.queue ++ [e] }) s) := .of_touches (onPath_touches s _)
  unfold addEntry
  dsimp only
  split
  · exact (queued.andTouches (setSlot_touches _ _ _ _)).trans (.discard id)
  · exact queued

theorem offerEntry_follows (e : Entry) : Follows s (offerEntry e s) :=
  .ite (addEntry_follows s e) (.of_touches (onPath_touches s _))

theorem addLongestWaiting_follows (p : EntryKind → Bool) : Follows s (addLongestWaiting p s) := by
  unfold addLongestWaiting
  split
  · exact .refl s
  · exact .ite ((Follows.of_touches (onPath_touches s _)).trans (addEntry_follows _ _)) (.refl s)

theorem fillGap_follows (w : Nat) : Follows s (fillGap w s) :=
  .ite ((((Follows.of_touches (setSlot_touches s _ _ _)).andTouches (onWindow_touches _ _ _)).trans
    (addCount_follows _ _ _ _)).trans (offerEntry_follows _ _)) (.refl s)

theorem reportChannel_follows (ch : Nat) : Follows s (reportChannel ch s) :=
  .ite (((Follows.onChannel ch contentTaken_present).andTouches (reportLanes_touches _ _)).trans
    (offerEntry_follows _ _)) (.refl s)

theorem summaryStep_follows : Follows s (summaryStep s) := by
  unfold summaryStep
  split
  · refine (Follows.onTotals fun d hd => ?_).trans (offerEntry_follows _ _)
    obtain ⟨c, hc, rfl⟩ := Option.map_eq_some_iff.mp hd
    exact ⟨c, hc, by simp⟩
  · exact .refl s

theorem resultStep_follows : Follows s (resultStep s) := by
  unfold resultStep
  split
  · exact (Follows.of_touches (onDirectives_touches s _)).trans (offerEntry_follows _ _)
  · exact .refl s

theorem issueWriteBack_follows : Follows s (issueWriteBack s) := by
  unfold issueWriteBack
  refine .ite (.refl s) ?_
  split
  · split
    · exact offerEntry_follows _ _
    · exact .refl s
  · exact .refl s

/-! ### The status words and the acknowledgements -/

theorem slotDone_follows (w slot : Nat) (okay : Bool) : Follows s (slotDone w slot okay s) := by
  have done : Follows s (setSlot w slot .done s) := .of_touches (setSlot_touches s _ _ _)
  have released (u : State) : Follows u (releaseWindow w u) :=
    (Follows.of_touches (onWindow_touches u _ _)).trans (.onChannel w fun c => releaseTimes_present c _)
  exact (Follows.ite done (done.trans (addCount_follows _ _ _ _))).trans (released _)

theorem takeAck_follows {p : EntryKind → Bool} {a : Ack} {t : State} (h : takeAck p s = some (a, t)) : Follows s t :=
  .of_touches (takeAck_touches s h)

theorem writeBackAckStep_follows : Follows s (writeBackAckStep s) := by
  unfold writeBackAckStep
  split
  · next h => exact ((takeAck_follows s h).andTouches (freeHold_touches _ _ _)).trans (slotDone_follows _ _ _ _)
  · exact .refl s

theorem voidAckStep_follows : Follows s (voidAckStep s) := by
  unfold voidAckStep
  split
  · next h => exact (takeAck_follows s h).trans (slotDone_follows _ _ _ _)
  · exact .refl s

theorem statusAckStep_follows : Follows s (statusAckStep s) := by
  unfold statusAckStep
  split
  · next h => exact (takeAck_follows s h).trans (.onChannel _ fun c => statusAcknowledged_present c _ _)
  · exact .refl s

theorem summaryAckStep_follows : Follows s (summaryAckStep s) := by
  unfold summaryAckStep
  split
  · next h =>
    have taken := takeAck_follows s h
    split
    · exact (((taken.trans (.onTotals (by simp [summaryWritten]))).trans (.onChannel 4 dirtyOn_present)).trans
        (storeFaultUnless_follows _ _)).andTouches (giveResult_touches _ _)
    · exact taken
  · exact .refl s

theorem resultAckStep_follows : Follows s (resultAckStep s) := by
  unfold resultAckStep
  split
  · next h =>
    exact (((takeAck_follows s h).andTouches (onDirectives_touches _ _)).trans (.onChannel 4 dirtyOn_present)).trans
      (storeFaultUnless_follows _ _)
  · exact .refl s

theorem handConsumed_follows (ch : Nat) (b : Beat) : Follows s (handConsumed ch b s) :=
  .ite (.refl s) (.ite (.of_touches (onWindow_touches s _ _)) (.onChannel ch raiseReturnIgnored_present))

theorem returnStep_follows : Follows s (returnStep s) := by
  unfold returnStep
  split
  · exact .refl s
  · next r rest _ =>
    have taken : Follows s (onPath (fun p => { p with shownReturns := rest }) s) := .of_touches (onPath_touches s _)
    refine .ite (taken.trans ?_) taken
    have handed := handConsumed_follows (onPath (fun p => { p with shownReturns := rest }) s) r.ch r.beat
    exact (Follows.ite (handed.andTouches (onLanes_touches _ _)) handed).trans
      (.onChannel _ fun c => returnTaken_present c _)

/-! ### The record in work -/

theorem reportDecision_follows (h : Hold) (d : Disposition) : Follows s (reportDecision h d s) := by
  have counted : Follows s (countOutcome h.window d s) := by
    unfold countOutcome
    split
    · exact addCount_follows s _ _ _
    · exact .refl s
  exact .ite (counted.andTouches (onLane_touches _ _ _)) counted

variable {s} {h : Hold}

theorem decideRecord_follows (serves : Serves h s) (d : Disposition) (r : Reason) {output : List Byte}
    (size : output.length = sizeOf s h) : Follows s (decideRecord h d r output s) := by
  have reported := reportDecision_follows s h d
  refine reported.trans (.onWork fun w hw => ⟨rfl, fun o ho => .inr ?_⟩)
  obtain rfl : output = o := Option.some_injective _ ho
  have sameSize : (windowOfMap (reportDecision h d s) w.window).slotSize = (windowOfMap s h.window).slotSize := by
    rw [windowOfMap, windowOfMap, reported.settings, serves.follows reported w hw]
  exact size.trans sameSize.symm

theorem decideHeaderOnly_follows (serves : Serves h s) (d : Disposition) (r : Reason) :
    Follows s (decideHeaderOnly h d r s) := decideRecord_follows serves d r (padTo_length _ _)

theorem passTo_follows (st : Stage) (s : State) : Follows s (passTo st s) := .onWork_silent (fun _ => rfl) fun _ => rfl

theorem admissionStage_follows (serves : Serves h s) (a : Admission) : Follows s (admissionStage h a s) := by
  unfold admissionStage
  split
  · exact decideHeaderOnly_follows serves _ _
  · exact .ite (passTo_follows _ s) (.onWork_silent (fun _ => rfl) fun _ => rfl)

theorem enrolmentStage_follows (h : Hold) (s : State) : Follows s (enrolmentStage h s) :=
  ((enterEnrolment_follows s _ _).trans (reportDecision_follows _ _ _)).trans
    (.onWork_silent (fun _ => rfl) fun _ => rfl)

theorem resultStage_follows (serves : Serves h s) (w : Work) : Follows s (resultStage h w s) := by
  unfold resultStage
  split
  · refine .onWork fun v hv => ⟨rfl, fun o ho => .inr ?_⟩
    obtain rfl := Option.some_injective _ ho
    exact (padTo_length _ _).trans (congrArg (fun w => (windowOfMap s w).slotSize) (serves v hv).symm)
  · exact .refl s

theorem judgeStage_follows (serves : Serves h s) (a : Option Admission) : Follows s (judgeStage h a s) := by
  unfold judgeStage
  refine .ite (.ite (decideHeaderOnly_follows serves _ _) (decideHeaderOnly_follows serves _ _)) ?_
  split
  · exact decideHeaderOnly_follows serves _ _
  · refine .ite (decideRecord_follows serves _ _ (padTo_length _ _)) (.ite (decideHeaderOnly_follows serves _ _)
      (.ite (enrolmentStage_follows h s) ?_))
    split
    · exact admissionStage_follows serves _
    · exact .refl s

theorem laneKeyStage_follows (serves : Serves h s) (a : Admission) : Follows s (laneKeyStage h a s) :=
  .ite (.onWork_silent (fun _ => rfl) fun _ => rfl) (decideHeaderOnly_follows serves _ _)

theorem unsealStage_follows (serves : Serves h s) (a : Admission) (keys : List Byte × List Byte) :
    Follows s (unsealStage h a keys s) := by
  have body : Follows s (onWork (fun w => { w with
      body := some (unsealBody keys.1 (heldBytes h 40 88) (headerLane h) (heldSequence h) (heldNat h 32 4)) }) s) :=
    .onWork_silent (fun _ => rfl) fun _ => rfl
  unfold unsealStage
  refine .ite (decideHeaderOnly_follows serves _ _) ?_
  exact .ite (body.trans (decideHeaderOnly_follows (serves.follows body) _ _)) (body.trans (passTo_follows _ _))

theorem bodyStage_follows (serves : Serves h s) (body : List Byte) : Follows s (bodyStage h body s) := by
  unfold bodyStage
  split
  · exact decideHeaderOnly_follows serves _ _
  · exact passTo_follows _ s

theorem handOutToRecord_follows (s : State) : Follows s (handOutToRecord s) := by
  have changed := keyChange_follows s handOutKey
  exact (Follows.ite (changed.andTouches (requestKeyWrite_touches _)) changed).trans
    (.onWork_silent (fun _ => rfl) fun _ => rfl)

theorem waitForReservation_follows (s : State) : Follows s (waitForReservation s) := by
  have waits := (Follows.of_touches (onKeys_touches s fun k => { k with waiting := true })).trans
    (passTo_follows .reservation _)
  exact .ite waits (waits.andTouches (requestWrite_touches _ _))

theorem keyStage_follows (serves : Serves h s) : Follows s (keyStage h s) :=
  .ite (decideHeaderOnly_follows serves _ _) (.ite (handOutToRecord_follows s) (waitForReservation_follows s))

theorem computeStage_follows (h : Hold) (body : List Byte) (c : Capture) (s : State) :
    Follows s (computeStage h body c s) :=
  (Follows.of_touches (onLane_touches s _ _)).trans (.onWork_silent (fun _ => rfl) fun _ => rfl)

theorem totalsStage_follows (h : Hold) (body : List Byte) (c : Capture) (s : State) :
    Follows s (totalsStage h body c s) :=
  (Follows.onTotals (Follows.refl s).close).trans (.onWork_silent (fun _ => rfl) fun _ => rfl)

theorem concludeStage_follows (serves : Serves h s) (body : List Byte) (c : Capture) (p : Products) :
    Follows s (concludeStage h body c p s) := by
  unfold concludeStage
  split
  · next batch _ =>
    have tagged : Follows s (onWork (fun w => { w with
        products := some { p with tag := some (recordTag h body p.cipher c batch) } }) s) :=
      .onWork_silent (fun _ => rfl) fun _ => rfl
    exact tagged.trans (decideRecord_follows (serves.follows tagged) _ _ (padTo_length _ _))
  · exact .refl s

theorem runStage_follows (serves : Serves h s) (w : Work) : Follows s (runStage h w s) := by
  unfold runStage
  split
  · exact judgeStage_follows serves _
  · exact resultStage_follows serves _
  · exact laneKeyStage_follows serves _
  · exact unsealStage_follows serves _ _
  · exact bodyStage_follows serves _
  · exact keyStage_follows serves
  · exact computeStage_follows _ _ _ _
  · exact totalsStage_follows _ _ _ _
  · exact concludeStage_follows serves _ _ _
  · exact .refl s

theorem stageStep_follows (s : State) : Follows s (stageStep s) := by
  unfold stageStep
  split
  · next work =>
    split
    · next found => exact runStage_follows (serves_of_holdOf work found) _
    · exact .refl s
  · exact .refl s

/-! ### Store writes and frames -/

theorem endWaiting_follows (serves : Serves h s) (r : Reason) : Follows s (endWaiting r h s) := by
  have ended := Follows.of_touches (onKeys_touches s fun k => { k with waiting := false })
  exact ended.trans (decideHeaderOnly_follows (serves.follows ended) _ _)

theorem judgeWaiting_follows (completed : Bool) (s : State) : Follows s (judgeWaiting completed s) := by
  unfold judgeWaiting
  refine .ite (.refl s) ?_
  split
  · exact .refl s
  · next found =>
    have serves := serves_of_workHold found
    exact .ite (endWaiting_follows serves _) (.ite (endWaiting_follows serves _) (.ite (handOutToRecord_follows s)
      (.of_touches (requestWrite_touches s _))))

theorem keyWriteEnded_follows (r : Option Reservation) (forPort completed : Bool) (s : State) :
    Follows s (keyWriteEnded r forPort completed s) := by
  have changed := keyChange_follows s (endKeyWrite completed r)
  have told := Follows.ite (p := forPort) (changed.andTouches (portOutcome_touches _ completed)) changed
  exact .ite (told.trans (judgeWaiting_follows _ _)) told

theorem numberWritten_follows (completed : Bool) (s : State) : Follows s (numberWritten completed s) := by
  refine .onTotals fun d hd => ?_
  obtain ⟨c, hc, rfl⟩ := Option.map_eq_some_iff.mp hd
  refine ⟨c, hc, fun bytes hb => .inr ?_⟩
  obtain rfl := Option.some_injective _ hb
  exact (padTo_length _ _).le

theorem endStoreWrite_follows (completed : Bool) (s : State) : Follows s (endStoreWrite completed s) := by
  unfold endStoreWrite
  split
  · next w _ =>
    refine (Follows.of_touches (onNv_touches s (endWriting w completed))).trans ?_
    cases w with
    | keyStore _ r forPort => exact keyWriteEnded_follows r forPort completed _
    | batchNumber _ => exact numberWritten_follows completed _
    | imageGroup _ _ => exact .of_touches (portOutcome_touches _ completed)
    | imageLock => exact .of_touches (portOutcome_touches _ completed)
    | erase => exact keyWriteEnded_follows none true completed _
  · exact .refl s

theorem answerFrame_follows (n : Nat) (answer : List Byte) (s : State) : Follows s (answerFrame n answer s) :=
  .of_touches (answerFrame_touches s n answer)

theorem eraseStep_follows (s : State) : Follows s (eraseStep s) := by
  have erased := ((Follows.of_touches (onNv_touches s voidReservations)).andTouches
    (onKeys_touches _ eraseKeys)).trans (oweStore_follows _)
  unfold eraseStep
  dsimp only
  split
  · next found => exact erased.trans (endWaiting_follows ((serves_of_workHold found).follows erased) _)
  · exact erased

theorem takeFrame_follows (bytes : List Byte) (s : State) : Follows s (takeFrame bytes s) := by
  have outstanding (s : State) : Follows s (holdOutstanding s) := .of_touches (onPort_touches s _)
  have request (r : StoreRequest) (s : State) : Follows s (requestWrite r s) := .of_touches (requestWrite_touches s r)
  have judged (wanted : Nat) (length : Byte) (clocked : List Byte) (act : State → State) (acts : Follows s (act s)) :
      Follows s (judgedFrame wanted length clocked act s) := by
    unfold judgedFrame
    split
    · exact answerFrame_follows _ _ s
    · exact acts
  unfold takeFrame
  refine .ite (.refl s) (.ite ?_ (.of_touches (onPort_touches s _)))
  unfold actOnFrame
  split
  · next command length clocked =>
    unfold actOnCommand
    refine .ite (answerFrame_follows _ _ s) ?_
    split
    · exact judged _ _ _ _ (answerFrame_follows _ _ s)
    · refine judged _ _ _ _ (.ite ?_ (answerFrame_follows _ _ s))
      exact (((answerFrame_follows _ _ s).trans (keyChange_follows _ _)).trans (request _ _)).trans (outstanding _)
    · exact .ite (((answerFrame_follows _ _ s).trans (request _ _)).trans (outstanding _)) (answerFrame_follows _ _ s)
    · exact judged _ _ _ _ (.ite (answerFrame_follows _ _ s)
        (((answerFrame_follows _ _ s).trans (request _ _)).trans (outstanding _)))
    · exact judged _ _ _ _ ((((answerFrame_follows _ _ s).trans (eraseStep_follows _)).trans (request _ _)).trans
        (outstanding _))
    · exact answerFrame_follows _ _ s
  · exact answerFrame_follows _ _ s

/-! ### The moves -/

/-- What brings a record into work, begins a close, or sets the channels: the takes, a directive, a reset, start-up. -/
inductive Fresh (s : State) : State → Prop where
  | take : Fresh s (takeNext s)
  | expire : Fresh s (expireNext s)
  | slotWrite (sw : SlotWrite) : Fresh s (takeSlotWrite sw s)
  | directive (due : directiveDue s.directives = true) (code : DirectiveCode) : Fresh s (runDirective code s)
  | reset {ph : Phase} (cause : ResetCause) (closed : ph ≠ .running) : Fresh s (resetPart ph cause s)
  | start (h : s.phase = .starting) : Fresh s (startBlocks s)

/-- Every other move follows on the state before it. -/
theorem Move.follows {c : Instr} {fs : List Field} {t : State} (move : Move c fs s t) : Follows s t ∨ Fresh s t := by
  have kept := move.touches
  cases move with
  | addLongest p => exact .inl (addLongestWaiting_follows s p)
  | expire => exact .inr .expire
  | gap => exact .inl (fillGap_follows s _)
  | timeout lane => exact .inl (timeoutLane_follows s lane)
  | silent lane => exact .inl (silentLane_follows s lane)
  | report => exact .inl (reportChannel_follows s _)
  | take => exact .inr .take
  | directive due => exact .inr (.directive due _)
  | summary => exact .inl (summaryStep_follows s)
  | result => exact .inl (resultStep_follows s)
  | slotWrite sw => exact .inr (.slotWrite sw)
  | returnWord => exact .inl (returnStep_follows s)
  | writeBackAck => exact .inl (writeBackAckStep_follows s)
  | voidAck => exact .inl (voidAckStep_follows s)
  | statusAck => exact .inl (statusAckStep_follows s)
  | summaryAck => exact .inl (summaryAckStep_follows s)
  | resultAck => exact .inl (resultAckStep_follows s)
  | stage => exact .inl (stageStep_follows s)
  | writeBack => exact .inl (issueWriteBack_follows s)
  | sweep => exact .inl (sweepStep_follows s)
  | frame bytes => exact .inl (takeFrame_follows bytes s)
  | storeEnd => exact .inl (endStoreWrite_follows _ s)
  | reset _ closed => exact .inr (.reset _ closed)
  | start _ starting => exact .inr (.start starting)
  | _ => exact .inl (.of_touches kept)

end Sys2Proof.Proofs
end

section
/-! SUPPORT. What the path front holds writes to no intake window, or is the whole of a slot's entry (R4, R9). -/

namespace Sys2Proof.Proofs

open Sys2Proof Sys2Proof.Machine Sys2Proof.Laws

/-! ### Addresses of the status window -/

theorem windowOf_some {addr n k : Nat} {ws : List IntakeWindow} {w : IntakeWindow}
    (h : windowOf addr n ws = some (k, w)) : w ∈ ws ∧ inWindow w addr = true := by
  induction ws generalizing n with
  | nil => simp [windowOf] at h
  | cons v vs ih =>
    unfold windowOf at h
    split at h
    · next inside =>
      obtain ⟨-, rfl⟩ : n = k ∧ v = w := by simpa using h
      exact ⟨List.mem_cons_self, inside⟩
    · obtain ⟨mem, inside⟩ := ih h
      exact ⟨List.mem_cons_of_mem _ mem, inside⟩

/-- An address in no enabled intake window is no intake address. -/
theorem classOf_ne_intake {map : WindowMap} {addr : Nat} (outside : ∀ w ∈ map.intake, inWindow w addr = false)
    (w slot offset : Nat) : classOf map addr ≠ .intake w slot offset := by
  unfold classOf
  split
  · next found =>
    obtain ⟨mem, inside⟩ := windowOf_some found
    rw [outside _ mem] at inside
    exact absurd inside (by decide)
  · split <;> simp

/-- R2: a burst within the status window writes to no intake window. -/
theorem outside_of_status {map : WindowMap} (legal : MapLegal map) (enabled : map.statusEnabled = true) {b : Burst}
    (within : ∀ run, b.op = .write run →
      map.statusBase ≤ b.addr ∧ b.addr + 8 * run.length ≤ map.statusBase + 4096) : OutsideWindows map b := by
  intro run op i hi
  obtain ⟨low, high⟩ := within run op
  exact classOf_ne_intake fun w hw => legal.clear enabled w hw _ (by omega) (by omega)

/-! ### Whole entries -/

/-- R4, R9: an entry with all of its bursts: they are its own, and write the whole of its slot or no intake window. -/
structure EntryWhole (s : State) (e : Entry) : Prop where
  own   : ∀ b ∈ e.bursts, ∃ last, b.origin = .internal e.kind last
  whole : WholeSlotOrOutside s e.kind e.bursts

section
variable {s : State}

theorem slotEntry_whole {kind : EntryKind} {w slot : Nat} {bytes : List Byte} (target : targetOf kind = some (w, slot))
    (size : bytes.length = (windowOfMap s w).slotSize) : EntryWhole s (entryOfBytes kind (slotAddr s w slot) bytes) := by
  refine ⟨(entryOfBytes_cut kind _ bytes).origin, ?_⟩
  change WholeSlotOrOutside s kind _
  unfold WholeSlotOrOutside
  rw [target]
  exact ⟨bytes, size, rfl⟩

theorem statusEntry_whole {kind : EntryKind} {offset : Nat} {bytes : List Byte} (legal : MapLegal s.settings.map)
    (enabled : s.settings.map.statusEnabled = true) (target : targetOf kind = none)
    (fits : offset + bytes.length + 7 ≤ 4096) :
    EntryWhole s (entryOfBytes kind (s.settings.map.statusBase + offset) bytes) := by
  have cut := entryOfBytes_cut kind (s.settings.map.statusBase + offset) bytes
  refine ⟨cut.origin, ?_⟩
  change WholeSlotOrOutside s kind _
  unfold WholeSlotOrOutside
  rw [target]
  intro b hb
  refine outside_of_status legal enabled fun run op => ?_
  obtain ⟨low, high⟩ := cut.within b hb run op
  have count := chunksOf_length_le (n := 8) (by decide) bytes.length bytes
  rw [List.length_map] at high
  omega

theorem resultEntry_whole {offset : Nat} (legal : MapLegal s.settings.map)
    (enabled : s.settings.map.statusEnabled = true) (fits : offset + 8 ≤ 4096) (result : Byte) :
    EntryWhole s (entryOfResult (s.settings.map.statusBase + offset) result) := by
  refine ⟨fun b hb => ⟨true, ?_⟩, fun b hb => outside_of_status legal enabled fun run op => ?_⟩
  · rw [List.mem_singleton.mp hb]
    rfl
  · obtain rfl := List.mem_singleton.mp hb
    cases op
    simp only [List.length_cons, List.length_nil]
    omega

end

/-! ### What the path front holds -/

/-- R4, R9: a burst that has gone downstream writes to no intake window, or is one of a whole entry's. -/
def BurstWhole (s : State) (b : Burst) : Prop :=
  match b.origin with
  | .passThrough => OutsideWindows s.settings.map b
  | .internal kind _ => ∃ before after, WholeSlotOrOutside s kind (before ++ b :: after)

/-- R4, R9: what a path front holds, under the window map of a state. -/
structure Carries (s : State) (p : PathFront) : Prop where
  stream  : ∀ b ∈ p.stream, b.origin = .passThrough ∧ OutsideWindows s.settings.map b
  kinds   : ∀ e ∈ p.queue ++ p.waiting, ∀ b ∈ e.bursts, ∃ last, b.origin = .internal e.kind last
  waiting : ∀ e ∈ p.waiting ++ p.queue.tail, WholeSlotOrOutside s e.kind e.bursts
  head    : ∀ e ∈ p.queue.head?, ∃ gone, WholeSlotOrOutside s e.kind (gone ++ e.bursts)
  gone    : ∀ b ∈ p.outstanding, BurstWhole s b

theorem wholeSlotOrOutside_of_settings {s t : State} (h : t.settings = s.settings) {kind : EntryKind}
    {bursts : List Burst} (k : WholeSlotOrOutside s kind bursts) : WholeSlotOrOutside t kind bursts := by
  unfold WholeSlotOrOutside windowOfMap at *
  rwa [h]

theorem BurstWhole.of_settings {s t : State} (h : t.settings = s.settings) {b : Burst} (k : BurstWhole s b) :
    BurstWhole t b := by
  unfold BurstWhole at *
  split at k
  · rwa [h]
  · obtain ⟨before, after, whole⟩ := k
    exact ⟨before, after, wholeSlotOrOutside_of_settings h whole⟩

namespace Carries

variable {s t : State} {p q : PathFront} {e : Entry} {rest : List Entry}

theorem of_settings (h : t.settings = s.settings) (k : Carries s p) : Carries t p where
  stream := by rw [h]; exact k.stream
  kinds := k.kinds
  waiting := fun e he => wholeSlotOrOutside_of_settings h (k.waiting e he)
  head := fun e he => by
    obtain ⟨gone, whole⟩ := k.head e he
    exact ⟨gone, wholeSlotOrOutside_of_settings h whole⟩
  gone := fun b hb => (k.gone b hb).of_settings h

theorem of_idle (stream : p.stream = []) (queue : p.queue = []) (waiting : p.waiting = [])
    (outstanding : p.outstanding = []) : Carries s p := by
  constructor <;> simp [stream, queue, waiting, outstanding]

/-- The rest of the path front does not matter. -/
theorem congr (h : Carries s p) (stream : q.stream = p.stream := by rfl) (queue : q.queue = p.queue := by rfl)
    (waiting : q.waiting = p.waiting := by rfl) (outstanding : q.outstanding = p.outstanding := by rfl) :
    Carries s q where
  stream := stream ▸ h.stream
  kinds := queue ▸ waiting ▸ h.kinds
  waiting := queue ▸ waiting ▸ h.waiting
  head := queue ▸ h.head
  gone := outstanding ▸ h.gone

theorem streamed (h : Carries s p) {bursts : List Burst}
    (outside : ∀ b ∈ bursts, b.origin = .passThrough ∧ OutsideWindows s.settings.map b) :
    Carries s { p with stream := p.stream ++ bursts } :=
  ⟨fun b hb => (List.mem_append.mp hb).elim (h.stream b) (outside b), h.kinds, h.waiting, h.head, h.gone⟩

/-- R9: an entry joins the queue. -/
theorem queued (h : Carries s p) (whole : EntryWhole s e) : Carries s { p with queue := p.queue ++ [e] } := by
  obtain ⟨stream, kinds, waiting, head, gone⟩ := h
  refine ⟨stream, fun f hf => ?_, fun f hf => ?_, fun f hf => ?_, gone⟩
  · simp only [List.mem_append, List.mem_singleton] at hf
    obtain (hf | rfl) | hf := hf
    · exact kinds f (List.mem_append_left _ hf)
    · exact whole.own
    · exact kinds f (List.mem_append_right _ hf)
  · have split : f ∈ p.waiting ++ p.queue.tail ∨ f = e := by
      cases queue : p.queue with
      | nil => simpa [queue] using .inl (by simpa [queue] using hf)
      | cons g gs => simpa [queue, or_assoc] using hf
    obtain hf | rfl := split
    · exact waiting f hf
    · exact whole.whole
  · cases queue : p.queue with
    | nil =>
      obtain rfl : e = f := by simpa [queue] using hf
      exact ⟨[], whole.whole⟩
    | cons g gs => exact head f (by simpa [queue] using hf)

/-- R9: an issued entry joins the queue or waits. -/
theorem issued (h : Carries s p) (whole : EntryWhole s e) : Carries s (entryIssued p e) := by
  unfold entryIssued
  split
  · exact h.queued whole
  · obtain ⟨stream, kinds, waiting, head, gone⟩ := h
    refine ⟨stream, fun f hf => ?_, fun f hf => ?_, head, gone⟩
    · simp only [List.mem_append, List.mem_singleton] at hf
      obtain hf | hf | rfl := hf
      · exact kinds f (List.mem_append_left _ hf)
      · exact kinds f (List.mem_append_right _ hf)
      · exact whole.own
    · simp only [List.mem_append, List.mem_singleton] at hf
      obtain (hf | rfl) | hf := hf
      · exact waiting f (List.mem_append_left _ hf)
      · exact whole.whole
      · exact waiting f (List.mem_append_right _ hf)

/-- An entry that waits is whole, and so are the others without it. -/
theorem waitingWhole (h : Carries s p) (waits : p.waiting = e :: rest) :
    EntryWhole s e ∧ Carries s { p with waiting := rest } := by
  obtain ⟨stream, kinds, waiting, head, gone⟩ := h
  rw [waits] at kinds waiting
  refine ⟨⟨kinds e (by simp), waiting e (by simp)⟩, stream, fun f hf => kinds f ?_, fun f hf => waiting f ?_, head, gone⟩
  · exact (List.mem_append.mp hf).elim (List.mem_append_left _) fun m => by simp [m]
  · exact List.mem_cons_of_mem _ hf

/-- R9: the head entry leaves, and the next one is whole. -/
theorem dequeued (h : Carries s p) (queue : p.queue = e :: rest) : Carries s { p with queue := rest } := by
  obtain ⟨stream, kinds, waiting, -, gone⟩ := h
  rw [queue] at kinds waiting
  refine ⟨stream, fun f hf => kinds f (List.mem_cons_of_mem _ hf), fun f hf => waiting f ?_, fun f hf => ⟨[], ?_⟩, gone⟩
  · exact (List.mem_append.mp hf).elim (List.mem_append_left _) fun m =>
      List.mem_append_right _ (List.mem_of_mem_tail m)
  · exact waiting f (List.mem_append_right _ (List.mem_of_mem_head? hf))

/-- A burst goes downstream. -/
theorem sent (h : Carries s p) {b : Burst} (whole : BurstWhole s b) (turn : Bool) :
    Carries s { p with outstanding := p.outstanding ++ [b], turnInternal := turn } := by
  refine ⟨h.stream, h.kinds, h.waiting, h.head, fun c hc => ?_⟩
  rcases List.mem_append.mp hc with hc | hc
  · exact h.gone c hc
  · exact List.mem_singleton.mp hc ▸ whole

/-- What is sent of the head entry is one of a whole entry's bursts. -/
theorem headBurst (h : Carries s p) (queue : p.queue = e :: rest) {b : Burst} {more : List Burst}
    (bursts : e.bursts = b :: more) : BurstWhole s b := by
  obtain ⟨last, origin⟩ := h.kinds e (by simp [queue]) b (by simp [bursts])
  obtain ⟨gone, whole⟩ := h.head e (by simp [queue])
  unfold BurstWhole
  rw [origin]
  exact ⟨gone, more, bursts ▸ whole⟩

/-- The head entry without its first burst. -/
theorem headSent (h : Carries s p) (queue : p.queue = e :: rest) {b : Burst} {more : List Burst}
    (bursts : e.bursts = b :: more) : Carries s { p with queue := { e with bursts := more } :: rest } := by
  obtain ⟨stream, kinds, waiting, head, gone⟩ := h
  rw [queue] at kinds waiting head
  refine ⟨stream, fun f hf => ?_, waiting, fun f hf => ?_, gone⟩
  · rcases List.mem_cons.mp hf with rfl | hf
    · exact fun c hc => kinds e List.mem_cons_self c (bursts ▸ List.mem_cons_of_mem _ hc)
    · exact kinds f (List.mem_cons_of_mem _ hf)
  · obtain rfl : { e with bursts := more } = f := by simpa using hf
    obtain ⟨before, whole⟩ := head e rfl
    exact ⟨before ++ [b], by simpa [bursts] using whole⟩

theorem grantStream (h : Carries s p) : Carries s (grantStream p) := by
  unfold Machine.grantStream
  split
  · next b rest stream =>
    have outside := h.stream
    rw [stream] at outside
    obtain ⟨origin, first⟩ := outside b List.mem_cons_self
    have whole : BurstWhole s b := by
      unfold BurstWhole
      rw [origin]
      exact first
    have left : Carries s { p with stream := rest } :=
      ⟨fun c hc => outside c (List.mem_cons_of_mem _ hc), h.kinds, h.waiting, h.head, h.gone⟩
    exact left.sent whole true
  · exact h

theorem grantInternal (h : Carries s p) : Carries s (grantInternal p) := by
  unfold Machine.grantInternal
  split
  · next queue =>
    split
    · exact h.dequeued queue
    · next bursts => exact (h.dequeued queue).sent (h.headBurst queue bursts) false
    · next bursts => exact (h.headSent queue bursts).sent (h.headBurst queue bursts) false
  · exact h

/-- R10: a grant sends on what is whole. -/
theorem grantOne (h : Carries s p) : Carries s (grantOne p) := by
  unfold Machine.grantOne
  split
  · exact h
  · split
    · exact h.grantStream
    · split
      · exact h.grantInternal
      · exact h.grantStream

theorem respond (h : Carries s p) : Carries s (respond p) := h.congr

theorem answered (h : Carries s p) {b : Burst} {rest : List Burst} (outstanding : p.outstanding = b :: rest) :
    Carries s { p with outstanding := rest } :=
  ⟨h.stream, h.kinds, h.waiting, h.head, fun c hc => h.gone c (outstanding ▸ List.mem_cons_of_mem _ hc)⟩

theorem answerPath (h : Carries s p) (map : WindowMap) (b : Burst) (okay : Bool) (data : List Byte) :
    Carries s (answerPath map b okay data p) := by
  unfold Machine.answerPath
  split
  · rw [showBurst_eq]
    exact Carries.respond h.congr
  · split <;> exact h.congr

theorem wordsTaken (h : Carries s s.path) (k : WordsTaken s t) : Carries s t.path := by
  rw [k.rest]
  exact h.congr

end Carries

/-- R4: what passes through writes to no intake window. -/
theorem forwardRuns_outside (map : WindowMap) (addr : BitVec 40) (beats : List Beat) :
    ∀ b ∈ (forwardRunsOf (classBeats map addr 0 beats)).map burstOfRun,
      b.origin = .passThrough ∧ OutsideWindows map b := by
  intro b hb
  obtain ⟨r, hr, rfl⟩ := List.mem_map.mp hb
  refine ⟨rfl, fun run op i hi w slot offset => ?_⟩
  obtain rfl : r.beats = run := by simpa [burstOfRun] using op
  have runs := forwardRunsOf_runsOf (classBeats_indexed map addr 0 beats)
  have beat : (r.addr + 8 * i, r.beats[i]) ∈ runBeats r.addr r.beats :=
    List.mem_map.mpr ⟨(r.beats[i], i), by simp [List.mem_zipIdx_iff_getElem?], rfl⟩
  have mem : (r.addr + 8 * i, r.beats[i]) ∈
      (forwardRunsOf (classBeats map addr 0 beats)).flatMap fun r => runBeats r.addr r.beats :=
    List.mem_flatMap.mpr ⟨r, hr, beat⟩
  rw [runs.beats] at mem
  obtain ⟨c, hc, classed⟩ := List.mem_filterMap.mp mem
  obtain ⟨-, cls, -⟩ := classBeats_mem hc
  change classOf map (r.addr + 8 * i) ≠ _
  unfold forwarded at classed
  split at classed
  · simp at classed
  · next plain =>
    obtain ⟨here, -⟩ := Prod.mk.inj (Option.some_injective _ classed)
    rw [← here, ← cls]
    exact plain w slot offset

end Sys2Proof.Proofs
end

section
/-! SUPPORT. A part whose start-up has not ended, or without a status window, has nothing under way; and the path front
stays sound (R4, R9, R162). -/

namespace Sys2Proof.Proofs

open Sys2Proof Sys2Proof.Machine Sys2Proof.Laws

/-! ### Nothing under way -/

/-- The path front has no burst and no entry under way. -/
structure PathIdle (p : PathFront) : Prop where
  stream      : p.stream = []
  queue       : p.queue = []
  waiting     : p.waiting = []
  outstanding : p.outstanding = []

/-- No record is in work, and no slot and no hold stands. -/
structure UnitsIdle (s : State) : Prop where
  work  : s.engine.work = none
  holds : s.intake.holds = []
  slots : ∀ t ∈ s.intake.windows, t.slots = []

/-- No entry and no burst of a directive's result is under way, and nothing shown waits for the directive unit. -/
structure PathAbsent (p : PathFront) : Prop where
  shown   : p.shownDirectives = []
  entries : ∀ e ∈ p.queue ++ p.waiting, e.kind ≠ .directiveResult
  bursts  : ∀ b ∈ p.outstanding, endsEntry b ≠ some .directiveResult
  acks    : ∀ a ∈ p.acks, a.kind ≠ .directiveResult

/-- No directive is in progress or due. -/
structure DirectivesIdle (d : DirectiveUnit) : Prop where
  none_ : d.inProgress = none
  taken : d.producer = d.done

variable {s t : State} {c : Instr} {fs : List Field}

theorem pathAbsent_of_absent (h : ReportingAbsent s) : PathAbsent s.path := ⟨h.shown, h.entries, h.bursts, h.acks⟩

theorem directivesIdle_of_absent (h : ReportingAbsent s) : DirectivesIdle s.directives := ⟨h.none_, h.taken⟩

section
variable (h : PathSound s)
include h

theorem pathIdle_of_sound (closed : s.phase ≠ .running) : PathIdle s.path := by
  obtain ⟨stream, queue, waiting, outstanding, -⟩ := h.closed closed
  exact ⟨stream, queue, waiting, outstanding⟩

theorem unitsIdle_of_sound (closed : s.phase ≠ .running) : UnitsIdle s := by
  obtain ⟨-, -, -, -, work, holds, slots⟩ := h.closed closed
  exact ⟨work, holds, slots⟩

theorem carries_of_sound : Carries s s.path := ⟨h.stream, h.kinds, h.waiting, h.head, h.gone⟩

/-- R162: what only a part with a status window has, shows that it has one. -/
theorem enabled_of_sound (reporting : ¬ReportingAbsent s) : s.settings.map.statusEnabled = true := by
  by_contra disabled
  exact reporting (h.status (.inr (by simpa using disabled)))

end

/-! ### Moves that find nothing to do -/

theorem takeFirst_satisfies {α : Type} {p : α → Bool} {l rest : List α} {x : α}
    (h : takeFirst p l = some (x, rest)) : p x = true := by
  induction l generalizing rest with
  | nil => simp [takeFirst] at h
  | cons a l ih =>
    unfold takeFirst at h
    split at h
    · next holds =>
      obtain ⟨rfl, -⟩ : a = x ∧ l = rest := by simpa using h
      exact holds
    · obtain ⟨⟨y, m⟩, found, same⟩ := Option.map_eq_some_iff.mp h
      obtain ⟨rfl, -⟩ : y = x ∧ a :: m = rest := by simpa using same
      exact ih found

theorem channelAt_absent (h : ReportingAbsent s) (ch : Nat) : (channelAt s ch).present = false := by
  unfold channelAt
  rw [List.getD_eq_getElem?_getD]
  cases found : s.report[ch]? with
  | none => rfl
  | some c => exact h.channels c (List.mem_of_getElem? found)

theorem issueDue_absent (h : ReportingAbsent s) (ch : Nat) : issueDue s.settings ch (channelAt s ch) = false := by
  simp [issueDue, channelAt_absent h]

theorem directiveDue_absent (h : ReportingAbsent s) : directiveDue s.directives = false := by
  simp [directiveDue, h.taken]

theorem summaryStep_absent (h : ReportingAbsent s) : summaryStep s = s := summaryStep_of (by simp [h.close])

theorem resultStep_absent (h : ReportingAbsent s) : resultStep s = s := resultStep_of (by simp [h.none_])

theorem indexStep_absent (h : ReportingAbsent s) : indexStep s = s := by
  unfold indexStep
  rw [h.shown]

theorem captureStep_absent (h : ReportingAbsent s) : captureStep s = s := by
  unfold captureStep
  rw [h.shown]

theorem resultAckStep_absent (h : ReportingAbsent s) : resultAckStep s = s := by
  unfold resultAckStep
  split
  · next a u found =>
    obtain ⟨left, -, taken⟩ := takeAck_path s found
    have isFound : isResult a.kind = true := takeFirst_satisfies (p := fun a : Ack => isResult a.kind) taken
    exact absurd (by simpa [isResult] using isFound) (h.acks a (takeFirst_mem taken).1)
  · rfl

theorem addLongestWaiting_idle (h : PathIdle s.path) (p : EntryKind → Bool) : addLongestWaiting p s = s := by
  unfold addLongestWaiting
  rw [h.waiting]

namespace UnitsIdle

variable (h : UnitsIdle s)
include h

theorem windowSlots (w : Nat) : (Machine.windowSlots s w).slots = [] := by
  unfold Machine.windowSlots
  rw [List.getD_eq_getElem?_getD]
  cases found : s.intake.windows[w]? with
  | none => rfl
  | some t => exact h.slots t (List.mem_of_getElem? found)

theorem holdOf (w slot : Nat) : Machine.holdOf s w slot = none := by
  unfold Machine.holdOf
  rw [h.holds]
  rfl

theorem expireNext : Machine.expireNext s = s := expireNext_of (by simp [nextExpiring, h.holds, leastBy])

theorem fillGap (w : Nat) : Machine.fillGap w s = s := fillGap_of (by simp [gapDue, h.windowSlots])

theorem takeNext : Machine.takeNext s = s := by
  unfold Machine.takeNext
  split
  · rw [h.holdOf]
  · rfl

theorem issueWriteBack : Machine.issueWriteBack s = s := by
  unfold Machine.issueWriteBack
  rw [h.work, ite_self]

/-- What leaves the record in work absent and the intake unit alone. -/
theorem of_follows (k : Follows s t) (intake : t.intake = s.intake) : UnitsIdle t := by
  refine ⟨Option.eq_none_iff_forall_ne_some.mpr fun v hv => ?_, intake ▸ h.holds, intake ▸ h.slots⟩
  obtain ⟨w, hw, -⟩ := k.work v hv
  rw [h.work] at hw
  cases hw

theorem of_touches (k : Touches fs s t) (intake : .intake ∉ fs := by decide) (engine : .engine ∉ fs := by decide) :
    UnitsIdle t := ⟨k.engine engine ▸ h.work, k.intake intake ▸ h.holds, k.intake intake ▸ h.slots⟩

theorem onWindow (w : Nat) {f : WindowSlots → WindowSlots} (empty : ∀ t, t.slots = [] → (f t).slots = []) :
    UnitsIdle (Machine.onWindow w f s) := by
  refine ⟨h.work, h.holds, fun t ht => ?_⟩
  obtain ⟨i, hi⟩ := List.mem_iff_getElem?.mp ht
  rw [Machine.onWindow, onIntake_intake, updAt_getElem?] at hi
  split at hi
  · obtain ⟨u, hu, rfl⟩ := Option.map_eq_some_iff.mp hi
    exact empty u (h.slots u (List.mem_of_getElem? hu))
  · exact h.slots t (List.mem_of_getElem? hi)

theorem setSlot (w slot : Nat) (st : SlotState) : UnitsIdle (Machine.setSlot w slot st s) :=
  h.onWindow w fun t empty => by simp only [empty, updAt]

theorem onHold (w slot : Nat) (f : Hold → Hold) : UnitsIdle (Machine.onHold w slot f s) :=
  ⟨h.work, by simp [Machine.onHold, h.holds], h.slots⟩

theorem freeHold (w slot : Nat) : UnitsIdle (Machine.freeHold w slot s) :=
  ⟨h.work, by simp [Machine.freeHold, h.holds], h.slots⟩

theorem takeSlotWrite (sw : SlotWrite) : UnitsIdle (Machine.takeSlotWrite sw s) := by
  unfold Machine.takeSlotWrite
  split
  · exact h.of_touches (addCount_touches s _ _ _)
  · have noSlot : ensureHold sw.window sw.slot s = s := if_neg (by simp [slotState, h.windowSlots])
    unfold mergeSlotWrite completionTest
    rw [noSlot, (h.onHold _ _ _).holdOf]
    exact h.onHold _ _ _

end UnitsIdle

theorem releaseCursor_empty (fuel : Nat) {t : WindowSlots} (h : t.slots = []) : (releaseCursor fuel t).1 = t := by
  cases fuel with
  | zero => rfl
  | succ fuel => simp [releaseCursor, h]

theorem UnitsIdle.slotDone (h : UnitsIdle s) (w slot : Nat) (okay : Bool) : UnitsIdle (Machine.slotDone w slot okay s) := by
  have done := h.setSlot w slot .done
  have released {u : State} (k : UnitsIdle u) : UnitsIdle (releaseWindow w u) :=
    (k.onWindow w fun t empty => by rw [releaseCursor_empty _ empty, empty]).of_touches (onChannel_touches _ _ _)
  unfold Machine.slotDone
  cases okay
  · exact released (done.of_touches (addCount_touches _ _ _ _))
  · exact released done

theorem UnitsIdle.writeBackAckStep (h : UnitsIdle s) : UnitsIdle (Machine.writeBackAckStep s) := by
  unfold Machine.writeBackAckStep
  split
  · next found => exact ((h.of_touches (takeAck_touches s found)).freeHold _ _).slotDone _ _ _
  · exact h

theorem UnitsIdle.voidAckStep (h : UnitsIdle s) : UnitsIdle (Machine.voidAckStep s) := by
  unfold Machine.voidAckStep
  split
  · next found => exact (h.of_touches (takeAck_touches s found)).slotDone _ _ _
  · exact h

/-- R171: without its channel a return word is dropped. -/
theorem returnStep_absent (h : ReportingAbsent s) : Touches [.path] s (returnStep s) := by
  unfold returnStep
  split
  · exact .refl _ s
  · next r rest _ =>
    have dropped : ¬(beatFull r.beat && (channelAt s r.ch).present) = true := by simp [channelAt_absent h]
    dsimp only
    rw [if_neg dropped]
    exact onPath_touches s _

/-- R8, R162: without a status window nothing is shown. -/
theorem showBurst_off {map : WindowMap} (off : map.statusEnabled = false) (b : Burst) (okay : Bool) (p : PathFront) :
    showBurst map b okay p = p := by
  have beat (addr : Nat) (x : Beat) (p : PathFront) : showBeat map addr x p = p := by
    unfold showBeat classOf
    split
    · next isStatus =>
      split at isStatus
      · cases isStatus
      · simp [off] at isStatus
    · rfl
  have beats (l : List Beat) (addr : Nat) (p : PathFront) : showBeats map addr l p = p := by
    induction l generalizing addr p with
    | nil => rfl
    | cons x xs ih => rw [showBeats, beat, ih]
  unfold showBurst
  split
  · rw [beats, ite_self]
  · rfl

/-! ### Resets -/

section
variable (ph : Phase) (cause : ResetCause) (s : State)

theorem resetPart_pathIdle : PathIdle (resetPart ph cause s).path := ⟨rfl, rfl, rfl, rfl⟩

theorem resetPart_unitsIdle : UnitsIdle (resetPart ph cause s) :=
  ⟨rfl, rfl, fun t ht => by rw [List.eq_of_mem_replicate (n := 4) (a := WindowSlots.none) ht]; rfl⟩

theorem resetPart_absent : ReportingAbsent (resetPart ph cause s) where
  channels := fun c hc => by rw [List.eq_of_mem_replicate (n := 5) (a := Channel.reset false) hc]; rfl
  shown := rfl
  none_ := rfl
  taken := rfl
  close := rfl
  entries := fun _ h => by cases h
  bursts := fun _ h => by cases h
  acks := fun _ h => by cases h

end

theorem emptyMap_legal : MapLegal WindowMap.empty := by
  have disabled (w : IntakeWindow) (hw : w ∈ WindowMap.empty.intake) : w = IntakeWindow.disabled :=
    List.eq_of_mem_replicate hw
  refine ⟨rfl, fun w hw => disabled w hw ▸ disabled_legal, ⟨rfl, by decide⟩, ?_, fun enabled => by cases enabled⟩
  refine List.pairwise_replicate.mpr (.inr fun a both => ?_)
  exact absurd (enabled_of_inWindow both.1) (by decide)

/-! ### The moves -/

/-- The phase and the settings change at a reset, and in a part whose start-up has not ended. -/
theorem Move.phase_or (move : Move c fs s t) : (t.phase = s.phase ∧ t.settings = s.settings) ∨ s.phase ≠ .running ∨
    ∃ ph cause, t = resetPart ph cause s := by
  have kept := move.touches
  cases move with
  | reset => exact .inr (.inr ⟨_, _, rfl⟩)
  | release _ held => exact .inr (.inl (by simp [held]))
  | start _ starting => exact .inr (.inl (by simp [starting]))
  | _ => exact .inl ⟨kept.phase (by decide), kept.settings (by decide)⟩

theorem Move.mapLegal (move : Move c fs s t) (legal : MapLegal s.settings.map) : MapLegal t.settings.map := by
  have kept := move.touches
  cases move with
  | reset => exact emptyMap_legal
  | start => exact imageSettings_mapLegal s.nv
  | _ => exact (kept.settings (by decide)).symm ▸ legal

/-- Before start-up has ended the path front stays idle. -/
theorem Move.pathIdle (move : Move c fs s t) (sound : PathSound s) (closed : s.phase ≠ .running) :
    PathIdle t.path := by
  have kept := move.touches
  have idle := pathIdle_of_sound sound closed
  have units := unitsIdle_of_sound sound closed
  have absent := sound.status (.inl closed)
  have words (k : WordsTaken s t) : PathIdle t.path := by
    rw [k.rest]
    exact ⟨idle.stream, idle.queue, idle.waiting, idle.outstanding⟩
  cases move with
  | addLongest p => exact (addLongestWaiting_idle idle p).symm ▸ idle
  | gap => exact (units.fillGap _).symm ▸ idle
  | report => exact (reportChannel_of (issueDue_absent absent _)).symm ▸ idle
  | summary => exact (summaryStep_absent absent).symm ▸ idle
  | result => exact (resultStep_absent absent).symm ▸ idle
  | writeBack => exact units.issueWriteBack.symm ▸ idle
  | offer => exact ⟨idle.stream, idle.queue, idle.waiting, idle.outstanding⟩
  | left => exact ⟨idle.stream, idle.queue, idle.waiting, idle.outstanding⟩
  | write _ _ _ open_ => exact absurd (canAccept_iff.mp open_).1 closed
  | read _ _ open_ => exact absurd (canAccept_iff.mp open_).1 closed
  | grant => exact (congrArg PathIdle (grantOne_of_idle idle.stream idle.queue)).mpr idle
  | discard =>
    rw [(abandonedMemory_touches _ _ _).path (by decide)]
    exact ⟨idle.stream, idle.queue, idle.waiting, idle.outstanding⟩
  | answer _ waits =>
    rw [idle.outstanding] at waits
    cases waits
  | returnWord => exact words (returnStep_words s)
  | index => exact words (indexStep_words s)
  | capture => exact words (captureStep_words s)
  | writeBackAck => exact words (writeBackAckStep_words s)
  | voidAck => exact words (voidAckStep_words s)
  | statusAck => exact words (statusAckStep_words s)
  | summaryAck => exact words (summaryAckStep_words s)
  | resultAck => exact words (resultAckStep_words s)
  | reset => exact resetPart_pathIdle _ _ s
  | _ => exact (kept.path (by decide)).symm ▸ idle

/-- Until start-up ends no record comes into work, and no slot and no hold comes to stand. -/
theorem Move.unitsIdle (move : Move c fs s t) (sound : PathSound s) (closed : s.phase ≠ .running)
    (after : t.phase ≠ .running) : UnitsIdle t := by
  have kept := move.touches
  have idle := pathIdle_of_sound sound closed
  have units := unitsIdle_of_sound sound closed
  have absent := sound.status (.inl closed)
  cases move with
  | addLongest p => exact (addLongestWaiting_idle idle p).symm ▸ units
  | expire => exact units.expireNext.symm ▸ units
  | gap => exact (units.fillGap _).symm ▸ units
  | report => exact (reportChannel_of (issueDue_absent absent _)).symm ▸ units
  | take => exact units.takeNext.symm ▸ units
  | summary => exact (summaryStep_absent absent).symm ▸ units
  | result => exact (resultStep_absent absent).symm ▸ units
  | slotWrite sw => exact units.takeSlotWrite sw
  | returnWord => exact units.of_touches (returnStep_absent absent)
  | writeBackAck => exact units.writeBackAckStep
  | voidAck => exact units.voidAckStep
  | stage => exact units.of_follows (stageStep_follows s) (kept.intake (by decide))
  | writeBack => exact units.issueWriteBack.symm ▸ units
  | sweep open_ => exact absurd open_ closed
  | frame bytes => exact units.of_follows (takeFrame_follows bytes s) (kept.intake (by decide))
  | storeEnd => exact units.of_follows (endStoreWrite_follows _ s) (kept.intake (by decide))
  | reset => exact resetPart_unitsIdle _ _ s
  | start => exact absurd rfl after
  | _ => exact units.of_touches kept

end Sys2Proof.Proofs
end

section
/-! SUPPORT. The invariant of the path front, part by part and move by move (R4, R9, R162). -/

namespace Sys2Proof.Proofs

open Sys2Proof Sys2Proof.Machine Sys2Proof.Laws

variable {s t : State} {c : Instr} {fs : List Field}

/-! ### The output of the record in work, and the summary of the close -/

/-- R9, R106: a built output is as long as its slot. -/
def OutputFits (s : State) : Prop :=
  ∀ w ∈ s.engine.work, ∀ o ∈ w.output, o.length = (windowOfMap s w.window).slotSize

/-- R157: a built summary fits its place in the status window. -/
def SummaryFits (s : State) : Prop := ∀ c ∈ s.totals.close, ∀ bytes ∈ c.summary, bytes.length ≤ 848

theorem OutputFits.of_follows (h : OutputFits s) (k : Follows s t) : OutputFits t := fun v hv o ho => by
  obtain ⟨w, hw, window, outputs⟩ := k.work v hv
  have size : (windowOfMap t v.window).slotSize = (windowOfMap s w.window).slotSize := by
    rw [windowOfMap, windowOfMap, k.settings, window]
  exact ((outputs o ho).elim (h w hw o) id).trans size.symm

theorem SummaryFits.of_follows (h : SummaryFits s) (k : Follows s t) : SummaryFits t := fun d hd bytes hb => by
  obtain ⟨c, hc, summaries⟩ := k.close d hd
  exact (summaries bytes hb).elim (h c hc bytes) id

theorem OutputFits.of_engine (h : OutputFits s) (work : t.engine.work = s.engine.work)
    (settings : t.settings = s.settings) : OutputFits t := by
  unfold OutputFits windowOfMap
  rw [work, settings]
  exact h

theorem OutputFits.of_idle (h : s.engine.work = none) : OutputFits s := by simp [OutputFits, h]

theorem SummaryFits.of_totals (h : SummaryFits s) (totals : t.totals = s.totals) : SummaryFits t := by
  unfold SummaryFits
  rw [totals]
  exact h

/-- R88: a record that comes into work has no output yet. -/
theorem takeNext_outputFits (h : OutputFits s) : OutputFits (takeNext s) := by
  unfold takeNext
  split
  · split
    · intro w hw o ho
      obtain rfl := Option.some_injective _ hw
      cases ho
    · exact h
  · exact h

theorem queueSlot_outputFits (h : OutputFits s) (w slot : Nat) (expired : Bool) :
    OutputFits (queueSlot w slot expired s) := OutputFits.of_engine (takeNext_outputFits h) rfl rfl

theorem expireNext_outputFits (h : OutputFits s) : OutputFits (expireNext s) := by
  unfold expireNext
  split
  · exact queueSlot_outputFits h _ _ _
  · exact h

theorem takeSlotWrite_outputFits (h : OutputFits s) (sw : SlotWrite) : OutputFits (takeSlotWrite sw s) := by
  unfold takeSlotWrite
  split
  · exact h.of_follows (addCount_follows s _ _ _)
  · have merged (f : Hold → Hold) : OutputFits (onHold sw.window sw.slot f (ensureHold sw.window sw.slot s)) :=
      h.of_follows ((Follows.of_touches (ensureHold_touches s _ _)).andTouches (onHold_touches _ _ _ _))
    unfold mergeSlotWrite completionTest
    split
    · split
      · exact queueSlot_outputFits (merged _) _ _ _
      · exact merged _
    · exact merged _

/-- R153: a close begins without a summary; no other directive reaches the totals unit. -/
theorem runDirective_summaryFits (h : SummaryFits s) (code : DirectiveCode) : SummaryFits (runDirective code s) := by
  have lanes (lane : Nat) (f : State → State) (hf : ∀ s, Touches [.lanes, .report] s (f s)) :
      SummaryFits (laneDirective lane f s) :=
    h.of_totals ((laneDirective_touches s lane f hf).totals (by decide))
  have one (lane : Nat) (f : Lane → Lane) (s : State) : Touches [.lanes, .report] s (onLane lane f s) :=
    (onLane_touches s lane f).mono (by decide)
  cases code with
  | incomplete => exact h
  | unknown => exact h
  | statusNow => exact h
  | laneSuspend => exact lanes _ _ (one _ _)
  | laneResume => exact lanes _ _ (one _ _)
  | laneForget => exact lanes _ _ fun s => forgetOn_touches s _
  | batchClose =>
    intro c hc bytes hb
    obtain rfl := Option.some_injective _ hc
    cases hb

/-- Every move keeps the length of a built output. -/
theorem Move.outputFits (move : Move c fs s t) (sound : PathSound s) : OutputFits t := by
  obtain follows | fresh := move.follows
  · exact OutputFits.of_follows sound.output follows
  · cases fresh with
    | take => exact takeNext_outputFits sound.output
    | expire => exact expireNext_outputFits sound.output
    | slotWrite sw => exact takeSlotWrite_outputFits sound.output sw
    | directive _ code =>
      have kept := runDirective_touches s code
      exact OutputFits.of_engine sound.output (congrArg Engine.work (kept.engine (by decide)))
        (kept.settings (by decide))
    | reset => exact .of_idle rfl
    | start starting => exact .of_idle (unitsIdle_of_sound sound (by simp [starting])).work

/-- Every move keeps the length of a built summary. -/
theorem Move.summaryFits (move : Move c fs s t) (sound : PathSound s) : SummaryFits t := by
  obtain follows | fresh := move.follows
  · exact SummaryFits.of_follows sound.summary follows
  · cases fresh with
    | take => exact SummaryFits.of_totals sound.summary ((takeNext_touches s).totals (by decide))
    | expire => exact SummaryFits.of_totals sound.summary ((expireNext_touches s).totals (by decide))
    | slotWrite sw => exact SummaryFits.of_totals sound.summary ((takeSlotWrite_touches s sw).totals (by decide))
    | directive _ code => exact runDirective_summaryFits sound.summary code
    | reset => exact fun _ h => by cases h
    | start => exact fun _ h => by cases h

/-! ### What is under way -/

theorem blockContent_length (s : State) (ch : Nat) : (blockContent s ch).length = 128 := by
  unfold blockContent
  split
  · exact padTo_length _ _
  · exact padTo_length _ _

/-- Every move keeps what the path front holds sound, under the map before it. -/
theorem Move.carriesBefore (move : Move c fs s t) (sound : PathSound s) : Carries s t.path := by
  have kept := move.touches
  have carries := carries_of_sound sound
  cases move with
  | addLongest p =>
    obtain same | ⟨e, rest, waits, -, added⟩ := addLongestWaiting_path s p
    · exact same.symm ▸ carries
    · obtain ⟨whole, left⟩ := carries.waitingWhole waits
      exact added.symm ▸ left.queued whole
  | gap =>
    rw [fillGap_path]
    split
    · exact carries.issued (slotEntry_whole rfl (padTo_length _ _))
    · exact carries
  | @report ch below =>
    rw [reportChannel_path]
    split
    · next due =>
      have enabled := enabled_of_sound sound fun absent => by simp [issueDue_absent absent] at due
      refine carries.issued (statusEntry_whole sound.map enabled rfl ?_)
      rw [blockContent_length, blockOffset]
      omega
    · exact carries
  | summary =>
    obtain same | ⟨close, bytes, hc, hb, issued⟩ := summaryStep_path s
    · exact same.symm ▸ carries
    · have enabled := enabled_of_sound sound fun absent => by simp [absent.close] at hc
      have size := sound.summary close hc bytes hb
      exact issued.symm ▸ carries.issued (statusEntry_whole sound.map enabled rfl (by omega))
  | result =>
    obtain same | ⟨inProgress, result, issued⟩ := resultStep_path s
    · exact same.symm ▸ carries
    · have enabled := enabled_of_sound sound fun absent => inProgress absent.none_
      have slot : doneSlot s.directives < 16 := Nat.mod_lt _ (by decide)
      rw [resultAddr, Nat.add_assoc] at issued
      exact issued.symm ▸ carries.issued (resultEntry_whole sound.map enabled (by omega) result)
  | writeBack =>
    obtain same | ⟨w, output, work, built, issued⟩ := issueWriteBack_path s
    · exact same.symm ▸ carries
    · exact issued.symm ▸ carries.issued (slotEntry_whole rfl (sound.output w work output built))
  | offer => exact carries.congr
  | left => exact carries.congr
  | write addr beats =>
    exact Carries.respond (carries.streamed (forwardRuns_outside s.settings.map addr beats)).congr
  | read addr length =>
    exact (carries.streamed (bursts := [⟨.passThrough, addr.toNat, .read length⟩]) (by simp [OutsideWindows])).congr
  | grant => exact carries.grantOne
  | discard =>
    rw [(abandonedMemory_touches _ _ _).path (by decide)]
    exact carries.congr
  | answer _ waits =>
    rw [(answerMemory_touches _ _ _).path (by decide)]
    exact (carries.answered waits).answerPath _ _ _ _
  | returnWord => exact carries.wordsTaken (returnStep_words s)
  | index => exact carries.wordsTaken (indexStep_words s)
  | capture => exact carries.wordsTaken (captureStep_words s)
  | writeBackAck => exact carries.wordsTaken (writeBackAckStep_words s)
  | voidAck => exact carries.wordsTaken (voidAckStep_words s)
  | statusAck => exact carries.wordsTaken (statusAckStep_words s)
  | summaryAck => exact carries.wordsTaken (summaryAckStep_words s)
  | resultAck => exact carries.wordsTaken (resultAckStep_words s)
  | reset => exact .of_idle rfl rfl rfl rfl
  | _ => exact (kept.path (by decide)).symm ▸ carries

/-- Where a move changes the settings, nothing is under way. -/
theorem Move.settings_or_idle (move : Move c fs s t) (sound : PathSound s) :
    t.settings = s.settings ∨ PathIdle t.path := by
  have kept := move.touches
  cases move with
  | reset => exact .inr (resetPart_pathIdle _ _ s)
  | start _ starting =>
    have idle := pathIdle_of_sound sound (by simp [starting])
    exact .inr ⟨idle.stream, idle.queue, idle.waiting, idle.outstanding⟩
  | _ => exact .inl (kept.settings (by decide))

/-- Every move keeps what the path front holds sound. -/
theorem Move.carries (move : Move c fs s t) (sound : PathSound s) : Carries t t.path := by
  obtain settings | ⟨stream, queue, waiting, outstanding⟩ := move.settings_or_idle sound
  · exact (move.carriesBefore sound).of_settings settings
  · exact .of_idle stream queue waiting outstanding

/-! ### A part without reporting (R162) -/

namespace PathAbsent

variable {p : PathFront}

theorem issued (h : PathAbsent p) {e : Entry} (kind : e.kind ≠ .directiveResult) : PathAbsent (entryIssued p e) := by
  obtain ⟨shown, entries, bursts, acks⟩ := h
  unfold entryIssued
  split
  · refine ⟨shown, fun f hf => ?_, bursts, acks⟩
    simp only [List.mem_append, List.mem_singleton] at hf
    obtain (hf | rfl) | hf := hf
    · exact entries f (List.mem_append_left _ hf)
    · exact kind
    · exact entries f (List.mem_append_right _ hf)
  · refine ⟨shown, fun f hf => ?_, bursts, acks⟩
    simp only [List.mem_append, List.mem_singleton] at hf
    obtain hf | hf | rfl := hf
    · exact entries f (List.mem_append_left _ hf)
    · exact entries f (List.mem_append_right _ hf)
    · exact kind

theorem wordsTaken (h : PathAbsent s.path) (k : WordsTaken s t) : PathAbsent t.path :=
  ⟨k.shown h.shown, by rw [k.rest]; exact h.entries, by rw [k.rest]; exact h.bursts, fun a ha => h.acks a (k.acks a ha)⟩

/-- A burst that goes downstream ends no directive result's entry. -/
theorem sent (h : PathAbsent p) {b : Burst} (other : endsEntry b ≠ some .directiveResult) (turn : Bool) :
    PathAbsent { p with outstanding := p.outstanding ++ [b], turnInternal := turn } := by
  refine ⟨h.shown, h.entries, fun x hx => ?_, h.acks⟩
  rcases List.mem_append.mp hx with hx | hx
  · exact h.bursts x hx
  · exact List.mem_singleton.mp hx ▸ other

theorem endsEntry_kind {b : Burst} {kind : EntryKind} {last : Bool} (origin : b.origin = .internal kind last)
    (other : kind ≠ .directiveResult) : endsEntry b ≠ some .directiveResult := by
  cases last <;> simp [endsEntry, origin, other]

theorem grantOne (h : PathAbsent p) (carries : Carries s p) : PathAbsent (grantOne p) := by
  have stream : PathAbsent (grantStream p) := by
    unfold grantStream
    split
    · next b rest stream =>
      have origin := (carries.stream b (stream ▸ List.mem_cons_self)).1
      have left : PathAbsent { p with stream := rest } := ⟨h.shown, h.entries, h.bursts, h.acks⟩
      exact left.sent (by simp [endsEntry, origin]) true
    · exact h
  have internal : PathAbsent (grantInternal p) := by
    unfold grantInternal
    split
    · next e rest queue =>
      have entries := h.entries
      have kinds := carries.kinds
      rw [queue] at entries kinds
      have left : PathAbsent { p with queue := rest } :=
        ⟨h.shown, fun f hf => entries f (List.mem_cons_of_mem _ hf), h.bursts, h.acks⟩
      have other (b : Burst) (hb : b ∈ e.bursts) : endsEntry b ≠ some .directiveResult := by
        obtain ⟨last, origin⟩ := kinds e List.mem_cons_self b hb
        exact endsEntry_kind origin (entries e List.mem_cons_self)
      split
      · exact left
      · next bursts => exact left.sent (other _ (bursts ▸ List.mem_cons_self)) false
      · next b more _ bursts =>
        have headLeft : PathAbsent { p with queue := { e with bursts := more } :: rest } := by
          refine ⟨h.shown, fun f hf => ?_, h.bursts, h.acks⟩
          rcases List.mem_cons.mp hf with rfl | hf
          · exact entries e List.mem_cons_self
          · exact entries f (List.mem_cons_of_mem _ hf)
        exact headLeft.sent (other b (bursts ▸ List.mem_cons_self)) false
    · exact h
  unfold Machine.grantOne
  split
  · exact h
  · split
    · exact stream
    · split
      · exact internal
      · exact stream

theorem answerPath (h : PathAbsent p) {map : WindowMap} (off : map.statusEnabled = false) {b : Burst}
    (other : endsEntry b ≠ some .directiveResult) (okay : Bool) (data : List Byte) :
    PathAbsent (answerPath map b okay data p) := by
  obtain ⟨shown, entries, bursts, acks⟩ := h
  unfold Machine.answerPath
  split
  · rw [showBurst_off off]
    exact ⟨shown, entries, bursts, acks⟩
  · next kind last origin =>
    split
    · next ends =>
      refine ⟨shown, entries, bursts, fun a ha => ?_⟩
      rcases List.mem_append.mp ha with ha | ha
      · exact acks a ha
      · rw [List.mem_singleton.mp ha]
        rintro rfl
        exact other (by simp [endsEntry, origin, ends])
    · exact ⟨shown, entries, bursts, acks⟩

end PathAbsent

/-- Without reporting no directive result comes under way. -/
theorem Move.pathAbsent (move : Move c fs s t) (sound : PathSound s)
    (off : s.phase ≠ .running ∨ s.settings.map.statusEnabled = false) : PathAbsent t.path := by
  have kept := move.touches
  have absent := sound.status off
  have path := pathAbsent_of_absent absent
  have ⟨shown, entries, bursts, acks⟩ := path
  cases move with
  | addLongest p =>
    obtain same | ⟨e, rest, waits, -, added⟩ := addLongestWaiting_path s p
    · exact same.symm ▸ path
    · rw [added]
      refine ⟨shown, fun f hf => entries f ?_, bursts, acks⟩
      simpa [waits, or_assoc] using hf
  | gap =>
    rw [fillGap_path]
    split
    · exact path.issued fun e => by cases e
    · exact path
  | report => exact (reportChannel_of (issueDue_absent absent _)).symm ▸ path
  | summary => exact (summaryStep_absent absent).symm ▸ path
  | result => exact (resultStep_absent absent).symm ▸ path
  | writeBack =>
    obtain same | ⟨_, _, _, _, issued⟩ := issueWriteBack_path s
    · exact same.symm ▸ path
    · exact issued.symm ▸ path.issued fun e => by cases e
  | offer => exact ⟨shown, entries, bursts, acks⟩
  | left => exact ⟨shown, entries, bursts, acks⟩
  | write => exact ⟨shown, entries, bursts, acks⟩
  | read => exact ⟨shown, entries, bursts, acks⟩
  | grant => exact path.grantOne (carries_of_sound sound)
  | discard =>
    rw [(abandonedMemory_touches _ _ _).path (by decide)]
    exact ⟨shown, entries, bursts, acks⟩
  | @answer _ _ _ b rest _ waits =>
    rw [(answerMemory_touches _ _ _).path (by decide)]
    have disabled : s.settings.map.statusEnabled = false := by
      refine off.resolve_left fun closed => ?_
      rw [(pathIdle_of_sound sound closed).outstanding] at waits
      cases waits
    rw [waits] at bursts
    have left : PathAbsent { s.path with outstanding := rest } :=
      ⟨shown, entries, fun x hx => bursts x (List.mem_cons_of_mem _ hx), acks⟩
    exact left.answerPath disabled (bursts b List.mem_cons_self) _ _
  | returnWord => exact path.wordsTaken (returnStep_words s)
  | index => exact path.wordsTaken (indexStep_words s)
  | capture => exact path.wordsTaken (captureStep_words s)
  | writeBackAck => exact path.wordsTaken (writeBackAckStep_words s)
  | voidAck => exact path.wordsTaken (voidAckStep_words s)
  | statusAck => exact path.wordsTaken (statusAckStep_words s)
  | summaryAck => exact path.wordsTaken (summaryAckStep_words s)
  | resultAck => exact path.wordsTaken (resultAckStep_words s)
  | reset => exact pathAbsent_of_absent (resetPart_absent _ _ s)
  | _ => exact (kept.path (by decide)).symm ▸ path

theorem summaryAckStep_directivesIdle (h : DirectivesIdle s.directives) :
    DirectivesIdle (summaryAckStep s).directives := by
  unfold summaryAckStep
  split
  · next found =>
    have kept := (takeAck_touches s found).directives (by decide)
    split
    · have told (u : State) (k : DirectivesIdle u.directives) (r : DirectiveResult) :
          DirectivesIdle (giveResult r u).directives := ⟨by simp [giveResult, k.none_], k.taken⟩
      refine told _ ?_ _
      rw [(storeFaultUnless_touches _ _).directives (by decide), (onChannel_touches _ _ _).directives (by decide),
        (onTotals_touches _ _).directives (by decide), kept]
      exact h
    · exact kept.symm ▸ h
  · exact h

/-- Without reporting no directive comes to be due or in progress. -/
theorem Move.directivesIdle (move : Move c fs s t) (absent : ReportingAbsent s) : DirectivesIdle t.directives := by
  have kept := move.touches
  have idle := directivesIdle_of_absent absent
  cases move with
  | directive due => exact absurd due (by simp [directiveDue_absent absent])
  | result => exact (resultStep_absent absent).symm ▸ idle
  | index => exact (indexStep_absent absent).symm ▸ idle
  | capture => exact (captureStep_absent absent).symm ▸ idle
  | summaryAck => exact summaryAckStep_directivesIdle idle
  | resultAck => exact (resultAckStep_absent absent).symm ▸ idle
  | reset => exact directivesIdle_of_absent (resetPart_absent _ _ s)
  | _ => exact (kept.directives (by decide)).symm ▸ idle

/-- Without reporting no channel comes to exist. -/
theorem Move.channelsAbsent (move : Move c fs s t) (absent : ReportingAbsent s)
    (off : t.phase ≠ .running ∨ t.settings.map.statusEnabled = false) : ∀ p ∈ presents t, p = false := by
  have none : ∀ p ∈ presents s, p = false := fun p hp => by
    obtain ⟨ch, hch, rfl⟩ := List.mem_map.mp hp
    exact absent.channels ch hch
  have same (k : t.report = s.report) : ∀ p ∈ presents t, p = false := by
    unfold presents
    rw [k]
    exact none
  obtain follows | fresh := move.follows
  · exact follows.channels.symm ▸ none
  · cases fresh with
    | take => exact same ((takeNext_touches s).report (by decide))
    | expire => exact same ((expireNext_touches s).report (by decide))
    | slotWrite sw =>
      have kept : presents (takeSlotWrite sw s) = presents s := by
        unfold takeSlotWrite
        split
        · exact (addCount_follows s _ _ _).channels
        · exact congrArg (List.map Channel.present) ((mergeSlotWrite_touches s sw).report (by decide))
      exact kept.symm ▸ none
    | directive due => exact absurd due (by simp [directiveDue_absent absent])
    | reset cause =>
      intro p hp
      obtain ⟨ch, hch, rfl⟩ := List.mem_map.mp hp
      exact (resetPart_absent _ cause s).channels ch hch
    | start =>
      have disabled : (imageSettings s.nv).map.statusEnabled = false := off.resolve_left fun h => h rfl
      intro p hp
      obtain ⟨ch, hch, rfl⟩ := List.mem_map.mp hp
      obtain ⟨n, -, rfl⟩ := List.mem_map.mp hch
      simp [channelExists, disabled, Channel.reset]

/-- Without reporting no close begins. -/
theorem Move.closeAbsent (move : Move c fs s t) (absent : ReportingAbsent s) : t.totals.close = none := by
  have same (k : t.totals = s.totals) : t.totals.close = none := k ▸ absent.close
  obtain follows | fresh := move.follows
  · refine Option.eq_none_iff_forall_ne_some.mpr fun d hd => ?_
    obtain ⟨c, hc, -⟩ := follows.close d hd
    simp [absent.close] at hc
  · cases fresh with
    | take => exact same ((takeNext_touches s).totals (by decide))
    | expire => exact same ((expireNext_touches s).totals (by decide))
    | slotWrite sw => exact same ((takeSlotWrite_touches s sw).totals (by decide))
    | directive due => exact absurd due (by simp [directiveDue_absent absent])
    | reset => rfl
    | start => rfl

/-- R162: every move leaves a part without reporting without it. -/
theorem Move.reportingAbsent (move : Move c fs s t) (sound : PathSound s)
    (off : t.phase ≠ .running ∨ t.settings.map.statusEnabled = false) : ReportingAbsent t := by
  have before : (s.phase ≠ .running ∨ s.settings.map.statusEnabled = false) ∨ ReportingAbsent t := by
    obtain ⟨phase, settings⟩ | closed | ⟨ph, cause, rfl⟩ := move.phase_or
    · exact .inl (phase ▸ settings ▸ off)
    · exact .inl (.inl closed)
    · exact .inr (resetPart_absent ph cause s)
  obtain wasOff | done := before
  · have absent := sound.status wasOff
    obtain ⟨shown, entries, bursts, acks⟩ := move.pathAbsent sound wasOff
    obtain ⟨none_, taken⟩ := move.directivesIdle absent
    exact ⟨fun ch hch => move.channelsAbsent absent off _ (List.mem_map_of_mem hch), shown, none_, taken,
      move.closeAbsent absent, entries, bursts, acks⟩
  · exact done

/-- Before start-up has ended nothing comes under way. -/
theorem Move.closedIdle (move : Move c fs s t) (sound : PathSound s) (after : t.phase ≠ .running) :
    PathIdle t.path ∧ UnitsIdle t := by
  obtain ⟨phase, -⟩ | closed | ⟨ph, cause, rfl⟩ := move.phase_or
  · have closed : s.phase ≠ .running := phase ▸ after
    exact ⟨move.pathIdle sound closed, move.unitsIdle sound closed after⟩
  · exact ⟨move.pathIdle sound closed, move.unitsIdle sound closed after⟩
  · exact ⟨resetPart_pathIdle ph cause s, resetPart_unitsIdle ph cause s⟩

/-- Every move keeps the path front sound. -/
theorem Move.pathSound (move : Move c fs s t) (sound : PathSound s) : PathSound t := by
  obtain ⟨stream, kinds, waiting, head, gone⟩ := move.carries sound
  refine ⟨move.mapLegal sound.map, fun after => ?_, move.reportingAbsent sound, move.summaryFits sound,
    move.outputFits sound, stream, kinds, waiting, head, gone⟩
  obtain ⟨path, units⟩ := move.closedIdle sound after
  exact ⟨path.stream, path.queue, path.waiting, path.outstanding, units.work, units.holds, units.slots⟩

/-- Settles O59: every move keeps each part of the invariant, given the whole of it before. -/
theorem pathStaysSound : Obligations.PathStaysSound := by
  intro s t start run
  refine step_keeps (fun _ _ _ _ move sound => move.pathSound sound) (fun u rest sound => ?_) run start
  obtain ⟨stream, kinds, waiting, head, gone⟩ :=
    Carries.of_settings (s := u) (t := { u with pending := rest }) rfl (carries_of_sound sound)
  refine ⟨sound.map, sound.closed, fun off => ?_, sound.summary, sound.output, stream, kinds, waiting, head, gone⟩
  have absent := sound.status off
  exact ⟨absent.channels, absent.shown, absent.none_, absent.taken, absent.close, absent.entries, absent.bursts,
    absent.acks⟩

end Sys2Proof.Proofs
end

section
/-! SUPPORT. The rules of the intake unit's state: what a window, a slot and a hold read after each update of them. -/

namespace Sys2Proof.Proofs

open Sys2Proof Sys2Proof.Machine Sys2Proof.Laws

variable {s t : State}

/-! ### Windows and slots -/

theorem windowSlots_congr (h : t.intake.windows = s.intake.windows) (w : Nat) : windowSlots t w = windowSlots s w := by
  unfold windowSlots
  rw [h]

theorem slotState_congr (h : t.intake.windows = s.intake.windows) (w slot : Nat) :
    slotState t w slot = slotState s w slot := by
  unfold slotState
  rw [windowSlots_congr h]

/-- A window after the update of one. -/
theorem windowSlots_onWindow (s : State) (w v : Nat) (f : WindowSlots → WindowSlots) :
    windowSlots (onWindow w f s) v =
      if w = v ∧ v < s.intake.windows.length then f (windowSlots s v) else windowSlots s v := by
  unfold windowSlots onWindow
  simp only [onIntake_intake, List.getD_eq_getElem?_getD, updAt_getElem?]
  by_cases same : w = v
  · by_cases inside : v < s.intake.windows.length
    · simp [same, inside]
    · simp [same, inside]
  · simp [same]

theorem windowSlots_onWindow_of_lt {w : Nat} (h : w < s.intake.windows.length) (f : WindowSlots → WindowSlots) :
    windowSlots (onWindow w f s) w = f (windowSlots s w) := by
  rw [windowSlots_onWindow, if_pos ⟨rfl, h⟩]

theorem windowSlots_onWindow_ne {w v : Nat} (h : v ≠ w) (s : State) (f : WindowSlots → WindowSlots) :
    windowSlots (onWindow w f s) v = windowSlots s v := by
  rw [windowSlots_onWindow, if_neg fun both => h both.1.symm]

@[simp] theorem onWindow_windows_length (w : Nat) (f : WindowSlots → WindowSlots) (s : State) :
    (onWindow w f s).intake.windows.length = s.intake.windows.length := updAt_length _ _ _

/-- The state of a slot after that of one is set. -/
theorem slotState_setSlot (s : State) (w slot : Nat) (st : SlotState) (v j : Nat) :
    slotState (setSlot w slot st s) v j =
      if (v, j) = (w, slot) then (slotState s v j).map fun _ => st else slotState s v j := by
  unfold slotState setSlot
  rw [windowSlots_onWindow]
  by_cases same : v = w
  · subst same
    by_cases inside : v < s.intake.windows.length
    · rw [if_pos ⟨rfl, inside⟩]
      simp only [updAt_getElem?, Prod.mk.injEq, true_and, eq_comm (a := slot)]
    · simp [windowSlots, inside, WindowSlots.none]
  · rw [if_neg fun both => same both.1.symm, if_neg (by simp [same])]

theorem slotState_setSlot_same {w slot : Nat} {old : SlotState} (h : slotState s w slot = some old) (st : SlotState) :
    slotState (setSlot w slot st s) w slot = some st := by
  rw [slotState_setSlot, if_pos rfl, h, Option.map_some]

theorem slotState_setSlot_ne {w slot v j : Nat} (h : (v, j) ≠ (w, slot)) (s : State) (st : SlotState) :
    slotState (setSlot w slot st s) v j = slotState s v j := by rw [slotState_setSlot, if_neg h]

/-! ### Holds -/

theorem holdServes_iff {w slot : Nat} {h : Hold} : holdServes w slot h = true ↔ (h.window, h.slot) = (w, slot) := by
  simp [holdServes]

theorem holdOf_congr (h : t.intake.holds = s.intake.holds) (w slot : Nat) : holdOf t w slot = holdOf s w slot := by
  unfold holdOf
  rw [h]

/-- R18: a slot that is among those that have a hold has one. -/
theorem holdOf_isSome {w slot : Nat} : (holdOf s w slot).isSome = true ↔
    (w, slot) ∈ s.intake.holds.map fun h => (h.window, h.slot) := by
  simp only [holdOf, List.find?_isSome, holdServes_iff, List.mem_map]

/-- The hold of a slot after the update of one slot's, which keeps its slot. -/
theorem holdOf_onHold {w slot : Nat} {f : Hold → Hold} (keeps : ∀ h, (f h).window = h.window ∧ (f h).slot = h.slot)
    (s : State) (v j : Nat) :
    holdOf (onHold w slot f s) v j =
      if (v, j) = (w, slot) then (holdOf s v j).map f else holdOf s v j := by
  unfold holdOf onHold
  simp only [onIntake_intake, List.find?_map]
  have same (h : Hold) : holdServes v j (if holdServes w slot h then f h else h) = holdServes v j h := by
    obtain ⟨window, place⟩ := keeps h
    split <;> simp [holdServes, window, place]
  have pred : holdServes v j ∘ (fun h => if holdServes w slot h then f h else h) = holdServes v j := funext same
  rw [pred]
  cases found : s.intake.holds.find? (holdServes v j) with
  | none => simp
  | some h =>
    have serves : (h.window, h.slot) = (v, j) := holdServes_iff.mp (List.find?_some (p := holdServes v j) found)
    by_cases e : (v, j) = (w, slot)
    · rw [if_pos e, Option.map_some, Option.map_some, if_pos (holdServes_iff.mpr (serves.trans e))]
    · rw [if_neg e, Option.map_some, if_neg fun k => e (serves.symm.trans (holdServes_iff.mp k))]

@[simp] theorem onHold_windows (w slot : Nat) (f : Hold → Hold) (s : State) :
    (onHold w slot f s).intake.windows = s.intake.windows := rfl

/-! ### The take and the order of the queue (R86, R87) -/

theorem greatestBy_mem {α : Type} {key : α → Nat} {l : List α} {x : α} (h : greatestBy key l = some x) : x ∈ l := by
  induction l generalizing x with
  | nil => simp [greatestBy] at h
  | cons a l ih =>
    unfold greatestBy at h
    split at h
    · simp_all
    · next y found =>
      split at h <;> obtain rfl := Option.some_injective _ h
      · exact List.mem_cons_self
      · exact List.mem_cons_of_mem _ (ih found)

/-- R87, R88: a take changes nothing, or starts work on a queued entry that has its hold. -/
theorem takeNext_cases (s : State) : takeNext s = s ∨ ∃ e h, s.engine.work = none ∧ e ∈ s.engine.queue ∧
    holdOf s e.window e.slot = some h ∧ takeNext s = startWork e h s := by
  unfold takeNext
  split
  · next e idle next =>
    cases found : holdOf s e.window e.slot with
    | none => exact .inl rfl
    | some h => exact .inr ⟨e, h, idle, greatestBy_mem next, found, rfl⟩
  · exact .inl rfl

end Sys2Proof.Proofs
end

section
/-! SUPPORT. Rings (R16): what keeps a window's ring sound, and that release and consumption do. -/

namespace Sys2Proof.Proofs

open Sys2Proof Sys2Proof.Machine Sys2Proof.Laws

/-! ### Places in a ring -/

/-- How many slots a ring can have (R2); none while its window is disabled. -/
theorem ringSize_cases {n : Nat} (h : n ∈ [0, 16, 32, 64, 128, 256]) :
    n = 0 ∨ n = 16 ∨ n = 32 ∨ n = 64 ∨ n = 128 ∨ n = 256 := by simpa using h

/-- R16: how far a slot's ring index lies behind the consumed index. -/
def slotOffset (t : WindowSlots) (slot : Nat) : Nat := (slot + 65536 - t.consumed.toNat) % t.slots.length

/-- R16: how far the release index lies ahead of the consumed index. -/
def ringSpan (t : WindowSlots) : Nat := (t.release - t.consumed).toNat

theorem ringIndexOf_eq (t : WindowSlots) (slot : Nat) :
    ringIndexOf t slot = t.consumed + BitVec.ofNat 16 (slotOffset t slot) := rfl

theorem ringIndexOf_sub_consumed {t : WindowSlots} {slot : Nat} (size : t.slots.length ∈ [0, 16, 32, 64, 128, 256])
    (inside : slot < t.slots.length) : (ringIndexOf t slot - t.consumed).toNat = slotOffset t slot := by
  have small : slotOffset t slot < t.slots.length := Nat.mod_lt _ (by omega)
  have bound : t.slots.length ≤ 256 := by rcases ringSize_cases size with h | h | h | h | h | h <;> omega
  rw [ringIndexOf_eq]
  generalize slotOffset t slot = offset at small ⊢
  have : offset < 65536 := by omega
  bv_omega

/-- R16 in numbers: a slot is RELEASED exactly when it lies before the release index. -/
theorem ringSound_iff {t : WindowSlots} : RingSound t ↔
    t.slots.length ∈ [0, 16, 32, 64, 128, 256] ∧ ringSpan t ≤ t.slots.length ∧
      ∀ slot < t.slots.length, t.slots[slot]? = some .released ↔ slotOffset t slot < ringSpan t := by
  constructor
  · rintro ⟨size, span, released⟩
    refine ⟨size, span, fun slot inside => ?_⟩
    rw [released slot inside, ringIndexOf_sub_consumed size inside, ringSpan]
  · rintro ⟨size, span, released⟩
    refine ⟨size, span, fun slot inside => ?_⟩
    rw [released slot inside, ringIndexOf_sub_consumed size inside, ringSpan]

theorem slotOffset_lt {t : WindowSlots} {slot : Nat} (inside : slot < t.slots.length) :
    slotOffset t slot < t.slots.length := Nat.mod_lt _ (by omega)

theorem consumedAccepted_iff {t : WindowSlots} {c : BitVec 16} :
    consumedAccepted t c = true ↔ (c - t.consumed).toNat ≤ ringSpan t := by
  unfold consumedAccepted ringSpan
  exact decide_eq_true_iff

theorem ringSound_none : RingSound WindowSlots.none :=
  ⟨by decide, by decide, fun slot inside => absurd inside (Nat.not_lt_zero slot)⟩

/-! ### What leaves a ring alone -/

/-- From `t` to `u` the same slots are RELEASED, and neither index has moved. -/
structure RingKept (t u : WindowSlots) : Prop where
  size     : u.slots.length = t.slots.length
  release  : u.release = t.release
  consumed : u.consumed = t.consumed
  released : ∀ slot : Nat, u.slots[slot]? = some .released ↔ t.slots[slot]? = some .released

namespace RingKept

variable {t u v : WindowSlots}

theorem refl (t : WindowSlots) : RingKept t t := ⟨rfl, rfl, rfl, fun _ => .rfl⟩

theorem trans (h : RingKept t u) (k : RingKept u v) : RingKept t v :=
  ⟨k.size.trans h.size, k.release.trans h.release, k.consumed.trans h.consumed,
    fun slot => (k.released slot).trans (h.released slot)⟩

theorem ringIndexOf (h : RingKept t u) (slot : Nat) : ringIndexOf u slot = ringIndexOf t slot := by
  unfold Machine.ringIndexOf
  rw [h.consumed, h.size]

theorem sound (h : RingKept t u) (ring : RingSound t) : RingSound u := by
  obtain ⟨size, span, released⟩ := ring
  refine ⟨h.size ▸ size, by rw [h.release, h.consumed, h.size]; exact span, fun slot inside => ?_⟩
  rw [h.released, h.ringIndexOf, h.release, h.consumed]
  exact released slot (h.size ▸ inside)

end RingKept

/-- R16: a slot that is not RELEASED is set to a state that is not RELEASED. -/
theorem ringKept_updAt {t : WindowSlots} {slot : Nat} {st : SlotState} (before : t.slots[slot]? ≠ some .released)
    (after : st ≠ .released) (age : Nat) :
    RingKept t { t with slots := updAt t.slots slot fun _ => st, gapAge := age } := by
  refine ⟨updAt_length _ _ _, rfl, rfl, fun j => ?_⟩
  simp only [updAt_getElem?]
  by_cases same : slot = j
  · subst same
    rw [if_pos rfl]
    simp [before, after]
  · rw [if_neg same]

/-! ### Release (R38) -/

/-- R38: the cursor passes a DONE slot. -/
def passCursor (t : WindowSlots) : WindowSlots :=
  { t with slots := updAt t.slots (slotOfIndex t t.release) fun _ => .released, release := t.release + 1 }

theorem releaseCursor_done (fuel : Nat) {t : WindowSlots} (h : t.slots[slotOfIndex t t.release]? = some .done) :
    releaseCursor (fuel + 1) t =
      ((releaseCursor fuel (passCursor t)).1, (releaseCursor fuel (passCursor t)).2 + 1) := by
  rw [releaseCursor, if_pos h]
  rfl

theorem releaseCursor_stops (fuel : Nat) {t : WindowSlots} (h : t.slots[slotOfIndex t t.release]? ≠ some .done) :
    releaseCursor fuel t = (t, 0) := by
  cases fuel with
  | zero => rfl
  | succ fuel => rw [releaseCursor, if_neg h]

/-- R16 in numbers: the slot at the release index lies as far behind the consumed index as the release index, around the
ring; of the others none lies there. -/
theorem offset_of_release {n : Nat} (size : n ∈ [0, 16, 32, 64, 128, 256]) {r c : BitVec 16}
    (span : (r - c).toNat ≤ n) (behind : ¬(r.toNat % n + 65536 - c.toNat) % n < (r - c).toNat) (some : 0 < n) :
    (r - c).toNat < n ∧ (r + 1 - c).toNat = (r - c).toNat + 1 ∧
      ∀ slot < n, (slot + 65536 - c.toNat) % n = (r - c).toNat ↔ r.toNat % n = slot := by
  rcases ringSize_cases size with rfl | rfl | rfl | rfl | rfl | rfl
  · omega
  all_goals
    refine ⟨by bv_omega, by bv_omega, fun slot inside => ?_⟩
    bv_omega

/-- R16, R38: the cursor passes a DONE slot only while the ring is not full, and the ring stays sound. -/
theorem passCursor_sound {t : WindowSlots} (ring : RingSound t)
    (done : t.slots[slotOfIndex t t.release]? = some .done) : RingSound (passCursor t) := by
  obtain ⟨size, span, released⟩ := ringSound_iff.mp ring
  have inside := (List.getElem?_eq_some_iff.mp done).1
  have behind : ¬slotOffset t (slotOfIndex t t.release) < ringSpan t := fun h => by
    simpa [done] using (released _ inside).mpr h
  obtain ⟨room, next, place⟩ := offset_of_release size span behind (by omega)
  have length : (passCursor t).slots.length = t.slots.length := updAt_length _ _ _
  have longer : ringSpan (passCursor t) = ringSpan t + 1 := next
  refine ringSound_iff.mpr ⟨length ▸ size, by rw [length, longer]; exact room, fun slot hs => ?_⟩
  rw [length] at hs
  have offset : slotOffset (passCursor t) slot = slotOffset t slot := by
    unfold slotOffset
    rw [length]
    rfl
  have read : (passCursor t).slots[slot]? =
      if slotOfIndex t t.release = slot then some .released else t.slots[slot]? := by
    simp only [passCursor, updAt_getElem?]
    split
    · next same => rw [← same, done, Option.map_some]
    · rfl
  have here : slotOffset t slot = ringSpan t ↔ slotOfIndex t t.release = slot := place slot hs
  rw [read, offset, longer]
  split
  · next same => simp [here.mpr same]
  · next other =>
    rw [released slot hs]
    have apart : slotOffset t slot ≠ ringSpan t := fun e => other (here.mp e)
    omega

/-- R38: the release rule keeps the ring sound. -/
theorem releaseCursor_sound (fuel : Nat) {t : WindowSlots} (ring : RingSound t) :
    RingSound (releaseCursor fuel t).1 := by
  induction fuel generalizing t with
  | zero => exact ring
  | succ fuel ih =>
    by_cases done : t.slots[slotOfIndex t t.release]? = some .done
    · rw [releaseCursor_done fuel done]
      exact ih (passCursor_sound ring done)
    · rw [releaseCursor_stops _ done]
      exact ring

/-- R38: what the release rule leaves alone. -/
theorem releaseCursor_frame (fuel : Nat) (t : WindowSlots) :
    (releaseCursor fuel t).1.slots.length = t.slots.length ∧ (releaseCursor fuel t).1.consumed = t.consumed ∧
      (releaseCursor fuel t).1.gapAge = t.gapAge ∧
      ∀ (j : Nat) (st : SlotState), st ≠ .done → st ≠ .released →
        ((releaseCursor fuel t).1.slots[j]? = some st ↔ t.slots[j]? = some st) := by
  induction fuel generalizing t with
  | zero => exact ⟨rfl, rfl, rfl, fun _ _ _ _ => .rfl⟩
  | succ fuel ih =>
    by_cases done : t.slots[slotOfIndex t t.release]? = some .done
    · rw [releaseCursor_done fuel done]
      obtain ⟨length, consumed, gapAge, states⟩ := ih (passCursor t)
      refine ⟨length.trans (updAt_length _ _ _), consumed, gapAge, fun j st notDone notReleased => ?_⟩
      rw [states j st notDone notReleased]
      simp only [passCursor, updAt_getElem?]
      split
      · next same =>
        rw [← same, done]
        simp [notDone.symm, notReleased.symm]
      · rfl
    · rw [releaseCursor_stops _ done]
      exact ⟨rfl, rfl, rfl, fun _ _ _ _ => .rfl⟩

/-! ### Consumption (R39) -/

/-- R39: exactly the slots at the indices passed become FREE. -/
theorem freeSlots_getElem? (n : Nat) (index : BitVec 16) (slots : List SlotState) (j : Nat) :
    (freeSlots n index slots)[j]? =
      if ∃ k < n, (index + BitVec.ofNat 16 k).toNat % slots.length = j then slots[j]?.map fun _ => .free
      else slots[j]? := by
  induction n generalizing index slots with
  | zero => simp [freeSlots]
  | succ n ih =>
    rw [freeSlots, ih, updAt_length, updAt_getElem?]
    have next (k : Nat) : index + 1 + BitVec.ofNat 16 k = index + BitVec.ofNat 16 (k + 1) := by
      rw [BitVec.add_assoc, BitVec.add_comm 1, BitVec.ofNat_add]
      rfl
    simp only [next]
    have split : (∃ k < n + 1, (index + BitVec.ofNat 16 k).toNat % slots.length = j) ↔
        index.toNat % slots.length = j ∨ ∃ k < n, (index + BitVec.ofNat 16 (k + 1)).toNat % slots.length = j := by
      constructor
      · rintro ⟨k, hk, e⟩
        cases k with
        | zero => exact .inl (by simpa using e)
        | succ k => exact .inr ⟨k, by omega, e⟩
      · rintro (e | ⟨k, hk, e⟩)
        · exact ⟨0, by omega, by simpa using e⟩
        · exact ⟨k + 1, by omega, e⟩
    simp only [split]
    by_cases first : index.toNat % slots.length = j
    · cases slots[j]? <;> simp [first]
    · simp [first]

@[simp] theorem freeSlots_length (n : Nat) (index : BitVec 16) (slots : List SlotState) :
    (freeSlots n index slots).length = slots.length := by
  induction n generalizing index slots with
  | zero => rfl
  | succ n ih => rw [freeSlots, ih, updAt_length]

/-- R39: a window whose consumed index has become `c`. -/
def consumeTo (c : BitVec 16) (t : WindowSlots) : WindowSlots :=
  { t with slots := freeSlots (c - t.consumed).toNat t.consumed t.slots, consumed := c }

/-- R16 in numbers: the index `k` ahead of the consumed one is that of the slot `k` behind it. -/
theorem place_of_offset {n : Nat} (size : n ∈ [0, 16, 32, 64, 128, 256]) (c : BitVec 16) {k slot : Nat} (hk : k < n)
    (inside : slot < n) : (c + BitVec.ofNat 16 k).toNat % n = slot ↔ k = (slot + 65536 - c.toNat) % n := by
  have wide := c.isLt
  rw [BitVec.toNat_add, BitVec.toNat_ofNat]
  rcases ringSize_cases size with rfl | rfl | rfl | rfl | rfl | rfl <;> omega

/-- R16: the slots at the indices that a consumed index passes are the ones less far behind than it. -/
theorem passed_iff {t : WindowSlots} {d slot : Nat} (size : t.slots.length ∈ [0, 16, 32, 64, 128, 256])
    (within : d ≤ t.slots.length) (inside : slot < t.slots.length) :
    (∃ k < d, (t.consumed + BitVec.ofNat 16 k).toNat % t.slots.length = slot) ↔ slotOffset t slot < d := by
  constructor
  · rintro ⟨k, hk, e⟩
    rw [slotOffset, ← (place_of_offset size t.consumed (by omega) inside).mp e]
    exact hk
  · intro h
    exact ⟨_, h, (place_of_offset size t.consumed (slotOffset_lt inside) inside).mpr rfl⟩

/-- R16 in numbers: how far a slot lies behind a consumed index `d` further on. -/
theorem offset_of_consumed {n : Nat} (size : n ∈ [0, 16, 32, 64, 128, 256]) {c d : BitVec 16} {slot : Nat}
    (within : (d - c).toNat ≤ n) (inside : slot < n) : (slot + 65536 - d.toNat) % n =
      if (slot + 65536 - c.toNat) % n < (d - c).toNat then (slot + 65536 - c.toNat) % n + n - (d - c).toNat
      else (slot + 65536 - c.toNat) % n - (d - c).toNat := by
  have wide := c.isLt
  have wide' := d.isLt
  rw [BitVec.toNat_sub] at *
  rcases ringSize_cases size with rfl | rfl | rfl | rfl | rfl | rfl <;> split <;> omega

/-- R16: how far a slot lies behind the new consumed index. -/
theorem slotOffset_consumeTo {t : WindowSlots} {c : BitVec 16} {slot : Nat}
    (size : t.slots.length ∈ [0, 16, 32, 64, 128, 256]) (within : (c - t.consumed).toNat ≤ t.slots.length)
    (inside : slot < t.slots.length) : slotOffset (consumeTo c t) slot =
      if slotOffset t slot < (c - t.consumed).toNat then slotOffset t slot + t.slots.length - (c - t.consumed).toNat
      else slotOffset t slot - (c - t.consumed).toNat := by
  have offset := offset_of_consumed size within inside
  unfold slotOffset
  rw [← offset]
  simp [consumeTo]

/-- R39: an accepted consumed index keeps the ring sound. -/
theorem consumeTo_sound {t : WindowSlots} {c : BitVec 16} (ring : RingSound t)
    (accepted : consumedAccepted t c = true) : RingSound (consumeTo c t) := by
  obtain ⟨size, span, released⟩ := ringSound_iff.mp ring
  have within : (c - t.consumed).toNat ≤ ringSpan t := consumedAccepted_iff.mp accepted
  have length : (consumeTo c t).slots.length = t.slots.length := freeSlots_length _ _ _
  have left : ringSpan (consumeTo c t) = ringSpan t - (c - t.consumed).toNat := by
    unfold ringSpan at *
    simp only [consumeTo]
    bv_omega
  refine ringSound_iff.mpr ⟨length ▸ size, by omega, fun slot hs => ?_⟩
  rw [length] at hs
  have small := slotOffset_lt hs
  have passed := passed_iff (t := t) (d := (c - t.consumed).toNat) size (by omega) hs
  have rest := released slot hs
  rw [left, slotOffset_consumeTo size (by omega) hs, consumeTo, freeSlots_getElem?]
  simp only [passed]
  clear passed left length
  by_cases freed : slotOffset t slot < (c - t.consumed).toNat
  · rw [if_pos freed, if_pos freed]
    simp only [Option.map_eq_some_iff, reduceCtorEq, and_false, exists_false, false_iff, not_lt]
    omega
  · rw [if_neg freed, if_neg freed, rest]
    omega

/-- R39: a slot that is not RELEASED keeps its ring index when the consumed index moves. -/
theorem ringIndexOf_consumeTo {t : WindowSlots} {c : BitVec 16} {slot : Nat} (ring : RingSound t)
    (accepted : consumedAccepted t c = true) (inside : slot < t.slots.length)
    (held : t.slots[slot]? ≠ some .released) : ringIndexOf (consumeTo c t) slot = ringIndexOf t slot := by
  obtain ⟨size, span, released⟩ := ringSound_iff.mp ring
  have within : (c - t.consumed).toNat ≤ ringSpan t := consumedAccepted_iff.mp accepted
  have behind : ringSpan t ≤ slotOffset t slot := by
    by_contra h
    exact held ((released slot inside).mpr (by omega))
  have small := slotOffset_lt inside
  have bound : t.slots.length ≤ 256 := by rcases ringSize_cases size with h | h | h | h | h | h <;> omega
  rw [ringIndexOf_eq, ringIndexOf_eq, slotOffset_consumeTo size (by omega) inside, if_neg (by omega)]
  simp only [consumeTo]
  generalize slotOffset t slot = offset at *
  bv_omega

/-- R39: the slots that a consumed index frees were RELEASED ones. -/
theorem consumeTo_states {t : WindowSlots} {c : BitVec 16} (ring : RingSound t)
    (accepted : consumedAccepted t c = true) (slot : Nat) {st : SlotState} (notFree : st ≠ .free)
    (notReleased : st ≠ .released) : (consumeTo c t).slots[slot]? = some st ↔ t.slots[slot]? = some st := by
  obtain ⟨size, span, released⟩ := ringSound_iff.mp ring
  have within : (c - t.consumed).toNat ≤ ringSpan t := consumedAccepted_iff.mp accepted
  rw [consumeTo, freeSlots_getElem?]
  split
  · next passed =>
    by_cases inside : slot < t.slots.length
    · have isReleased := (released slot inside).mpr (by
        have := (passed_iff size (by omega) inside).mp passed
        omega)
      simp [isReleased, notFree.symm, notReleased.symm]
    · simp [inside]
  · rfl

end Sys2Proof.Proofs
end

section
/-! SUPPORT. The entries under way that write slots, and what each step of the path front leaves of them (R9, R34,
R35). -/

namespace Sys2Proof.Proofs

open Sys2Proof Sys2Proof.Machine Sys2Proof.Laws

variable {s t : State} {p q : PathFront}

/-! ### The entries under way that write a slot -/

/-- An entry of this kind writes a slot. -/
def isSlotKind (k : EntryKind) : Bool := (targetOf k).isSome

/-- R34, R35: the kinds of the entries under way that write a slot. -/
def slotKinds (p : PathFront) : List EntryKind :=
  ((p.waiting.map (·.kind)).filter isVoid ++ p.queue.map (·.kind) ++ p.outstanding.filterMap endsEntry ++
    p.acks.map (·.kind)).filter isSlotKind

theorem underWay_targets (s : State) : (underWay s).filterMap targetOf = (slotKinds s.path).filterMap targetOf := by
  change _ = ((underWay s).filter isSlotKind).filterMap targetOf
  induction underWay s with
  | nil => rfl
  | cons k ks ih =>
    cases target : targetOf k with
    | none => simpa [isSlotKind, target] using ih
    | some x => simpa [isSlotKind, target] using ih

theorem writeBack_mem_underWay (s : State) (w slot : Nat) :
    .writeBack w slot ∈ underWay s ↔ .writeBack w slot ∈ slotKinds s.path := by
  change _ ↔ _ ∈ (underWay s).filter isSlotKind
  simp [isSlotKind, targetOf]

/-- A slot is written by the entries of two kinds. -/
theorem mem_targets {ks : List EntryKind} {w slot : Nat} : (w, slot) ∈ ks.filterMap targetOf ↔
    .writeBack w slot ∈ ks ∨ .voidRecord w slot ∈ ks := by
  rw [List.mem_filterMap]
  constructor
  · rintro ⟨k, hk, target⟩
    cases k <;> simp only [targetOf, Option.some.injEq, Prod.mk.injEq, reduceCtorEq] at target
    · exact .inl (target.1 ▸ target.2 ▸ hk)
    · exact .inr (target.1 ▸ target.2 ▸ hk)
  · rintro (hk | hk)
    · exact ⟨_, hk, rfl⟩
    · exact ⟨_, hk, rfl⟩

/-- The kinds of a path front with one more entry in its queue. -/
theorem slotKinds_queued (p : PathFront) (e : Entry) :
    (slotKinds { p with queue := p.queue ++ [e] }).Perm
      ((if isSlotKind e.kind then [e.kind] else []) ++ slotKinds p) := by
  rw [List.perm_iff_count]
  intro k
  simp only [slotKinds, List.map_append, List.map_cons, List.map_nil, List.filter_append, List.count_append,
    List.filter_cons, List.filter_nil]
  omega

/-- The kinds of a path front with one more entry that waits: a write-back does not count until it is added. -/
theorem slotKinds_waiting (p : PathFront) (e : Entry) :
    (slotKinds { p with waiting := p.waiting ++ [e] }).Perm
      ((if isVoid e.kind then [e.kind] else []) ++ slotKinds p) := by
  have slot (h : isVoid e.kind = true) : isSlotKind e.kind = true := by
    cases kind : e.kind <;> simp [kind, isVoid] at h ⊢
    rfl
  rw [List.perm_iff_count]
  intro k
  simp only [slotKinds, List.map_append, List.map_cons, List.map_nil, List.filter_append, List.count_append,
    List.filter_cons, List.filter_nil]
  by_cases h : isVoid e.kind = true
  · simp only [h, slot h, if_true, List.filter_cons, List.filter_nil]
    omega
  · simp only [h, if_false, List.filter_nil, List.count_nil, Bool.false_eq_true]
    omega

/-- The kinds of a path front of which an acknowledgement is taken. -/
theorem slotKinds_acknowledged {a : Ack} {left : List Ack} (h : p.acks.Perm (a :: left)) :
    (slotKinds p).Perm ((if isSlotKind a.kind then [a.kind] else []) ++ slotKinds { p with acks := left }) := by
  have count (k : EntryKind) := List.perm_iff_count.mp ((h.map (·.kind)).filter isSlotKind) k
  rw [List.perm_iff_count]
  intro k
  simp only [slotKinds, List.filter_append, List.count_append]
  rw [count, List.map_cons, List.filter_cons]
  split
  · simp only [List.count_cons, List.count_nil]
    omega
  · simp only [List.count_nil]
    omega

theorem takeFirst_perm {α : Type} {p : α → Bool} {l rest : List α} {x : α} (h : takeFirst p l = some (x, rest)) :
    l.Perm (x :: rest) := by
  induction l generalizing x rest with
  | nil => simp [takeFirst] at h
  | cons a l ih =>
    unfold takeFirst at h
    split at h
    · obtain ⟨rfl, rfl⟩ : a = x ∧ l = rest := by simpa using h
      exact .refl _
    · obtain ⟨⟨y, m⟩, hr, he⟩ := Option.map_eq_some_iff.mp h
      obtain ⟨rfl, rfl⟩ : y = x ∧ a :: m = rest := by simpa using he
      exact ((ih hr).cons a).trans (.swap _ _ _)

/-! ### Entries are sound (R9) -/

/-- R9: what the intake unit asks of what the path front holds. -/
structure EntriesSound (p : PathFront) : Prop where
  stream  : ∀ b ∈ p.stream, b.origin = .passThrough
  entries : ∀ e ∈ p.queue ++ p.waiting, EntrySound e

theorem endsEntry_internal {b : Burst} {kind : EntryKind} {last : Bool} (h : b.origin = .internal kind last) :
    endsEntry b = if last then some kind else none := by
  cases last <;> simp [endsEntry, h]

/-- R9: of an entry that writes bytes the last burst alone ends it. -/
theorem entryOfBytes_sound (kind : EntryKind) (addr : Nat) {bytes : List Byte} (some : bytes ≠ []) :
    EntrySound (entryOfBytes kind addr bytes) := by
  have cut := entryOfBytes_cut kind addr bytes
  have beats : (chunksOf 8 bytes.length bytes).map fullBeat ≠ [] := by
    simpa using chunksOf_ne_nil some (Nat.le_refl _)
  refine ⟨cut.origin, fun _ => ?_⟩
  obtain ⟨first, last, shape, ⟨ends, -⟩, before⟩ := cut.shape beats
  rw [shape]
  have notLast : first.map (fun b => endsEntry b != none) = List.replicate first.length false :=
    List.map_eq_replicate_iff.mpr fun b hb => by simp [endsEntry_internal (before b hb).1]
  simp [notLast, endsEntry_internal ends]

/-- An entry that writes no slot is sound with any bursts that name it. -/
theorem entrySound_of_no_target {e : Entry} (kind : ∀ b ∈ e.bursts, ∃ last, b.origin = .internal e.kind last)
    (none : targetOf e.kind = none) : EntrySound e := ⟨kind, fun h => absurd none h⟩

theorem entryOfBytes_sound_of_no_target {kind : EntryKind} (none : targetOf kind = none) (addr : Nat)
    (bytes : List Byte) : EntrySound (entryOfBytes kind addr bytes) :=
  entrySound_of_no_target (entryOfBytes_cut kind addr bytes).origin none

/-- R9: an entry that writes a slot has a burst; the first ends it exactly when it is the only one, and the rest is
sound. -/
theorem entrySound_cons {e : Entry} (sound : EntrySound e) (slot : isSlotKind e.kind = true) :
    ∃ b more, e.bursts = b :: more ∧ endsEntry b = (if more = [] then some e.kind else none) ∧
      (more ≠ [] → EntrySound { e with bursts := more }) := by
  obtain ⟨kind, ends⟩ := sound
  have ends := ends (by simpa [isSlotKind, Option.isSome_iff_ne_none] using slot)
  cases bursts : e.bursts with
  | nil => simp [bursts] at ends
  | cons b more =>
    rw [bursts] at kind ends
    obtain ⟨last, origin⟩ := kind b List.mem_cons_self
    refine ⟨b, more, rfl, ?_, fun some => ⟨fun c hc => kind c (List.mem_cons_of_mem _ hc), fun _ => ?_⟩⟩
    · cases more with
      | nil => simpa [endsEntry_internal origin] using ends
      | cons c more => simpa [endsEntry_internal origin, List.replicate_succ] using (List.cons.inj ends).1
    · cases more with
      | nil => exact absurd rfl some
      | cons c more => simpa [List.replicate_succ] using (List.cons.inj ends).2

/-! ### Steps of the path front that leave the slots alone -/

/-- From `p` to `q` the entries under way that write a slot are the same, and what is new in the stream and the queues
is sound. -/
structure PathCarried (p q : PathFront) : Prop where
  kinds      : (slotKinds q).Perm (slotKinds p)
  writeBacks : (q.waiting.filter fun e => isWriteBack e.kind) = p.waiting.filter fun e => isWriteBack e.kind
  stream     : ∀ b ∈ q.stream, b ∈ p.stream ∨ b.origin = .passThrough
  entries    : ∀ e ∈ q.queue ++ q.waiting, e ∈ p.queue ++ p.waiting ∨ EntrySound e

namespace PathCarried

/-- The rest of the path front does not matter. -/
theorem of_eq (stream : q.stream = p.stream := by rfl) (queue : q.queue = p.queue := by rfl)
    (waiting : q.waiting = p.waiting := by rfl) (outstanding : q.outstanding = p.outstanding := by rfl)
    (acks : q.acks = p.acks := by rfl) : PathCarried p q := by
  refine ⟨?_, by rw [waiting], fun b hb => .inl (stream ▸ hb), fun e he => .inl (queue ▸ waiting ▸ he)⟩
  rw [slotKinds, slotKinds, queue, waiting, outstanding, acks]

theorem refl (p : PathFront) : PathCarried p p := of_eq

theorem sound (h : PathCarried p q) (k : EntriesSound p) : EntriesSound q :=
  ⟨fun b hb => (h.stream b hb).elim (k.stream b) id, fun e he => (h.entries e he).elim (k.entries e) id⟩

/-- R9: an entry that writes no slot is issued. -/
theorem issued (p : PathFront) {e : Entry} (none : targetOf e.kind = none) (sound : EntrySound e) :
    PathCarried p (entryIssued p e) := by
  have noSlot : isSlotKind e.kind = false := by simp [isSlotKind, none]
  have noVoid : isVoid e.kind = false := by cases kind : e.kind <;> simp [kind, targetOf, isVoid] at none ⊢
  have noWriteBack : isWriteBack e.kind = false := by
    cases kind : e.kind <;> simp [kind, targetOf, isWriteBack] at none ⊢
  unfold entryIssued
  split
  · refine ⟨by simpa [noSlot] using slotKinds_queued p e, rfl, fun b hb => .inl hb, fun f hf => ?_⟩
    simp only [List.mem_append, List.mem_singleton] at hf ⊢
    obtain (hf | rfl) | hf := hf
    · exact .inl (.inl hf)
    · exact .inr sound
    · exact .inl (.inr hf)
  · refine ⟨by simpa [noVoid] using slotKinds_waiting p e, by simp [noWriteBack], fun b hb => .inl hb, fun f hf => ?_⟩
    simp only [List.mem_append, List.mem_singleton] at hf ⊢
    obtain hf | hf | rfl := hf
    · exact .inl (.inl hf)
    · exact .inl (.inr hf)
    · exact .inr sound

/-- R11: the acknowledgement of an entry that writes no slot is taken. -/
theorem acknowledged {a : Ack} {left : List Ack} (h : p.acks.Perm (a :: left)) (none : targetOf a.kind = none) :
    PathCarried p { p with acks := left } := by
  have noSlot : isSlotKind a.kind = false := by simp [isSlotKind, none]
  refine ⟨?_, rfl, fun b hb => .inl hb, fun e he => .inl he⟩
  simpa [noSlot] using (slotKinds_acknowledged h).symm

/-- R10: a burst of the pass-through stream goes downstream: it ends no entry. -/
theorem grantStream (sound : EntriesSound p) : PathCarried p (grantStream p) := by
  unfold Machine.grantStream
  split
  · next b rest stream =>
    have origin := sound.stream b (stream ▸ List.mem_cons_self)
    refine ⟨?_, rfl, fun c hc => .inl (stream ▸ List.mem_cons_of_mem _ hc), fun e he => .inl he⟩
    simp [slotKinds, endsEntry, origin]
  · exact refl p

/-- R9, R10: a burst of the head entry goes downstream: an entry that writes a slot ends with its last burst, which then
waits for its answer. -/
theorem grantInternal (sound : EntriesSound p) : PathCarried p (grantInternal p) := by
  unfold Machine.grantInternal
  split
  · next e rest queue =>
    have entries := sound.entries
    rw [queue] at entries
    have own := entries e List.mem_cons_self
    have keeps (f : Entry) (hf : f ∈ rest ++ p.waiting) : f ∈ p.queue ++ p.waiting := by
      rw [queue]
      exact List.mem_cons_of_mem _ hf
    by_cases slot : isSlotKind e.kind = true
    · obtain ⟨b, more, bursts, ends, restSound⟩ := entrySound_cons own slot
      cases more with
      | nil =>
        rw [bursts]
        refine ⟨?_, rfl, fun c hc => .inl hc, fun f hf => .inl (keeps f hf)⟩
        rw [List.perm_iff_count]
        intro k
        simp only [slotKinds, queue, List.map_cons, List.filter_append, List.count_append, List.filter_cons, slot,
          if_true, List.filterMap_append, List.filterMap_cons, List.filterMap_nil, ends, List.filter_nil, List.count_cons,
          List.count_nil]
        omega
      | cons c more =>
        rw [bursts]
        refine ⟨?_, rfl, fun d hd => .inl hd, fun f hf => ?_⟩
        · have goesOn : endsEntry b = none := by simpa using ends
          simp [slotKinds, queue, goesOn]
        · rcases List.mem_cons.mp hf with rfl | hf
          · exact .inr (restSound (by simp))
          · exact .inl (keeps f hf)
    · have noSlot : isSlotKind e.kind = false := by simpa using slot
      have noTarget : targetOf e.kind = none := by simpa [isSlotKind] using noSlot
      have silent (b : Burst) (hb : b ∈ e.bursts) : ([b].filterMap endsEntry).filter isSlotKind = [] := by
        obtain ⟨last, origin⟩ := own.kind b hb
        cases last <;> simp [endsEntry_internal origin, noSlot]
      split
      · refine ⟨?_, rfl, fun c hc => .inl hc, fun f hf => .inl (keeps f hf)⟩
        simp [slotKinds, queue, noSlot]
      · next b bursts =>
        refine ⟨?_, rfl, fun c hc => .inl hc, fun f hf => .inl (keeps f hf)⟩
        simp only [slotKinds, queue, List.map_cons, List.filter_append, List.filter_cons, noSlot, List.filterMap_append,
          silent b (bursts ▸ List.mem_cons_self), List.append_nil]
        exact .refl _
      · next b more _ bursts =>
        refine ⟨?_, rfl, fun c hc => .inl hc, fun f hf => ?_⟩
        · simp only [slotKinds, queue, List.map_cons, List.filter_append, List.filterMap_append,
            silent b (bursts ▸ List.mem_cons_self), List.append_nil]
          exact .refl _
        · rcases List.mem_cons.mp hf with rfl | hf
          · refine .inr (entrySound_of_no_target (fun c hc => own.kind c ?_) noTarget)
            exact bursts ▸ List.mem_cons_of_mem _ hc
          · exact .inl (keeps f hf)
  · exact refl p

theorem grantOne (sound : EntriesSound p) : PathCarried p (grantOne p) := by
  unfold Machine.grantOne
  split
  · exact refl p
  · split
    · exact grantStream sound
    · split
      · exact grantInternal sound
      · exact grantStream sound

/-- R11: the answer to the last burst of an entry turns it into the entry's acknowledgement. -/
theorem answerPath {b : Burst} {rest : List Burst} (waits : p.outstanding = b :: rest) (map : WindowMap) (okay : Bool)
    (data : List Byte) : PathCarried p (answerPath map b okay data { p with outstanding := rest }) := by
  unfold Machine.answerPath
  split
  · next origin =>
    rw [showBurst_eq]
    refine ⟨?_, rfl, fun c hc => .inl hc, fun e he => .inl he⟩
    simp [slotKinds, respond, waits, endsEntry, origin]
  · next kind last origin =>
    split
    · next ends =>
      refine ⟨?_, rfl, fun c hc => .inl hc, fun e he => .inl he⟩
      have isLast : endsEntry b = some kind := by rw [endsEntry_internal origin, if_pos ends]
      rw [List.perm_iff_count]
      intro k
      simp only [slotKinds, waits, List.filter_append, List.filterMap_cons, isLast, List.map_append, List.map_cons,
        List.map_nil, List.count_append, List.filter_cons, List.filter_nil]
      split
      · simp only [List.count_cons, List.count_nil]
        omega
      · simp
    · next goesOn =>
      refine ⟨?_, rfl, fun c hc => .inl hc, fun e he => .inl he⟩
      have notLast : endsEntry b = none := by rw [endsEntry_internal origin, if_neg goesOn]
      simp [slotKinds, waits, notLast]

end PathCarried

end Sys2Proof.Proofs
end

section
/-! SUPPORT. The parts of a sound intake unit (R16, R18, R27, R34, R35), and what leaves each of them alone. -/

namespace Sys2Proof.Proofs

open Sys2Proof Sys2Proof.Machine Sys2Proof.Laws

variable {s t u : State} {fs : List Field}

/-! ### The slot tables -/

/-- R2, R16: there are four windows, each with a sound ring, which has no slot before start-up has ended; and every slot
has room for a byte. -/
structure TablesSound (s : State) : Prop where
  closed : s.phase ≠ .running → ∀ w, (windowSlots s w).slots = []
  sizes  : ∀ w, 0 < (windowOfMap s w).slotSize
  four   : s.intake.windows.length = 4
  rings  : ∀ w, RingSound (windowSlots s w)

/-- What is said of every window that there is, and of one without a slot table, is said of every number. -/
theorem windows_forall {P : WindowSlots → Prop} (none : P WindowSlots.none) (s : State) :
    (∀ t ∈ s.intake.windows, P t) ↔ ∀ w, P (windowSlots s w) := by
  constructor
  · intro h w
    unfold windowSlots
    rw [List.getD_eq_getElem?_getD]
    cases found : s.intake.windows[w]? with
    | none => exact none
    | some t => exact h t (List.mem_of_getElem? found)
  · intro h t ht
    obtain ⟨w, hw⟩ := List.mem_iff_getElem?.mp ht
    have := h w
    rwa [windowSlots, List.getD_eq_getElem?_getD, hw] at this

/-- From `s` to `t` every ring is kept. -/
structure TablesKept (s t : State) : Prop where
  phase    : t.phase = s.phase
  settings : t.settings = s.settings
  count    : t.intake.windows.length = s.intake.windows.length
  rings    : ∀ w, RingKept (windowSlots s w) (windowSlots t w)

namespace TablesKept

theorem refl (s : State) : TablesKept s s := ⟨rfl, rfl, rfl, fun _ => .refl _⟩

theorem trans (h : TablesKept s t) (k : TablesKept t u) : TablesKept s u :=
  ⟨k.phase.trans h.phase, k.settings.trans h.settings, k.count.trans h.count, fun w => (h.rings w).trans (k.rings w)⟩

theorem of_windows (phase : t.phase = s.phase) (settings : t.settings = s.settings)
    (windows : t.intake.windows = s.intake.windows) : TablesKept s t :=
  ⟨phase, settings, by rw [windows], fun w => windowSlots_congr windows w ▸ .refl _⟩

theorem of_touches (h : Touches fs s t) (phase : .phase ∉ fs := by decide) (settings : .settings ∉ fs := by decide)
    (intake : .intake ∉ fs := by decide) : TablesKept s t :=
  of_windows (h.phase phase) (h.settings settings) (by rw [h.intake intake])

theorem onWindow {w : Nat} {f : WindowSlots → WindowSlots} (h : RingKept (windowSlots s w) (f (windowSlots s w))) :
    TablesKept s (onWindow w f s) := by
  refine ⟨rfl, rfl, onWindow_windows_length _ _ _, fun v => ?_⟩
  rw [windowSlots_onWindow]
  split
  · next same => exact same.1 ▸ h
  · exact .refl _

/-- R16: a slot that is not RELEASED is set to a state that is not RELEASED. -/
theorem setSlot {w slot : Nat} {st : SlotState} (before : slotState s w slot ≠ some .released)
    (after : st ≠ .released) : TablesKept s (setSlot w slot st s) := onWindow (ringKept_updAt before after _)

theorem sound (h : TablesKept s t) (k : TablesSound s) : TablesSound t where
  closed := fun closed w => by
    have empty := k.closed (h.phase ▸ closed) w
    exact List.length_eq_zero_iff.mp ((h.rings w).size.trans (List.length_eq_zero_iff.mpr empty))
  sizes := fun w => by
    unfold windowOfMap
    rw [h.settings]
    exact k.sizes w
  four := h.count.trans k.four
  rings := fun w => (h.rings w).sound (k.rings w)

end TablesKept

/-- R16: a hold carries the ring index of its slot. -/
def HoldsIndexed (s : State) : Prop := ∀ h ∈ s.intake.holds, h.ringIndex = ringIndexOf (windowSlots s h.window) h.slot

/-- What the tables say of a hold: its slot and its ring index. -/
def holdPlace (h : Hold) : Nat × Nat × BitVec 16 := (h.window, h.slot, h.ringIndex)

/-- A hold of `t` stands where one of `s` does. -/
def HoldsFrom (s t : State) : Prop := ∀ h ∈ t.intake.holds, ∃ k ∈ s.intake.holds, holdPlace h = holdPlace k

theorem HoldsFrom.of_eq (h : t.intake.holds = s.intake.holds) : HoldsFrom s t := fun k hk => ⟨k, h ▸ hk, rfl⟩

theorem HoldsIndexed.kept (h : HoldsIndexed s) (rings : ∀ w, RingKept (windowSlots s w) (windowSlots t w))
    (holds : HoldsFrom s t) : HoldsIndexed t := fun k hk => by
  obtain ⟨old, hold, place⟩ := holds k hk
  obtain ⟨window, slot, index⟩ : k.window = old.window ∧ k.slot = old.slot ∧ k.ringIndex = old.ringIndex := by
    simpa [holdPlace] using place
  rw [index, h old hold, window, slot, (rings _).ringIndexOf]

/-! ### What stands for a slot -/

/-- R18: the slots that have a hold. -/
def heldSlots (s : State) : List (Nat × Nat) := s.intake.holds.map fun h => (h.window, h.slot)

/-- R34: the slot of the record in work. -/
def workSlot (s : State) : Option (Nat × Nat) := s.engine.work.map fun r => (r.window, r.slot)

/-- The slots that the entries under way write. -/
def writtenSlots (s : State) : List (Nat × Nat) := (slotKinds s.path).filterMap targetOf

/-- R18, R27, R34, R35: a hold, an engine queue entry, the record in work and an entry under way stand for a slot as its
state says. -/
structure SlotServed (s : State) (w slot : Nat) : Prop where
  held    : (w, slot) ∈ heldSlots s ↔ slotState s w slot = some .filling ∨ slotState s w slot = some .queued ∨
    slotState s w slot = some .working ∨ .writeBack w slot ∈ slotKinds s.path
  queued  : (⟨w, slot⟩ : QueueEntry) ∈ s.engine.queue ↔ slotState s w slot = some .queued
  working : slotState s w slot = some .working ↔ workSlot s = some (w, slot)
  writing : slotState s w slot = some .writing ↔
    .writeBack w slot ∈ slotKinds s.path ∨ .voidRecord w slot ∈ slotKinds s.path

/-- R18, R27, R34, R35: what stands for the slots stands for each once, as its state says. -/
structure Served (s : State) : Prop where
  oneHold  : (heldSlots s).Nodup
  oneEntry : s.engine.queue.Nodup
  oneWrite : (writtenSlots s).Nodup
  slots    : ∀ w slot, SlotServed s w slot

/-- What stands for a slot is the same, and so is its state where something keeps account of it. -/
structure SameAt (s t : State) (w slot : Nat) : Prop where
  state   : ∀ st ∈ [SlotState.filling, .queued, .working, .writing],
    slotState t w slot = some st ↔ slotState s w slot = some st
  held    : (w, slot) ∈ heldSlots t ↔ (w, slot) ∈ heldSlots s
  queued  : (⟨w, slot⟩ : QueueEntry) ∈ t.engine.queue ↔ (⟨w, slot⟩ : QueueEntry) ∈ s.engine.queue
  working : workSlot t = some (w, slot) ↔ workSlot s = some (w, slot)
  kinds   : ∀ k, targetOf k = some (w, slot) → (k ∈ slotKinds t.path ↔ k ∈ slotKinds s.path)

theorem SlotServed.of_sameAt {w slot : Nat} (h : SlotServed s w slot) (k : SameAt s t w slot) :
    SlotServed t w slot := by
  have writeBack := k.kinds (.writeBack w slot) rfl
  have void := k.kinds (.voidRecord w slot) rfl
  refine ⟨?_, ?_, ?_, ?_⟩
  · rw [k.held, h.held, k.state .filling (by decide), k.state .queued (by decide), k.state .working (by decide),
      writeBack]
  · rw [k.queued, h.queued, k.state .queued (by decide)]
  · rw [k.working, ← h.working, k.state .working (by decide)]
  · rw [writeBack, void, ← h.writing, k.state .writing (by decide)]

/-- What stands for slots is the same, and so is each state of which something keeps account. -/
theorem Served.congr (h : Served s) (states : ∀ w slot, ∀ st ∈ [SlotState.filling, .queued, .working, .writing],
      (slotState t w slot = some st ↔ slotState s w slot = some st))
    (holds : heldSlots t = heldSlots s) (queue : t.engine.queue = s.engine.queue) (work : workSlot t = workSlot s)
    (kinds : (slotKinds t.path).Perm (slotKinds s.path)) : Served t :=
  ⟨holds ▸ h.oneHold, queue ▸ h.oneEntry, (kinds.filterMap targetOf).nodup_iff.mpr h.oneWrite, fun w slot =>
    (h.slots w slot).of_sameAt ⟨states w slot, by rw [holds], by rw [queue], by rw [work], fun _ _ => kinds.mem_iff⟩⟩

/-! ### Issues -/

/-- R106: the record in work that waits for room is the one whose write-back waits; its output is not empty. -/
structure IssuesSound (s : State) : Prop where
  output : ∀ r ∈ s.engine.work, r.output ≠ some []
  one    : (s.path.waiting.filter fun e => isWriteBack e.kind).length ≤ 1
  waits  : ∀ e ∈ s.path.waiting.filter (fun e => isWriteBack e.kind), ∀ w slot, e.kind = .writeBack w slot →
    workSlot s = some (w, slot)

/-- The parts of `IntakeSound`. -/
structure IntakeParts (s : State) : Prop where
  tables  : TablesSound s
  index   : HoldsIndexed s
  served  : Served s
  issues  : IssuesSound s
  entries : EntriesSound s.path

theorem workSlot_eq_some {w slot : Nat} :
    workSlot s = some (w, slot) ↔ ∃ r ∈ s.engine.work, r.window = w ∧ r.slot = slot := by
  simp only [workSlot, Option.map_eq_some_iff, Prod.mk.injEq, Option.mem_def]

theorem mem_heldSlots {w slot : Nat} :
    (w, slot) ∈ heldSlots s ↔ ∃ h ∈ s.intake.holds, h.window = w ∧ h.slot = slot := by
  simp only [heldSlots, List.mem_map, Prod.mk.injEq]

theorem intakeSound_iff : IntakeSound s ↔ IntakeParts s := by
  have empty := windows_forall (P := fun t => t.slots = []) rfl s
  have rings := windows_forall ringSound_none s
  constructor
  · rintro ⟨closed, sizes, windows, ring, oneHold, holds, index, queued, working, writing, output, waits, stream,
      entries⟩
    refine ⟨⟨fun h => empty.mp (closed h), sizes, windows, rings.mp ring⟩, index,
      ⟨oneHold, queued.1, ?_, fun w slot => ⟨?_, queued.2 w slot, ?_, ?_⟩⟩,
      ⟨output, waits.1, fun e he w slot kind => ?_⟩, ⟨stream, entries⟩⟩
    · rw [writtenSlots, ← underWay_targets]
      exact writing.1
    · rw [mem_heldSlots, holds, writeBack_mem_underWay]
    · rw [workSlot_eq_some]
      exact working w slot
    · rw [writing.2, underWay_targets, mem_targets]
    · exact workSlot_eq_some.mpr (waits.2 e (List.mem_filter.mp he).1 w slot kind)
  · rintro ⟨⟨closed, sizes, four, ring⟩, index, ⟨oneHold, oneEntry, oneWrite, slots⟩, ⟨output, one, waits⟩,
      ⟨stream, entries⟩⟩
    refine ⟨fun h => empty.mpr (closed h), sizes, four, rings.mpr ring, oneHold, fun w slot => ?_, index,
      ⟨oneEntry, fun w slot => (slots w slot).queued⟩, fun w slot => ?_, ⟨?_, fun w slot => ?_⟩, output,
      ⟨one, fun e he w slot kind => ?_⟩, stream, entries⟩
    · rw [← mem_heldSlots, (slots w slot).held, writeBack_mem_underWay]
    · rw [← workSlot_eq_some]
      exact (slots w slot).working
    · rw [underWay_targets]
      exact oneWrite
    · rw [(slots w slot).writing, underWay_targets, mem_targets]
    · exact workSlot_eq_some.mp (waits e (List.mem_filter.mpr ⟨he, by rw [kind]; rfl⟩) w slot kind)

/-! ### Steps that leave the slots alone -/

/-- From `s` to `t` the record in work is of the same slot and the engine queue the same, and an output that is new is
not empty. -/
structure RecordKept (s t : State) : Prop where
  queue  : t.engine.queue = s.engine.queue
  slot   : workSlot t = workSlot s
  output : (∀ r ∈ s.engine.work, r.output ≠ some []) → ∀ r ∈ t.engine.work, r.output ≠ some []

theorem RecordKept.of_engine (h : t.engine = s.engine) : RecordKept s t :=
  ⟨by rw [h], by rw [workSlot, workSlot, h], fun k r hr => k r (h ▸ hr)⟩

theorem heldSlots_of_places (h : t.intake.holds.map holdPlace = s.intake.holds.map holdPlace) :
    heldSlots t = heldSlots s := by
  have := congrArg (List.map fun x : Nat × Nat × BitVec 16 => (x.1, x.2.1)) h
  simpa [holdPlace, Function.comp_def, heldSlots] using this

theorem holdsFrom_of_places (h : t.intake.holds.map holdPlace = s.intake.holds.map holdPlace) : HoldsFrom s t :=
  fun k hk => by
    have : holdPlace k ∈ s.intake.holds.map holdPlace := h ▸ List.mem_map_of_mem hk
    obtain ⟨old, hold, place⟩ := List.mem_map.mp this
    exact ⟨old, hold, place.symm⟩

/-- What stands for slots is the same. -/
theorem IntakeParts.kept (h : IntakeParts s) (tables : TablesKept s t)
    (states : ∀ w slot, slotState t w slot = slotState s w slot)
    (holds : t.intake.holds.map holdPlace = s.intake.holds.map holdPlace) (record : RecordKept s t)
    (path : PathCarried s.path t.path) : IntakeParts t := by
  refine ⟨tables.sound h.tables, h.index.kept tables.rings (holdsFrom_of_places holds),
    h.served.congr (fun w slot st _ => by rw [states]) (heldSlots_of_places holds) record.queue record.slot path.kinds,
    ⟨record.output h.issues.output, path.writeBacks ▸ h.issues.one, ?_⟩, path.sound h.entries⟩
  rw [path.writeBacks, record.slot]
  exact h.issues.waits

/-- What neither touches the intake unit nor the engine keeps the intake unit sound, where the path front keeps what
writes slots. -/
theorem IntakeParts.of_touches (h : IntakeParts s) (k : Touches fs s t) (path : PathCarried s.path t.path)
    (phase : .phase ∉ fs := by decide) (settings : .settings ∉ fs := by decide) (intake : .intake ∉ fs := by decide)
    (engine : .engine ∉ fs := by decide) : IntakeParts t := by
  have same := k.intake intake
  exact h.kept (.of_touches k phase settings intake) (slotState_congr (by rw [same])) (by rw [same])
    (.of_engine (k.engine engine)) path

theorem IntakeParts.of_other (h : IntakeParts s) (k : Touches fs s t) (phase : .phase ∉ fs := by decide)
    (settings : .settings ∉ fs := by decide) (intake : .intake ∉ fs := by decide) (engine : .engine ∉ fs := by decide)
    (path : .path ∉ fs := by decide) : IntakeParts t :=
  h.of_touches k (k.path path ▸ .refl _) phase settings intake engine

end Sys2Proof.Proofs
end

section
/-! SUPPORT. Every operation on slots, holds and the engine queue keeps the intake unit sound (R16, R18, R27, R34,
R35). -/

namespace Sys2Proof.Proofs

open Sys2Proof Sys2Proof.Machine Sys2Proof.Laws

variable {s t : State} {fs : List Field} {w slot : Nat}

theorem queueEntry_ne {v j : Nat} (h : (v, j) ≠ (w, slot)) : (⟨v, j⟩ : QueueEntry) ≠ ⟨w, slot⟩ := by simpa using h

/-! ### Holds (R20, R21, R36) -/

theorem heldSlots_onHold {f : Hold → Hold} (keeps : ∀ h, holdPlace (f h) = holdPlace h) (w slot : Nat) (s : State) :
    (onHold w slot f s).intake.holds.map holdPlace = s.intake.holds.map holdPlace := by
  simp only [onHold, onIntake_intake, List.map_map]
  refine List.map_congr_left fun h _ => ?_
  simp only [Function.comp]
  split
  · exact keeps h
  · rfl

/-- An update of a hold that keeps its place keeps the intake unit sound. -/
theorem onHold_parts (h : IntakeParts s) {f : Hold → Hold} (keeps : ∀ h, holdPlace (f h) = holdPlace h) (w slot : Nat) :
    IntakeParts (onHold w slot f s) :=
  h.kept (.of_windows rfl rfl rfl) (slotState_congr rfl) (heldSlots_onHold keeps w slot s) (.of_engine rfl) (.refl _)

/-- Where a slot's state is not WRITING no entry under way writes it. -/
theorem SlotServed.noWrite (h : SlotServed s w slot) (other : slotState s w slot ≠ some .writing) :
    ¬(.writeBack w slot ∈ slotKinds s.path ∨ .voidRecord w slot ∈ slotKinds s.path) := fun k => other (h.writing.mpr k)

/-- What stands for one slot is as its state says, and for every other slot the same as before. -/
theorem slots_of_one (h : ∀ v j, SlotServed s v j) (here : SlotServed t w slot)
    (others : ∀ v j, (v, j) ≠ (w, slot) → SameAt s t v j) (v j : Nat) : SlotServed t v j := by
  by_cases same : (v, j) = (w, slot)
  · obtain ⟨rfl, rfl⟩ := Prod.mk.inj same
    exact here
  · exact (h v j).of_sameAt (others v j same)

/-- R34, R106: what is asked of issues depends on the engine and on what waits. -/
theorem IssuesSound.congr (h : IssuesSound s) (engine : t.engine = s.engine) (path : t.path = s.path) :
    IssuesSound t := by
  obtain ⟨output, one, waits⟩ := h
  refine ⟨engine ▸ output, path ▸ one, ?_⟩
  rw [path, workSlot, engine]
  exact waits

/-- `s` with one more hold. -/
def withHold (h : Hold) (s : State) : State := onIntake (fun i => { i with holds := i.holds ++ [h] }) s

theorem heldSlots_openHold (w slot : Nat) (s : State) : heldSlots (openHold w slot s) = heldSlots s ++ [(w, slot)] := by
  rw [heldSlots, show (openHold w slot s).intake.holds = s.intake.holds ++ [newHold s w slot] from rfl, List.map_append]
  rfl

theorem slotState_openHold_ne {v j : Nat} (h : (v, j) ≠ (w, slot)) :
    slotState (openHold w slot s) v j = slotState s v j :=
  slotState_setSlot_ne h (withHold (newHold s w slot) s) .filling

theorem slotState_openHold (free : slotState s w slot = some .free) :
    slotState (openHold w slot s) w slot = some .filling :=
  slotState_setSlot_same (s := withHold (newHold s w slot) s) free _

theorem openHold_tables (free : slotState s w slot = some .free) : TablesKept s (openHold w slot s) :=
  (TablesKept.of_windows (s := s) (t := withHold (newHold s w slot) s) rfl rfl rfl).trans
    (.setSlot (s := withHold (newHold s w slot) s) (w := w) (slot := slot) (st := .filling)
      (by rw [slotState_congr (t := withHold (newHold s w slot) s) (s := s) rfl, free]; decide) (by decide))

/-- R18, R20: a FREE slot gets its hold and becomes FILLING. -/
theorem openHold_parts (h : IntakeParts s) (free : slotState s w slot = some .free) :
    IntakeParts (openHold w slot s) := by
  obtain ⟨tables, index, ⟨oneHold, oneEntry, oneWrite, slots⟩, issues, entries⟩ := h
  have here := slots w slot
  have noWrite := here.noWrite (by simp [free])
  have notHeld : (w, slot) ∉ heldSlots s := by
    rw [here.held]
    simp [free, not_or.mp noWrite]
  have filling := slotState_openHold free
  have kept := openHold_tables free
  have heldAfter := heldSlots_openHold w slot s
  refine ⟨kept.sound tables, fun k hk => ?_, ⟨?_, oneEntry, oneWrite,
    slots_of_one slots (w := w) (slot := slot) ⟨?_, ?_, ?_, ?_⟩ fun v j same => ⟨?_, ?_, .rfl, .rfl, fun _ _ => .rfl⟩⟩, issues.congr rfl rfl, entries⟩
  · rw [(kept.rings k.window).ringIndexOf]
    obtain old | new := List.mem_append.mp (show k ∈ s.intake.holds ++ [newHold s w slot] from hk)
    · exact index k old
    · obtain rfl := List.mem_singleton.mp new
      rfl
  · rw [heldAfter]
    exact oneHold.append (List.nodup_singleton _) (List.disjoint_singleton.mpr notHeld)
  · simp [heldAfter, filling]
  · exact iff_of_false (fun k => by simpa [free] using here.queued.mp k) (by simp [filling])
  · exact iff_of_false (by simp [filling]) (fun k => by simpa [free] using here.working.mpr k)
  · exact iff_of_false (by simp [filling]) noWrite
  · rw [slotState_openHold_ne same]
    exact fun _ _ => .rfl
  · rw [heldAfter, List.mem_append, List.mem_singleton, or_iff_left same]

/-! ### Completion and the take (R25 to R27, R87, R88) -/

theorem joinQueue_heldPlaces (w slot : Nat) (expired : Bool) (s : State) :
    (joinQueue w slot expired s).intake.holds.map holdPlace = s.intake.holds.map holdPlace :=
  heldSlots_onHold (f := fun h => { h with expired := expired, serial := some s.intake.serial }) (fun _ => rfl) w slot
    (setSlot w slot .queued s)

theorem slotState_joinQueue (w slot : Nat) (expired : Bool) (s : State) (v j : Nat) :
    slotState (joinQueue w slot expired s) v j = slotState (setSlot w slot .queued s) v j := rfl

theorem joinQueue_tables (filling : slotState s w slot = some .filling) (expired : Bool) :
    TablesKept s (joinQueue w slot expired s) :=
  (TablesKept.setSlot (st := .queued) (by rw [filling]; decide) (by decide)).trans (.of_windows rfl rfl rfl)

/-- R27: a FILLING slot becomes QUEUED, and its entry joins the engine queue. -/
theorem joinQueue_parts (h : IntakeParts s) (filling : slotState s w slot = some .filling) (expired : Bool) :
    IntakeParts (joinQueue w slot expired s) := by
  obtain ⟨tables, index, ⟨oneHold, oneEntry, oneWrite, slots⟩, issues, entries⟩ := h
  have here := slots w slot
  have places := joinQueue_heldPlaces w slot expired s
  have heldAfter := heldSlots_of_places places
  have notQueued : (⟨w, slot⟩ : QueueEntry) ∉ s.engine.queue := by
    rw [here.queued]
    simp [filling]
  have kept := joinQueue_tables filling expired
  have isQueued : slotState (joinQueue w slot expired s) w slot = some .queued := slotState_setSlot_same filling _
  have queueAfter : (joinQueue w slot expired s).engine.queue = s.engine.queue ++ [⟨w, slot⟩] := rfl
  refine ⟨kept.sound tables, index.kept kept.rings (holdsFrom_of_places places),
    ⟨heldAfter ▸ oneHold, ?_, oneWrite, slots_of_one slots (w := w) (slot := slot) ⟨?_, ?_, ?_, ?_⟩
      fun v j same => ⟨?_, by rw [heldAfter], ?_, .rfl, fun _ _ => .rfl⟩⟩,
    ⟨issues.output, issues.one, issues.waits⟩, entries⟩
  · rw [queueAfter]
    exact oneEntry.append (List.nodup_singleton _) (List.disjoint_singleton.mpr notQueued)
  · rw [heldAfter, here.held]
    simp [filling, isQueued]
  · simp [queueAfter, isQueued]
  · exact iff_of_false (by simp [isQueued]) (fun k => by simpa [filling] using here.working.mpr k)
  · exact iff_of_false (by simp [isQueued]) (here.noWrite (by simp [filling]))
  · rw [slotState_joinQueue, slotState_setSlot_ne same]
    exact fun _ _ => .rfl
  · rw [queueAfter, List.mem_append, List.mem_singleton, or_iff_left (queueEntry_ne same)]

/-- R106: while no record is in work no write-back waits. -/
theorem IssuesSound.noneWaits (h : IssuesSound s) (idle : s.engine.work = none) :
    (s.path.waiting.filter fun e => isWriteBack e.kind) = [] := by
  refine List.eq_nil_iff_forall_not_mem.mpr fun f hf => ?_
  obtain ⟨w, slot, kind⟩ : ∃ w slot, f.kind = .writeBack w slot := by
    have := (List.mem_filter.mp hf).2
    cases kind : f.kind <;> simp [kind, isWriteBack] at this ⊢
  have works := h.waits f hf w slot kind
  rw [workSlot, idle] at works
  cases works

/-- R34, R88: an entry leaves the engine queue, its slot becomes WORKING, and its record is in work. -/
theorem startWork_parts (h : IntakeParts s) (idle : s.engine.work = none) {e : QueueEntry} (mem : e ∈ s.engine.queue)
    (hold : Hold) : IntakeParts (startWork e hold s) := by
  obtain ⟨tables, index, ⟨oneHold, oneEntry, oneWrite, slots⟩, issues, entries⟩ := h
  have here := slots e.window e.slot
  have isQueued : slotState s e.window e.slot = some .queued := here.queued.mp mem
  have noWork : workSlot s = none := by rw [workSlot, idle, Option.map_none]
  have kept : TablesKept s (startWork e hold s) :=
    (TablesKept.setSlot (st := .working) (by rw [isQueued]; decide) (by decide)).trans (.of_windows rfl rfl rfl)
  have isWorking : slotState (startWork e hold s) e.window e.slot = some .working :=
    slotState_setSlot_same isQueued _
  have queueAfter : (startWork e hold s).engine.queue = s.engine.queue.filter (· ≠ e) := rfl
  have workAfter : workSlot (startWork e hold s) = some (e.window, e.slot) := rfl
  refine ⟨kept.sound tables, index.kept kept.rings (.of_eq rfl), ⟨oneHold, oneEntry.filter _, oneWrite,
      slots_of_one slots (w := e.window) (slot := e.slot) ⟨?_, ?_, ?_, ?_⟩
        fun v j same => ⟨?_, .rfl, ?_, ?_, fun _ _ => .rfl⟩⟩,
    ⟨fun r hr => ?_, issues.one, fun f hf => ?_⟩, entries⟩
  · exact iff_of_true (here.held.mpr (.inr (.inl isQueued))) (.inr (.inr (.inl isWorking)))
  · simp [queueAfter, isWorking]
  · simp [isWorking, workAfter]
  · exact iff_of_false (by simp [isWorking]) (here.noWrite (by simp [isQueued]))
  · intro st _
    exact Eq.congr_left (slotState_setSlot_ne same s .working)
  · have other : (⟨v, j⟩ : QueueEntry) ≠ e := queueEntry_ne same
    rw [queueAfter, List.mem_filter]
    simp [other]
  · rw [workAfter, noWork]
    exact iff_of_false (fun k => same (Option.some_injective _ k).symm) nofun
  · obtain rfl := Option.some_injective _ hr
    exact nofun
  · have : f ∈ s.path.waiting.filter fun e => isWriteBack e.kind := hf
    rw [issues.noneWaits idle] at this
    cases this

/-- R87, R88: the take keeps the intake unit sound. -/
theorem takeNext_parts (h : IntakeParts s) : IntakeParts (takeNext s) := by
  obtain same | ⟨e, hold, idle, mem, -, taken⟩ := takeNext_cases s
  · exact same.symm ▸ h
  · exact taken.symm ▸ startWork_parts h idle mem hold

/-- R88: a take leaves every slot alone that is not QUEUED. -/
theorem slotState_takeNext (h : IntakeParts s) {st : SlotState} (before : slotState s w slot = some st)
    (other : st ≠ .queued) : slotState (takeNext s) w slot = some st := by
  obtain same | ⟨e, hold, idle, mem, -, taken⟩ := takeNext_cases s
  · rw [same, before]
  · have isQueued := (h.served.slots e.window e.slot).queued.mp mem
    have apart : (w, slot) ≠ (e.window, e.slot) := fun same => by
      obtain ⟨rfl, rfl⟩ := Prod.mk.inj same
      exact other (Option.some_injective _ (before.symm.trans isQueued))
    rw [taken]
    exact (slotState_setSlot_ne apart s .working).trans before

theorem queueSlot_parts (h : IntakeParts s) (filling : slotState s w slot = some .filling) (expired : Bool) :
    IntakeParts (queueSlot w slot expired s) :=
  joinQueue_parts (takeNext_parts h) (slotState_takeNext h filling (by decide)) expired

/-! ### Slot writes and expiry (R19 to R25, R29) -/

theorem mergeBeats_place (beats : List (Nat × Beat)) (h : Hold) : holdPlace (mergeBeats beats h) = holdPlace h := rfl

theorem recordHeader_place (size : Nat) (h : Hold) : holdPlace (recordHeader size h) = holdPlace h := by
  unfold recordHeader
  split <;> rfl

theorem completionTest_parts (h : IntakeParts s)
    (filling : holdOf s w slot ≠ none → slotState s w slot = some .filling) : IntakeParts (completionTest w slot s) := by
  unfold completionTest
  split
  · next found =>
    split
    · exact queueSlot_parts h (filling (by simp [found])) false
    · exact h
  · exact h

/-- R18: a slot without a state has no hold. -/
theorem holdOf_none_of_slotState_none (h : IntakeParts s) (absent : slotState s w slot = none) :
    holdOf s w slot = none := by
  have here := h.served.slots w slot
  have noWrite := here.noWrite (by simp [absent])
  rw [← Option.not_isSome_iff_eq_none, holdOf_isSome]
  refine fun k => ?_
  have := here.held.mp k
  simp [absent, not_or.mp noWrite] at this

theorem ensureHold_parts (h : IntakeParts s) : IntakeParts (ensureHold w slot s) := by
  unfold ensureHold
  split
  · next free => exact openHold_parts h free
  · exact h

/-- R19: a slot that takes a slot write is then FILLING, where there is one. -/
theorem ensureHold_filling (taken : slotRefusal s w slot = none) :
    slotState (ensureHold w slot s) w slot = some .filling ∨
      (slotState s w slot = none ∧ ensureHold w slot s = s) := by
  unfold ensureHold
  split
  · next free =>
    exact .inl (slotState_openHold free)
  · next notFree =>
    cases state : slotState s w slot with
    | none => exact .inr ⟨rfl, rfl⟩
    | some st =>
      cases st
      case free => exact absurd state notFree
      case filling => exact .inl rfl
      all_goals simp [slotRefusal, state] at taken

theorem takeSlotWrite_parts (h : IntakeParts s) (sw : SlotWrite) : IntakeParts (takeSlotWrite sw s) := by
  unfold takeSlotWrite
  split
  · exact h.of_other (addCount_touches s _ _ _)
  · next taken =>
    have opened : IntakeParts (ensureHold sw.window sw.slot s) := ensureHold_parts h
    have merged := onHold_parts opened
      (f := fun h => recordHeader (windowOfMap s sw.window).slotSize (mergeBeats sw.beats h))
      (fun h => (recordHeader_place _ _).trans (mergeBeats_place _ h)) sw.window sw.slot
    refine completionTest_parts merged fun found => ?_
    obtain filling | ⟨absent, same⟩ := ensureHold_filling taken
    · exact filling
    · refine absurd (holdOf_none_of_slotState_none (w := sw.window) (slot := sw.slot) merged ?_) found
      rw [slotState_congr (onHold_windows _ _ _ _), same, absent]

theorem leastBy_mem {α : Type} {key : α → Nat} {l : List α} {x : α} (h : leastBy key l = some x) : x ∈ l := by
  induction l generalizing x with
  | nil => simp [leastBy] at h
  | cons a l ih =>
    unfold leastBy at h
    split at h
    · simp_all
    · next y found =>
      split at h <;> obtain rfl := Option.some_injective _ h
      · exact List.mem_cons_self
      · exact List.mem_cons_of_mem _ (ih found)

/-- R29: a hold that expires is one of the expiry age, of a FILLING slot. -/
theorem nextExpiring_expiring {h : Hold} (next : nextExpiring s = some h) :
    h ∈ s.intake.holds ∧ slotState s h.window h.slot = some .filling ∧ s.settings.holdExpiry ≤ holdAge s h := by
  obtain ⟨mem, expiring⟩ := List.mem_filter.mp (leastBy_mem next)
  simpa [mem, holdExpiring] using expiring

theorem expireNext_parts (h : IntakeParts s) : IntakeParts (expireNext s) := by
  unfold expireNext
  split
  · next next => exact queueSlot_parts h (nextExpiring_expiring next).2.1 true
  · exact h

end Sys2Proof.Proofs
end

section
/-! SUPPORT. What leads the record in work on keeps its slot and the engine queue (R34, R89). -/

namespace Sys2Proof.Proofs

open Sys2Proof Sys2Proof.Machine Sys2Proof.Laws

variable {s t u : State} {fs : List Field}

/-- From `s` to `t` the engine keeps its queue and the slot of its record. -/
structure PlaceKept (s t : State) : Prop where
  queue : t.engine.queue = s.engine.queue
  slot  : workSlot t = workSlot s

namespace PlaceKept

theorem refl (s : State) : PlaceKept s s := ⟨rfl, rfl⟩

theorem trans (h : PlaceKept s t) (k : PlaceKept t u) : PlaceKept s u := ⟨k.queue.trans h.queue, k.slot.trans h.slot⟩

theorem of_touches (h : Touches fs s t) (engine : .engine ∉ fs := by decide) : PlaceKept s t := by
  have same := h.engine engine
  exact ⟨by rw [same], by rw [workSlot, workSlot, same]⟩

theorem andTouches (h : PlaceKept s t) (k : Touches fs t u) (engine : .engine ∉ fs := by decide) : PlaceKept s u :=
  h.trans (of_touches k engine)

theorem ite {p : Prop} [Decidable p] (h : PlaceKept s t) (k : PlaceKept s u) : PlaceKept s (if p then t else u) := by
  split <;> assumption

theorem onWork {f : Work → Work} (window : ∀ w, (f w).window = w.window) (slot : ∀ w, (f w).slot = w.slot) :
    PlaceKept s (Machine.onWork f s) := by
  refine ⟨rfl, ?_⟩
  change (s.engine.work.map f).map _ = s.engine.work.map _
  rw [Option.map_map]
  congr 1
  funext w
  exact Prod.ext (window w) (slot w)

end PlaceKept

/-! ### The stages (R91 to R105) -/

theorem passTo_place (st : Stage) (s : State) : PlaceKept s (passTo st s) := .onWork (fun _ => rfl) (fun _ => rfl)

theorem decideRecord_place (h : Hold) (d : Disposition) (r : Reason) (output : List Byte) (s : State) :
    PlaceKept s (decideRecord h d r output s) :=
  (PlaceKept.of_touches (reportDecision_touches s h d)).trans (.onWork (fun _ => rfl) (fun _ => rfl))

theorem decideHeaderOnly_place (h : Hold) (d : Disposition) (r : Reason) (s : State) :
    PlaceKept s (decideHeaderOnly h d r s) := decideRecord_place h d r _ s

theorem admissionStage_place (h : Hold) (a : Admission) (s : State) : PlaceKept s (admissionStage h a s) := by
  unfold admissionStage
  split
  · exact decideHeaderOnly_place _ _ _ s
  · exact .ite (passTo_place _ s) (.onWork (fun _ => rfl) (fun _ => rfl))

theorem enrolmentStage_place (h : Hold) (s : State) : PlaceKept s (enrolmentStage h s) :=
  ((PlaceKept.of_touches (enterEnrolment_touches s _ _)).andTouches (reportDecision_touches _ _ _)).trans
    (.onWork (fun _ => rfl) (fun _ => rfl))

theorem resultStage_place (h : Hold) (w : Work) (s : State) : PlaceKept s (resultStage h w s) := by
  unfold resultStage
  split
  · exact .onWork (fun _ => rfl) (fun _ => rfl)
  · exact .refl s

theorem judgeStage_place (h : Hold) (a : Option Admission) (s : State) : PlaceKept s (judgeStage h a s) := by
  unfold judgeStage
  refine .ite (.ite (decideHeaderOnly_place _ _ _ s) (decideHeaderOnly_place _ _ _ s)) ?_
  split
  · exact decideHeaderOnly_place _ _ _ s
  · refine .ite (decideRecord_place _ _ _ _ s) (.ite (decideHeaderOnly_place _ _ _ s)
      (.ite (enrolmentStage_place h s) ?_))
    split
    · exact admissionStage_place h _ s
    · exact .refl s

theorem laneKeyStage_place (h : Hold) (a : Admission) (s : State) : PlaceKept s (laneKeyStage h a s) :=
  .ite (.onWork (fun _ => rfl) (fun _ => rfl)) (decideHeaderOnly_place _ _ _ s)

theorem unsealStage_place (h : Hold) (a : Admission) (keys : List Byte × List Byte) (s : State) :
    PlaceKept s (unsealStage h a keys s) := by
  refine .ite (decideHeaderOnly_place _ _ _ s) ?_
  have unsealed : PlaceKept s (onWork (fun w => { w with
      body := some (unsealBody keys.1 (heldBytes h 40 88) (headerLane h) (heldSequence h) (heldNat h 32 4)) }) s) :=
    .onWork (fun _ => rfl) (fun _ => rfl)
  exact .ite (unsealed.trans (decideHeaderOnly_place _ _ _ _)) (unsealed.trans (passTo_place _ _))

theorem bodyStage_place (h : Hold) (body : List Byte) (s : State) : PlaceKept s (bodyStage h body s) := by
  unfold bodyStage
  split
  · exact decideHeaderOnly_place _ _ _ s
  · exact passTo_place _ s

theorem handOutToRecord_place (s : State) : PlaceKept s (handOutToRecord s) := by
  have changed := PlaceKept.of_touches (keyChange_touches s handOutKey)
  exact (PlaceKept.ite (changed.andTouches (requestKeyWrite_touches _)) changed).trans
    (.onWork (fun _ => rfl) (fun _ => rfl))

theorem waitForReservation_place (s : State) : PlaceKept s (waitForReservation s) := by
  have waits := (PlaceKept.of_touches (onKeys_touches s fun k => { k with waiting := true })).trans
    (passTo_place .reservation _)
  exact .ite waits (waits.andTouches (requestWrite_touches _ _))

theorem keyStage_place (h : Hold) (s : State) : PlaceKept s (keyStage h s) :=
  .ite (decideHeaderOnly_place _ _ _ s) (.ite (handOutToRecord_place s) (waitForReservation_place s))

theorem computeStage_place (h : Hold) (body : List Byte) (c : Capture) (s : State) :
    PlaceKept s (computeStage h body c s) :=
  (PlaceKept.of_touches (onLane_touches s _ _)).trans (.onWork (fun _ => rfl) (fun _ => rfl))

theorem totalsStage_place (h : Hold) (body : List Byte) (c : Capture) (s : State) :
    PlaceKept s (totalsStage h body c s) :=
  (PlaceKept.of_touches (onTotals_touches s _)).trans (.onWork (fun _ => rfl) (fun _ => rfl))

theorem concludeStage_place (h : Hold) (body : List Byte) (c : Capture) (p : Products) (s : State) :
    PlaceKept s (concludeStage h body c p s) := by
  unfold concludeStage
  split
  · next batch _ =>
    have tagged : PlaceKept s (onWork (fun w => { w with
        products := some { p with tag := some (recordTag h body p.cipher c batch) } }) s) :=
      .onWork (fun _ => rfl) (fun _ => rfl)
    exact tagged.trans (decideRecord_place _ _ _ _ _)
  · exact .refl s

theorem runStage_place (h : Hold) (w : Work) (s : State) : PlaceKept s (runStage h w s) := by
  unfold runStage
  split
  · exact judgeStage_place h _ s
  · exact resultStage_place h _ s
  · exact laneKeyStage_place h _ s
  · exact unsealStage_place h _ _ s
  · exact bodyStage_place h _ s
  · exact keyStage_place h s
  · exact computeStage_place h _ _ s
  · exact totalsStage_place h _ _ s
  · exact concludeStage_place h _ _ _ s
  · exact .refl s

theorem stageStep_place (s : State) : PlaceKept s (stageStep s) := by
  unfold stageStep
  split
  · split
    · exact runStage_place _ _ s
    · exact .refl s
  · exact .refl s

/-! ### Store writes and frames (R102, R136, R145) -/

theorem endWaiting_place (r : Reason) (h : Hold) (s : State) : PlaceKept s (endWaiting r h s) :=
  (PlaceKept.of_touches (onKeys_touches s fun k => { k with waiting := false })).trans (decideHeaderOnly_place _ _ _ _)

theorem judgeWaiting_place (completed : Bool) (s : State) : PlaceKept s (judgeWaiting completed s) := by
  unfold judgeWaiting
  refine .ite (.refl s) ?_
  split
  · exact .refl s
  · exact .ite (endWaiting_place _ _ s) (.ite (endWaiting_place _ _ s) (.ite (handOutToRecord_place s)
      (.of_touches (requestWrite_touches s _))))

theorem keyWriteEnded_place (r : Option Reservation) (forPort completed : Bool) (s : State) :
    PlaceKept s (keyWriteEnded r forPort completed s) := by
  have changed := PlaceKept.of_touches (keyChange_touches s (endKeyWrite completed r))
  have told := PlaceKept.ite (p := forPort) (changed.andTouches (portOutcome_touches _ completed)) changed
  exact .ite (told.trans (judgeWaiting_place _ _)) told

theorem endStoreWrite_place (completed : Bool) (s : State) : PlaceKept s (endStoreWrite completed s) := by
  unfold endStoreWrite
  split
  · next w _ =>
    refine (PlaceKept.of_touches (onNv_touches s (endWriting w completed))).trans ?_
    cases w with
    | keyStore _ r forPort => exact keyWriteEnded_place r forPort completed _
    | batchNumber _ => exact .of_touches (numberWritten_touches _ completed)
    | imageGroup _ _ => exact .of_touches (portOutcome_touches _ completed)
    | imageLock => exact .of_touches (portOutcome_touches _ completed)
    | erase => exact keyWriteEnded_place none true completed _
  · exact .refl s

theorem eraseStep_place (s : State) : PlaceKept s (eraseStep s) := by
  have erased := ((PlaceKept.of_touches (onNv_touches s voidReservations)).andTouches
    (onKeys_touches _ eraseKeys)).andTouches (oweStore_touches _)
  unfold eraseStep
  dsimp only
  split
  · exact erased.trans (endWaiting_place _ _ _)
  · exact erased

theorem eraseFrame_place (clocked : List Byte) (s : State) : PlaceKept s (eraseFrame clocked s) :=
  (((PlaceKept.of_touches (answerFrame_touches s _ _)).trans (eraseStep_place _)).andTouches
    (requestWrite_touches _ _)).andTouches (holdOutstanding_touches _)

theorem takeFrame_place (bytes : List Byte) (s : State) : PlaceKept s (takeFrame bytes s) := by
  have answered (n : Nat) (answer : List Byte) : PlaceKept s (answerFrame n answer s) :=
    .of_touches (answerFrame_touches s n answer)
  have judged (wanted : Nat) (length : Byte) (clocked : List Byte) {act : State → State} (acts : PlaceKept s (act s)) :
      PlaceKept s (judgedFrame wanted length clocked act s) := by
    unfold judgedFrame
    split
    · exact answered _ _
    · exact acts
  refine .ite (.refl s) (.ite ?_ (.of_touches (onPort_touches s _)))
  unfold actOnFrame
  split
  · next command length clocked =>
    refine .ite (answered _ _) ?_
    split
    · exact judged _ _ _ (answered _ _)
    · exact judged _ _ _ (.of_touches (loadKeyFrame_touches s clocked))
    · exact .of_touches (loadImageFrame_touches s length clocked)
    · exact judged _ _ _ (.of_touches (lockFrame_touches s clocked))
    · exact judged _ _ _ (eraseFrame_place clocked s)
    · exact answered _ _
  · exact answered _ _

/-! ### Sound issues -/

/-- R47 to R50: an output is as long as its slot, so it is not empty. -/
theorem RecordKept.of_follows (tables : TablesSound s) (place : PlaceKept s t) (follows : Follows s t) :
    RecordKept s t := by
  refine ⟨place.queue, place.slot, fun outputs v hv empty => ?_⟩
  obtain ⟨w, hw, -, earlier⟩ := follows.work v hv
  obtain old | size := earlier [] empty
  · exact outputs w hw old
  · exact absurd size.symm (Nat.pos_iff_ne_zero.mp (tables.sizes _))

/-- What leads the record on keeps the intake unit sound. -/
theorem IntakeParts.of_record (h : IntakeParts s) (place : PlaceKept s t) (follows : Follows s t)
    (k : Touches fs s t) (phase : .phase ∉ fs := by decide) (intake : .intake ∉ fs := by decide)
    (path : .path ∉ fs := by decide) : IntakeParts t := by
  have same := k.intake intake
  exact h.kept (.of_windows (k.phase phase) follows.settings (by rw [same])) (slotState_congr (by rw [same]))
    (by rw [same]) (.of_follows h.tables place follows) (k.path path ▸ .refl _)

end Sys2Proof.Proofs
end

section
/-! SUPPORT. Release, consumption and acknowledgement keep the intake unit sound (R36 to R40). -/

namespace Sys2Proof.Proofs

open Sys2Proof Sys2Proof.Machine Sys2Proof.Laws

variable {s t : State} {w slot : Nat}

/-! ### One window (R16) -/

/-- R18, R27, R34, R35: the states in which something is kept for a slot. -/
def busyStates : List SlotState := [.filling, .queued, .working, .writing]

/-- R18: a hold is that of a slot something is kept for. -/
theorem held_busy (h : Served s) {k : Hold} (hold : k ∈ s.intake.holds) :
    ∃ st ∈ busyStates, slotState s k.window k.slot = some st := by
  have here := h.slots k.window k.slot
  obtain state | state | state | write := here.held.mp (mem_heldSlots.mpr ⟨k, hold, rfl, rfl⟩)
  · exact ⟨_, by decide, state⟩
  · exact ⟨_, by decide, state⟩
  · exact ⟨_, by decide, state⟩
  · exact ⟨_, by decide, here.writing.mpr (.inl write)⟩

/-- From `t` to `u` a window keeps the states of the slots something is kept for, and their ring indices; its ring stays
sound. -/
structure BusyKept (t u : WindowSlots) : Prop where
  size   : u.slots.length = t.slots.length
  ring   : RingSound u
  states : ∀ slot : Nat, ∀ st ∈ busyStates, u.slots[slot]? = some st ↔ t.slots[slot]? = some st
  index  : ∀ slot : Nat, ∀ st ∈ busyStates, t.slots[slot]? = some st → ringIndexOf u slot = ringIndexOf t slot

theorem BusyKept.refl {t : WindowSlots} (ring : RingSound t) : BusyKept t t :=
  ⟨rfl, ring, fun _ _ _ => .rfl, fun _ _ _ _ => rfl⟩

/-- What keeps the busy slots of every window keeps the intake unit sound. -/
theorem IntakeParts.of_windows (h : IntakeParts s) (phase : t.phase = s.phase) (settings : t.settings = s.settings)
    (count : t.intake.windows.length = s.intake.windows.length) (holds : t.intake.holds = s.intake.holds)
    (busy : ∀ v, BusyKept (Machine.windowSlots s v) (Machine.windowSlots t v)) (engine : t.engine = s.engine)
    (path : PathCarried s.path t.path) : IntakeParts t := by
  obtain ⟨⟨closed, sizes, four, -⟩, index, served, issues, entries⟩ := h
  refine ⟨⟨fun after v => ?_, fun v => ?_, count.trans four, fun v => (busy v).ring⟩, fun k hk => ?_,
    served.congr (fun v j st live => (busy v).states j st live) (by rw [heldSlots, heldSlots, holds]) (by rw [engine])
      (by rw [workSlot, workSlot, engine]) path.kinds,
    ⟨engine ▸ issues.output, path.writeBacks ▸ issues.one, ?_⟩, path.sound entries⟩
  · refine List.length_eq_zero_iff.mp ((busy v).size.trans ?_)
    rw [closed (phase ▸ after) v, List.length_nil]
  · rw [windowOfMap, settings]
    exact sizes v
  · rw [holds] at hk
    obtain ⟨st, live, state⟩ := held_busy served hk
    rw [index k hk, (busy k.window).index k.slot st live state]
  · rw [path.writeBacks, workSlot, engine]
    exact issues.waits

/-- What keeps the busy slots of one window keeps the intake unit sound. -/
theorem onWindow_parts (h : IntakeParts s) {f : WindowSlots → WindowSlots}
    (busy : BusyKept (Machine.windowSlots s w) (f (Machine.windowSlots s w))) : IntakeParts (onWindow w f s) := by
  refine h.of_windows rfl rfl (onWindow_windows_length _ _ _) rfl (fun v => ?_) rfl (.refl _)
  rw [windowSlots_onWindow]
  split
  · next same =>
    obtain ⟨rfl, -⟩ := same
    exact busy
  · exact .refl (h.tables.rings v)

/-! ### Release and consumption (R38 to R40) -/

theorem busy_ne {st : SlotState} (live : st ∈ busyStates) : st ≠ .done ∧ st ≠ .released ∧ st ≠ .free := by
  cases st <;> simp [busyStates] at live ⊢

/-- R38: the release cursor passes DONE slots alone. -/
theorem releaseCursor_busy (fuel : Nat) {t : WindowSlots} (ring : RingSound t) :
    BusyKept t (releaseCursor fuel t).1 := by
  obtain ⟨size, consumed, -, states⟩ := releaseCursor_frame fuel t
  refine ⟨size, releaseCursor_sound fuel ring, fun slot st live => states slot st (busy_ne live).1 (busy_ne live).2.1,
    fun slot _ _ _ => ?_⟩
  rw [ringIndexOf, ringIndexOf, consumed, size]

/-- R39: the consumed index passes RELEASED slots alone. -/
theorem consumeTo_busy {t : WindowSlots} {c : BitVec 16} (ring : RingSound t) (accepted : consumedAccepted t c = true) :
    BusyKept t (consumeTo c t) := by
  refine ⟨freeSlots_length _ _ _, consumeTo_sound ring accepted,
    fun slot st live => consumeTo_states ring accepted slot (busy_ne live).2.2 (busy_ne live).2.1,
    fun slot st live state => ringIndexOf_consumeTo ring accepted (List.getElem?_eq_some_iff.mp state).1 ?_⟩
  rw [state]
  exact fun e => (busy_ne live).2.1 (Option.some_injective _ e)

theorem releaseWindow_parts (h : IntakeParts s) (w : Nat) : IntakeParts (releaseWindow w s) :=
  (onWindow_parts h (releaseCursor_busy _ (h.tables.rings w))).of_other (onChannel_touches _ _ _)

theorem takeConsumed_parts (h : IntakeParts s) (w : Nat) (c : BitVec 16) : IntakeParts (takeConsumed w c s) := by
  unfold takeConsumed
  split
  · next accepted => exact onWindow_parts h (consumeTo_busy (h.tables.rings w) accepted)
  · exact h.of_other (onChannel_touches _ _ _)

/-- R171 to R174: a return word keeps the intake unit sound. -/
theorem returnStep_parts (h : IntakeParts s) : IntakeParts (returnStep s) := by
  unfold returnStep
  split
  · exact h
  · next r rest _ =>
    have shown : IntakeParts (onPath (fun p => { p with shownReturns := rest }) s) :=
      h.of_touches (onPath_touches s _) .of_eq
    have handed : IntakeParts (handConsumed r.ch r.beat (onPath (fun p => { p with shownReturns := rest }) s)) := by
      unfold handConsumed
      split
      · exact shown
      · exact takeConsumed_parts shown _ _
    have heard : IntakeParts (acknowledgeLanes
        (handConsumed r.ch r.beat (onPath (fun p => { p with shownReturns := rest }) s))) :=
      handed.of_other (onLanes_touches _ _)
    dsimp only
    split
    · unfold takeReturn
      dsimp only
      split
      · exact heard.of_other (onChannel_touches _ _ _)
      · exact handed.of_other (onChannel_touches _ _ _)
    · exact shown

/-- R30: a gap age is no part of the ring. -/
theorem gapAge_busy {t : WindowSlots} (ring : RingSound t) (age : Nat) : BusyKept t { t with gapAge := age } :=
  ⟨rfl, ⟨ring.1, ring.2, ring.3⟩, fun _ _ _ => .rfl, fun _ _ _ _ => rfl⟩

theorem windowSlots_map {f : WindowSlots → WindowSlots} (none : f WindowSlots.none = WindowSlots.none)
    (windows : t.intake.windows = s.intake.windows.map f) (v : Nat) : windowSlots t v = f (windowSlots s v) := by
  unfold windowSlots
  rw [windows, List.getD_eq_getElem?_getD, List.getD_eq_getElem?_getD, List.getElem?_map]
  cases s.intake.windows[v]? with
  | none => exact none.symm
  | some _ => rfl

/-- R28, R30: a sweep keeps the intake unit sound. -/
theorem sweepStep_parts (h : IntakeParts s) : IntakeParts (sweepStep s) := by
  have aged : IntakeParts (onIntake (fun i => { i with windows := i.windows.map gapSweep })
      { s with sweepCount := s.sweepCount + 1 }) := by
    refine h.of_windows rfl rfl (List.length_map _) rfl (fun v => ?_) rfl (.refl _)
    rw [windowSlots_map (f := gapSweep) (s := s) (t := onIntake (fun i => { i with windows := i.windows.map gapSweep })
      { s with sweepCount := s.sweepCount + 1 }) rfl rfl]
    exact gapAge_busy (h.tables.rings v) _
  exact ((aged.of_other (onLanes_touches _ _)).of_other (onReport_touches _ _)).of_other (retryWrite_touches _)

/-! ### Acknowledgements (R36, R37) -/

/-- R18: the hold of a slot that has none is freed in vain. -/
theorem freeHold_of_not_held (h : (w, slot) ∉ heldSlots s) : freeHold w slot s = s := by
  have all : s.intake.holds.filter (fun h => !holdServes w slot h) = s.intake.holds := by
    refine List.filter_eq_self.mpr fun k hk => ?_
    rw [Bool.not_eq_true', Bool.eq_false_iff]
    intro serves
    exact h (holdServes_iff.mp serves ▸ List.mem_map_of_mem hk)
  change { s with intake := { s.intake with holds := s.intake.holds.filter fun h => !holdServes w slot h } } = s
  rw [all]

theorem mem_heldSlots_freeHold {v j : Nat} :
    (v, j) ∈ heldSlots (freeHold w slot s) ↔ (v, j) ∈ heldSlots s ∧ (v, j) ≠ (w, slot) := by
  simp only [mem_heldSlots, freeHold, onIntake_intake, List.mem_filter, Bool.not_eq_true', Bool.eq_false_iff, ne_eq,
    holdServes_iff]
  constructor
  · rintro ⟨k, ⟨hk, other⟩, rfl, rfl⟩
    exact ⟨⟨k, hk, rfl, rfl⟩, other⟩
  · rintro ⟨⟨k, hk, rfl, rfl⟩, other⟩
    exact ⟨k, ⟨hk, other⟩, rfl, rfl⟩

/-- The acknowledgements that are left when one is taken. -/
def withAcks (left : List Ack) (s : State) : State := onPath (fun q => { q with acks := left }) s

/-- R35: no other entry under way writes the slot of an acknowledgement. -/
theorem acknowledged_alone (h : Served s) {a : Ack} {left : List Ack} (acks : s.path.acks.Perm (a :: left))
    (target : targetOf a.kind = some (w, slot)) :
    (slotKinds s.path).Perm (a.kind :: slotKinds (withAcks left s).path) ∧ (writtenSlots (withAcks left s)).Nodup ∧
      .writeBack w slot ∉ slotKinds (withAcks left s).path ∧ .voidRecord w slot ∉ slotKinds (withAcks left s).path := by
  have slotKind : isSlotKind a.kind = true := by rw [isSlotKind, target]; rfl
  have kinds : (slotKinds s.path).Perm (a.kind :: slotKinds (withAcks left s).path) := by
    have := slotKinds_acknowledged acks
    rwa [if_pos slotKind] at this
  have written : (writtenSlots s).Perm ((w, slot) :: writtenSlots (withAcks left s)) := by
    have := kinds.filterMap targetOf
    rwa [List.filterMap_cons_some target] at this
  obtain ⟨notWritten, oneLeft⟩ := List.nodup_cons.mp (written.nodup_iff.mp h.oneWrite)
  exact ⟨kinds, oneLeft, not_or.mp (mt mem_targets.mpr notWritten)⟩

/-- R12, R36, R37: an acknowledgement taken, its slot DONE, and its hold freed where it has one. -/
def slotAcknowledged (w slot : Nat) (left : List Ack) (s : State) : State :=
  setSlot w slot .done (freeHold w slot (withAcks left s))

theorem slotState_acknowledged_ne {left : List Ack} {v j : Nat} (other : (v, j) ≠ (w, slot)) :
    slotState (slotAcknowledged w slot left s) v j = slotState s v j :=
  slotState_setSlot_ne other (freeHold w slot (withAcks left s)) .done

theorem slotAcknowledged_tables {left : List Ack} (wrote : slotState s w slot = some .writing) :
    TablesKept s (slotAcknowledged w slot left s) :=
  (TablesKept.of_windows (s := s) (t := freeHold w slot (withAcks left s)) rfl rfl rfl).trans
    (.setSlot (s := freeHold w slot (withAcks left s)) (w := w) (slot := slot) (st := .done)
      (by rw [slotState_congr (t := freeHold w slot (withAcks left s)) (s := s) rfl, wrote]; decide) (by decide))

/-- R36, R37: the acknowledgement of the entry that writes a slot makes it DONE. -/
theorem slotAcknowledged_parts (h : IntakeParts s) {a : Ack} {left : List Ack} (acks : s.path.acks.Perm (a :: left))
    (target : targetOf a.kind = some (w, slot)) : IntakeParts (slotAcknowledged w slot left s) := by
  obtain ⟨tables, index, served, issues, entries⟩ := h
  obtain ⟨kinds, oneLeft, alone⟩ := acknowledged_alone served acks target
  have here := served.slots w slot
  have wrote : slotState s w slot = some .writing := by
    refine here.writing.mpr (mem_targets.mp (List.mem_filterMap.mpr ⟨a.kind, ?_, target⟩))
    exact kinds.mem_iff.mpr List.mem_cons_self
  have done : slotState (slotAcknowledged w slot left s) w slot = some .done :=
    slotState_setSlot_same (s := freeHold w slot (withAcks left s)) wrote _
  have kept : TablesKept s (slotAcknowledged w slot left s) := slotAcknowledged_tables wrote
  have held (v j : Nat) : (v, j) ∈ heldSlots (slotAcknowledged w slot left s) ↔
      (v, j) ∈ heldSlots s ∧ (v, j) ≠ (w, slot) := mem_heldSlots_freeHold (s := withAcks left s)
  refine ⟨kept.sound tables, index.kept kept.rings fun k hk => ⟨k, (List.mem_filter.mp hk).1, rfl⟩,
    ⟨served.oneHold.sublist (List.filter_sublist.map _), served.oneEntry, oneLeft,
      slots_of_one served.slots (w := w) (slot := slot)
      ⟨?_, ?_, ?_, ?_⟩ fun v j other => ⟨?_, ?_, .rfl, .rfl, fun k hk => ?_⟩⟩,
    ⟨issues.output, issues.one, issues.waits⟩, ⟨entries.stream, entries.entries⟩⟩
  · rw [held]
    refine iff_of_false (fun both => both.2 rfl) ?_
    simp only [done, Option.some.injEq, reduceCtorEq, false_or]
    exact alone.1
  · exact iff_of_false (fun k => by simpa [wrote] using here.queued.mp k) (by simp [done])
  · exact iff_of_false (by simp [done]) (fun k => by simpa [wrote] using here.working.mpr k)
  · exact iff_of_false (by simp [done]) (not_or.mpr alone)
  · intro st _
    rw [slotState_acknowledged_ne other]
  · rw [held, and_iff_left other]
  · rw [kinds.mem_iff, List.mem_cons]
    refine (or_iff_right fun e => other ?_).symm
    rw [e, target] at hk
    exact (Option.some_injective _ hk).symm

/-- R38: after the acknowledgement the fault is counted and the window releases. -/
theorem slotDone_parts (h : IntakeParts (setSlot w slot .done s)) (okay : Bool) :
    IntakeParts (slotDone w slot okay s) := by
  unfold slotDone
  dsimp only
  split
  · exact releaseWindow_parts h w
  · exact releaseWindow_parts (h.of_other (addCount_touches _ _ _ _)) w

theorem writeBackAckStep_parts (h : IntakeParts s) : IntakeParts (writeBackAckStep s) := by
  unfold writeBackAckStep
  split
  · next w slot okay t taken =>
    obtain ⟨left, rfl, first⟩ := takeAck_path s taken
    exact slotDone_parts (slotAcknowledged_parts h (takeFirst_perm first) rfl) okay
  · exact h

theorem voidAckStep_parts (h : IntakeParts s) : IntakeParts (voidAckStep s) := by
  unfold voidAckStep
  split
  · next w slot okay t taken =>
    obtain ⟨left, rfl, first⟩ := takeAck_path s taken
    have acks := takeFirst_perm first
    obtain ⟨kinds, -, noWriteBack, -⟩ := acknowledged_alone (w := w) (slot := slot) h.served acks rfl
    have here := h.served.slots w slot
    have wrote : slotState s w slot = some .writing :=
      here.writing.mpr (.inr (kinds.mem_iff.mpr List.mem_cons_self))
    have notHeld : (w, slot) ∉ heldSlots (withAcks left s) := fun held => by
      have := here.held.mp held
      simp [wrote, kinds.mem_iff, noWriteBack] at this
    refine slotDone_parts ?_ okay
    have acknowledged := slotAcknowledged_parts (w := w) (slot := slot) h acks rfl
    rwa [slotAcknowledged, freeHold_of_not_held notHeld] at acknowledged
  · exact h

/-- R11: the other acknowledgements write no slot. -/
theorem takeAck_parts (h : IntakeParts s) {p : EntryKind → Bool} {a : Ack} (taken : takeAck p s = some (a, t))
    (other : ∀ k, p k = true → targetOf k = none) : IntakeParts t := by
  obtain ⟨left, rfl, first⟩ := takeAck_path s taken
  have none : targetOf a.kind = none := other _ (takeFirst_satisfies (p := fun a : Ack => p a.kind) first)
  exact h.of_touches (onPath_touches s _) (.acknowledged (takeFirst_perm first) none)

end Sys2Proof.Proofs
end

section
/-! SUPPORT. The issues keep the intake unit sound: the write-back, the void record, and those that write no slot
(R9, R31, R35, R106). -/

namespace Sys2Proof.Proofs

open Sys2Proof Sys2Proof.Machine Sys2Proof.Laws

variable {s t : State} {w slot : Nat} {p : PathFront} {e : Entry}

/-! ### The path front -/

theorem EntriesSound.issued (h : EntriesSound p) (sound : EntrySound e) : EntriesSound (entryIssued p e) := by
  unfold entryIssued
  split
  · refine ⟨h.stream, fun f hf => ?_⟩
    simp only [List.mem_append, List.mem_singleton] at hf
    obtain (hf | rfl) | hf := hf
    · exact h.entries f (List.mem_append_left _ hf)
    · exact sound
    · exact h.entries f (List.mem_append_right _ hf)
  · refine ⟨h.stream, fun f hf => ?_⟩
    simp only [List.mem_append, List.mem_singleton] at hf
    obtain hf | hf | rfl := hf
    · exact h.entries f (List.mem_append_left _ hf)
    · exact h.entries f (List.mem_append_right _ hf)
    · exact sound

/-- R9, R31: a void record counts from its issue on, added or waiting. -/
theorem slotKinds_issuedVoid (p : PathFront) (void : isVoid e.kind = true) :
    (slotKinds (entryIssued p e)).Perm (e.kind :: slotKinds p) := by
  have slot : isSlotKind e.kind = true := by
    cases kind : e.kind <;> simp [kind, isVoid] at void ⊢
    rfl
  unfold entryIssued
  split
  · simpa [slot] using slotKinds_queued p e
  · simpa [void] using slotKinds_waiting p e

theorem entryIssued_writeBacks (p : PathFront) (other : isWriteBack e.kind = false) :
    ((entryIssued p e).waiting.filter fun e => isWriteBack e.kind) = p.waiting.filter fun e => isWriteBack e.kind := by
  unfold entryIssued
  split
  · rfl
  · simp [other]

/-- R9: the longest waiting entry joins the queue. -/
def waitingAdded (e : Entry) (rest : List Entry) (p : PathFront) : PathFront :=
  { p with queue := p.queue ++ [e], waiting := rest }

theorem isSlotKind_eq (k : EntryKind) : isSlotKind k = (isWriteBack k || isVoid k) := by cases k <;> rfl

theorem isWriteBack_of_void {k : EntryKind} (h : isVoid k = true) : isWriteBack k = false := by
  cases k <;> simp [isVoid] at h ⊢
  rfl

/-- R9: an entry that joins the queue stays under way; a write-back comes under way with it. -/
theorem slotKinds_waitingAdded {rest : List Entry} (waits : p.waiting = e :: rest) :
    (slotKinds (waitingAdded e rest p)).Perm ((if isWriteBack e.kind then [e.kind] else []) ++ slotKinds p) := by
  rw [List.perm_iff_count]
  intro k
  simp only [slotKinds, waitingAdded, waits, List.map_append, List.map_cons, List.map_nil, List.filter_append,
    List.count_append, List.filter_cons, List.filter_nil, isSlotKind_eq e.kind]
  by_cases void : isVoid e.kind = true
  · simp only [void, isWriteBack_of_void void, Bool.or_true, if_true, Bool.false_eq_true, if_false, List.filter_cons,
      isSlotKind_eq e.kind, List.count_cons, List.count_nil]
    omega
  · simp only [void, Bool.or_false, Bool.false_eq_true, if_false]
    omega

theorem EntriesSound.waitingAdded (h : EntriesSound p) {rest : List Entry} (waits : p.waiting = e :: rest) :
    EntriesSound (waitingAdded e rest p) := by
  obtain ⟨stream, entries⟩ := h
  refine ⟨stream, fun f hf => entries f ?_⟩
  rw [waits]
  simpa [Proofs.waitingAdded] using hf

theorem PathCarried.waitingAdded {rest : List Entry} (waits : p.waiting = e :: rest)
    (other : isWriteBack e.kind = false) : PathCarried p (waitingAdded e rest p) := by
  refine ⟨?_, ?_, fun b hb => .inl hb, fun f hf => .inl ?_⟩
  · simpa [other] using slotKinds_waitingAdded waits
  · simp [Proofs.waitingAdded, waits, other]
  · rw [waits]
    simpa [Proofs.waitingAdded] using hf

/-! ### The write-back (R35, R106) -/

/-- R35, R106: a write-back is added: its slot becomes WRITING, and the engine is idle. -/
def writeBackAdded (w slot : Nat) (q : PathFront) (s : State) : State :=
  onEngine (fun g => { g with work := none }) (onPath (fun _ => q) (setSlot w slot .writing s))

theorem slotState_writeBackAdded (q : PathFront) (v j : Nat) :
    slotState (writeBackAdded w slot q s) v j = slotState (setSlot w slot .writing s) v j := rfl

theorem writeBackAdded_tables (q : PathFront) (working : slotState s w slot = some .working) :
    TablesKept s (writeBackAdded w slot q s) :=
  (TablesKept.setSlot (w := w) (slot := slot) (st := .writing) (by rw [working]; decide) (by decide)).trans
    (.of_windows rfl rfl rfl)

/-- R35: the slot of the record in work becomes WRITING as its write-back comes under way. -/
theorem writeBackAdded_parts (h : IntakeParts s) {q : PathFront} (works : workSlot s = some (w, slot))
    (kinds : (slotKinds q).Perm (.writeBack w slot :: slotKinds s.path)) (entries : EntriesSound q)
    (noneWaits : (q.waiting.filter fun e => isWriteBack e.kind) = []) : IntakeParts (writeBackAdded w slot q s) := by
  obtain ⟨tables, index, served, issues, -⟩ := h
  have here := served.slots w slot
  have working := here.working.mpr works
  have noWrite := here.noWrite (by simp [working])
  have kept := writeBackAdded_tables q working
  have writing : slotState (writeBackAdded w slot q s) w slot = some .writing := by
    rw [slotState_writeBackAdded, slotState_setSlot_same working]
  have noWork : workSlot (writeBackAdded w slot q s) = none := rfl
  have path : (writeBackAdded w slot q s).path = q := rfl
  have written : (writtenSlots (writeBackAdded w slot q s)).Perm ((w, slot) :: writtenSlots s) := by
    have := kinds.filterMap targetOf
    rwa [List.filterMap_cons_some (f := targetOf) (b := (w, slot)) rfl] at this
  have write : .writeBack w slot ∈ slotKinds q := kinds.mem_iff.mpr List.mem_cons_self
  refine ⟨kept.sound tables, index.kept kept.rings (.of_eq rfl), ⟨served.oneHold, served.oneEntry, ?_,
      slots_of_one served.slots (w := w) (slot := slot) ⟨?_, ?_, ?_, ?_⟩
        fun v j other => ⟨?_, .rfl, .rfl, ?_, fun k hk => ?_⟩⟩,
    ⟨fun r hr => ?_, ?_, ?_⟩, path.symm ▸ entries⟩
  · exact written.nodup_iff.mpr (List.nodup_cons.mpr ⟨mt mem_targets.mp noWrite, served.oneWrite⟩)
  · exact iff_of_true (here.held.mpr (.inr (.inr (.inl working)))) (.inr (.inr (.inr (path.symm ▸ write))))
  · exact iff_of_false (fun k => by simpa [working] using here.queued.mp k) (by simp [writing])
  · exact iff_of_false (by simp [writing]) (by simp [noWork])
  · exact iff_of_true writing (.inl (path.symm ▸ write))
  · intro st _
    rw [slotState_writeBackAdded, slotState_setSlot_ne other]
  · rw [noWork, works]
    exact iff_of_false nofun fun e => other (Option.some_injective _ e).symm
  · rw [path, kinds.mem_iff, List.mem_cons]
    refine or_iff_right fun e => other ?_
    rw [e] at hk
    exact (Option.some_injective _ hk).symm
  · cases hr
  · rw [path, noneWaits]
    decide
  · rw [path, noneWaits]
    exact fun f hf => nomatch hf

theorem addEntry_writeBack (kind : e.kind = .writeBack w slot) (s : State) :
    addEntry e s = writeBackAdded w slot { s.path with queue := s.path.queue ++ [e] } s := by
  unfold addEntry
  dsimp only
  rw [kind]
  rfl

theorem exists_of_writeBack {k : EntryKind} (h : isWriteBack k = true) : ∃ w slot, k = .writeBack w slot := by
  cases k <;> simp [isWriteBack] at h ⊢

/-- R9: the entry that waits longest is added. -/
theorem addLongestWaiting_parts (h : IntakeParts s) (p : EntryKind → Bool) : IntakeParts (addLongestWaiting p s) := by
  unfold addLongestWaiting
  split
  · exact h
  · next e rest waits =>
    split
    · by_cases writeBack : isWriteBack e.kind = true
      · obtain ⟨w, slot, kind⟩ := exists_of_writeBack writeBack
        have works := h.issues.waits e (by simp [waits, writeBack]) w slot kind
        have one := h.issues.one
        have kinds := slotKinds_waitingAdded waits
        rw [if_pos writeBack, kind] at kinds
        rw [addEntry_writeBack kind]
        refine writeBackAdded_parts (q := waitingAdded e rest s.path) h works kinds (h.entries.waitingAdded waits) ?_
        simpa [waits, writeBack, waitingAdded] using one
      · have other : isWriteBack e.kind = false := by simpa using writeBack
        rw [addEntry_eq other]
        exact h.of_touches (onPath_touches s (waitingAdded e rest)) (.waitingAdded waits other)
    · exact h

/-- R9: an entry joins those that wait for room. -/
def entryWaits (e : Entry) (s : State) : State := onPath (fun p => { p with waiting := p.waiting ++ [e] }) s

/-- R106: a write-back that waits for room is not under way: its record stays in work. -/
theorem writeBackWaits_parts (h : IntakeParts s) (works : workSlot s = some (w, slot))
    (kind : e.kind = .writeBack w slot) (sound : EntrySound e) (noneWaits : (s.path.waiting.filter fun e => isWriteBack e.kind) = []) :
    IntakeParts (entryWaits e s) := by
  obtain ⟨tables, index, served, issues, entries⟩ := h
  have kept : TablesKept s (entryWaits e s) := .of_windows rfl rfl rfl
  have same : (slotKinds (entryWaits e s).path).Perm (slotKinds s.path) := by
    have := slotKinds_waiting s.path e
    rwa [kind, if_neg (by simp [isVoid]), List.nil_append] at this
  have one : ((entryWaits e s).path.waiting.filter fun e => isWriteBack e.kind) = [e] := by
    change (s.path.waiting ++ [e]).filter _ = [e]
    rw [List.filter_append, noneWaits, List.nil_append, List.filter_cons_of_pos (by rw [kind]; rfl), List.filter_nil]
  refine ⟨kept.sound tables, index, served.congr (fun _ _ _ _ => .rfl) rfl rfl rfl same,
    ⟨issues.output, by rw [one, List.length_singleton], ?_⟩, entries.stream, fun f hf => ?_⟩
  · rw [one]
    intro f hf v j other
    rw [List.mem_singleton.mp hf, kind] at other
    cases other
    exact works
  · simp only [entryWaits, onPath_path, List.mem_append, List.mem_singleton] at hf
    obtain hf | hf | rfl := hf
    · exact entries.entries f (List.mem_append_left _ hf)
    · exact entries.entries f (List.mem_append_right _ hf)
    · exact sound

/-- R106: the built output is issued where no write-back waits. -/
theorem issueWriteBack_parts (h : IntakeParts s) : IntakeParts (issueWriteBack s) := by
  unfold issueWriteBack
  split
  · exact h
  · next noneWaits =>
    split
    · next r work =>
      split
      · next output built =>
        have nonempty : output ≠ [] := fun empty => h.issues.output r work (empty ▸ built)
        have sound : EntrySound (writeBackEntry s r output) := entryOfBytes_sound _ _ nonempty
        have works : workSlot s = some (r.window, r.slot) := by rw [workSlot, work]; rfl
        have noWaiting : (s.path.waiting.filter fun e => isWriteBack e.kind) = [] := by
          simpa [writeBackWaits, List.filter_eq_nil_iff] using noneWaits
        unfold offerEntry
        split
        · next room =>
          have issued := h.entries.issued sound
          rw [entryIssued, if_pos (by simpa [queueRoom] using room)] at issued
          rw [addEntry_writeBack (w := r.window) (slot := r.slot) rfl]
          exact writeBackAdded_parts h works (slotKinds_queued s.path _) issued noWaiting
        · exact writeBackWaits_parts h works rfl sound noWaiting
      · exact h
    · exact h

/-! ### The void record (R31) -/

/-- R31: a slot becomes WRITING as the void record of its index comes under way. -/
def voidAdded (w slot : Nat) (q : PathFront) (s : State) : State := onPath (fun _ => q) (setSlot w slot .writing s)

theorem slotState_voidAdded (q : PathFront) (v j : Nat) :
    slotState (voidAdded w slot q s) v j = slotState (setSlot w slot .writing s) v j := rfl

theorem voidAdded_parts (h : IntakeParts s) {q : PathFront} (free : slotState s w slot = some .free)
    (kinds : (slotKinds q).Perm (.voidRecord w slot :: slotKinds s.path)) (entries : EntriesSound q)
    (writeBacks : (q.waiting.filter fun e => isWriteBack e.kind) = s.path.waiting.filter fun e => isWriteBack e.kind) :
    IntakeParts (voidAdded w slot q s) := by
  obtain ⟨tables, index, served, issues, -⟩ := h
  have here := served.slots w slot
  have noWrite := here.noWrite (by simp [free])
  have kept : TablesKept s (voidAdded w slot q s) :=
    (TablesKept.setSlot (w := w) (slot := slot) (st := .writing) (by rw [free]; decide) (by decide)).trans
      (.of_windows rfl rfl rfl)
  have writing : slotState (voidAdded w slot q s) w slot = some .writing := by
    rw [slotState_voidAdded, slotState_setSlot_same free]
  have path : (voidAdded w slot q s).path = q := rfl
  have written : (writtenSlots (voidAdded w slot q s)).Perm ((w, slot) :: writtenSlots s) := by
    have := kinds.filterMap targetOf
    rwa [List.filterMap_cons_some (f := targetOf) (b := (w, slot)) rfl] at this
  have write : .voidRecord w slot ∈ slotKinds q := kinds.mem_iff.mpr List.mem_cons_self
  have noWriteBack : .writeBack w slot ∉ slotKinds q := by simpa [kinds.mem_iff] using (not_or.mp noWrite).1
  refine ⟨kept.sound tables, index.kept kept.rings (.of_eq rfl), ⟨served.oneHold, served.oneEntry, ?_,
      slots_of_one served.slots (w := w) (slot := slot) ⟨?_, ?_, ?_, ?_⟩
        fun v j other => ⟨fun st _ => ?_, .rfl, .rfl, .rfl, fun k hk => ?_⟩⟩,
    ⟨issues.output, path.symm ▸ writeBacks ▸ issues.one, path.symm ▸ writeBacks ▸ issues.waits⟩, path.symm ▸ entries⟩
  · exact written.nodup_iff.mpr (List.nodup_cons.mpr ⟨mt mem_targets.mp noWrite, served.oneWrite⟩)
  · refine iff_of_false (fun k => ?_) (by simpa [writing, path] using noWriteBack)
    have := here.held.mp k
    simp [free, not_or.mp noWrite] at this
  · exact iff_of_false (fun k => by simpa [free] using here.queued.mp k) (by simp [writing])
  · exact iff_of_false (by simp [writing]) (fun k => by simpa [free] using here.working.mpr k)
  · exact iff_of_true writing (.inr (path.symm ▸ write))
  · rw [slotState_voidAdded, slotState_setSlot_ne other]
  · rw [path, kinds.mem_iff, List.mem_cons]
    refine or_iff_right fun e => other ?_
    rw [e] at hk
    exact (Option.some_injective _ hk).symm

/-- R31: a gap that is due is filled. -/
theorem fillGap_parts (h : IntakeParts s) (w : Nat) : IntakeParts (fillGap w s) := by
  unfold fillGap
  dsimp only
  split
  · next due =>
    generalize cursor : slotOfIndex (windowSlots s w) (windowSlots s w).release = slot
    have free : slotState s w slot = some .free := by
      simp only [gapDue, Bool.and_eq_true, beq_iff_eq, cursor] at due
      exact due.2
    have nonempty : voidOutput (windowOfMap s w).slotSize (windowSlots s w).release w ≠ [] := by
      rw [← List.length_pos_iff, voidOutput, padTo_length]
      exact h.tables.sizes w
    have sound := entryOfBytes_sound (.voidRecord w slot) (slotAddr s w slot) nonempty
    have issued := voidAdded_parts h free (slotKinds_issuedVoid s.path rfl) (h.entries.issued sound)
      (entryIssued_writeBacks s.path rfl)
    have aged := onWindow_parts (w := w) (f := fun t => { t with gapAge := 0 }) issued
      (gapAge_busy (issued.tables.rings w) 0)
    rw [offerEntry_eq rfl]
    exact aged.of_other (addCount_touches _ w .expiredSkipped 1)
  · exact h

/-! ### Issues that write no slot (R9) -/

/-- An entry that writes no slot keeps the intake unit sound. -/
theorem issued_parts (h : IntakeParts s) (phase : t.phase = s.phase) (settings : t.settings = s.settings)
    (intake : t.intake = s.intake) (engine : t.engine = s.engine) (path : t.path = entryIssued s.path e)
    (none : targetOf e.kind = none) (sound : EntrySound e) : IntakeParts t :=
  h.kept (.of_windows phase settings (by rw [intake])) (slotState_congr (by rw [intake])) (by rw [intake])
    (.of_engine engine) (path ▸ .issued s.path none sound)

/-- R167: a status write keeps the intake unit sound. -/
theorem reportChannel_parts (h : IntakeParts s) (ch : Nat) : IntakeParts (reportChannel ch s) := by
  unfold reportChannel
  split
  · have taken := (onChannel_touches s ch contentTaken).mono (gs := [.report, .lanes]) (by decide)
    have heard := taken.andThen (reportLanes_touches _ ch) (by decide)
    have before := h.of_other heard
    unfold issueStatus
    rw [offerEntry_eq rfl]
    exact issued_parts before rfl rfl rfl rfl rfl rfl (entryOfBytes_sound_of_no_target rfl _ _)
  · exact h

/-- R157: the summary's issue keeps the intake unit sound. -/
theorem summaryStep_parts (h : IntakeParts s) : IntakeParts (summaryStep s) := by
  unfold summaryStep
  split
  · have before := h.of_other
      (onTotals_touches s fun t => { t with close := t.close.map fun c => { c with summary := none } })
    rw [offerEntry_eq rfl]
    exact issued_parts before rfl rfl rfl rfl rfl rfl (entryOfBytes_sound_of_no_target rfl _ _)
  · exact h

theorem entryOfResult_sound (addr : Nat) (result : Byte) : EntrySound (entryOfResult addr result) :=
  entrySound_of_no_target (fun b hb => ⟨true, by rw [List.mem_singleton.mp hb]; rfl⟩) rfl

/-- R179: the result's issue keeps the intake unit sound. -/
theorem resultStep_parts (h : IntakeParts s) : IntakeParts (resultStep s) := by
  unfold resultStep
  split
  · next r _ =>
    have before := h.of_other (onDirectives_touches s fun d => { d with inProgress := some ⟨some r, true⟩ })
    rw [offerEntry_eq rfl]
    exact issued_parts before rfl rfl rfl rfl rfl rfl (entryOfResult_sound _ _)
  · exact h

end Sys2Proof.Proofs
end

section
/-! SUPPORT. A reset and start-up leave the intake unit empty, and every move keeps it sound (R13, R14, R16). -/

namespace Sys2Proof.Proofs

open Sys2Proof Sys2Proof.Machine Sys2Proof.Laws

variable {c : Instr} {s t : State} {fs : List Field}

/-! ### The intake unit at rest (R13, R14) -/

/-- Nothing stands for a slot. -/
structure IntakeIdle (s : State) : Prop where
  holds     : s.intake.holds = []
  queue     : s.engine.queue = []
  work      : s.engine.work = none
  kinds     : slotKinds s.path = []
  noneWaits : (s.path.waiting.filter fun e => isWriteBack e.kind) = []

/-- Where no slot is busy and nothing stands for one the intake unit is sound. -/
theorem IntakeIdle.parts (h : IntakeIdle t) (tables : TablesSound t)
    (states : ∀ w slot, ∀ st ∈ busyStates, slotState t w slot ≠ some st) (entries : EntriesSound t.path) :
    IntakeParts t := by
  obtain ⟨holds, queue, work, kinds, noneWaits⟩ := h
  have noHeld : heldSlots t = [] := by rw [heldSlots, holds, List.map_nil]
  have noWork : workSlot t = none := by rw [workSlot, work, Option.map_none]
  refine ⟨tables, fun k hk => ?_, ⟨noHeld ▸ List.nodup_nil, queue ▸ List.nodup_nil, ?_, fun w slot => ?_⟩,
    ⟨fun r hr => ?_, by simp [noneWaits], by simp [noneWaits]⟩, entries⟩
  · rw [holds] at hk
    cases hk
  · rw [writtenSlots, kinds]
    exact List.nodup_nil
  · have filling := states w slot .filling (by decide)
    have queued := states w slot .queued (by decide)
    have working := states w slot .working (by decide)
    have writing := states w slot .writing (by decide)
    exact ⟨by simp [noHeld, filling, queued, working, kinds], by simp [queue, queued], by simp [noWork, working],
      by simp [kinds, writing]⟩
  · rw [work] at hr
    cases hr

/-- R13: before start-up has ended nothing stands for a slot. -/
theorem idle_of_closed (h : IntakeParts s) (closed : s.phase ≠ .running) : IntakeIdle s := by
  obtain ⟨tables, -, served, issues, -⟩ := h
  have absent (w slot : Nat) : slotState s w slot = none := by simp [slotState, tables.closed closed w]
  have noWork : s.engine.work = none := by
    cases work : s.engine.work with
    | none => rfl
    | some r =>
      have := (served.slots r.window r.slot).working.mpr (by rw [workSlot, work]; rfl)
      simp [absent] at this
  refine ⟨List.eq_nil_iff_forall_not_mem.mpr fun k hk => ?_, List.eq_nil_iff_forall_not_mem.mpr fun e he => ?_, noWork,
    List.eq_nil_iff_forall_not_mem.mpr fun k hk => ?_, issues.noneWaits noWork⟩
  · obtain ⟨st, -, state⟩ := held_busy served hk
    simp [absent] at state
  · have := (served.slots e.window e.slot).queued.mp he
    simp [absent] at this
  · have slotKind : isSlotKind k = true := (List.mem_filter.mp hk).2
    obtain ⟨⟨w, slot⟩, target⟩ := Option.isSome_iff_exists.mp slotKind
    have := (served.slots w slot).writing.mpr (mem_targets.mp (List.mem_filterMap.mpr ⟨k, hk, target⟩))
    simp [absent] at this

/-- R14, R15: a reset leaves the intake unit empty. -/
theorem resetPart_parts (ph : Phase) (cause : ResetCause) (s : State) :
    IntakeParts (resetPart ph cause s) := by
  have empty (w : Nat) : windowSlots (resetPart ph cause s) w = WindowSlots.none := by
    change (List.replicate 4 WindowSlots.none).getD w WindowSlots.none = _
    rw [List.getD_eq_getElem?_getD, List.getElem?_replicate]
    split <;> rfl
  have idle : IntakeIdle (resetPart ph cause s) := ⟨rfl, rfl, rfl, rfl, rfl⟩
  refine idle.parts ⟨fun _ w => by rw [empty]; rfl, fun w => ?_, rfl, fun w => by rw [empty]; exact ringSound_none⟩
    (fun w slot st _ => ?_) ⟨(fun b hb => nomatch hb), (fun f hf => nomatch hf)⟩
  · change 0 < ((List.replicate 4 IntakeWindow.disabled).getD w IntakeWindow.disabled).slotSize
    rw [List.getD_eq_getElem?_getD, List.getElem?_replicate]
    split <;> decide
  · simp [slotState, empty, WindowSlots.none]

/-- R15: at the end of start-up every slot of an enabled window is FREE. -/
theorem startSlots_free {w : IntakeWindow} {slot : Nat} {st : SlotState} (h : (startSlots w).slots[slot]? = some st) :
    st = .free := by
  unfold startSlots at h
  dsimp only at h
  split at h
  · exact (List.eq_of_mem_replicate (List.mem_of_getElem? h))
  · cases h

theorem startSlots_ring {w : IntakeWindow} (legal : WindowLegal w) : RingSound (startSlots w) := by
  refine ⟨?_, by simp [startSlots], fun slot _ => iff_of_false (fun h => ?_) (by simp [startSlots])⟩
  · have count := legal.count
    unfold startSlots
    dsimp only
    split
    · rw [List.length_replicate]
      exact List.mem_cons_of_mem _ count
    · decide
  · cases startSlots_free h

/-- R15, R193: start-up ends with an empty intake unit. -/
theorem startBlocks_parts (h : IntakeParts s) (closed : s.phase ≠ .running) : IntakeParts (startBlocks s) := by
  obtain ⟨-, queue, work, kinds, noneWaits⟩ := idle_of_closed h closed
  have legal := imageSettings_mapLegal s.nv
  have idle : IntakeIdle (startBlocks s) := ⟨rfl, queue, work, kinds, noneWaits⟩
  have started : ∀ t ∈ (startBlocks s).intake.windows, ∃ w ∈ (imageSettings s.nv).map.intake, t = startSlots w := by
    intro t ht
    obtain ⟨w, hw, rfl⟩ := List.mem_map.mp ht
    exact ⟨w, hw, rfl⟩
  have rings : ∀ t ∈ (startBlocks s).intake.windows, RingSound t := fun t ht => by
    obtain ⟨w, hw, rfl⟩ := started t ht
    exact startSlots_ring (legal.windows w hw)
  have states : ∀ t ∈ (startBlocks s).intake.windows, ∀ slot : Nat, ∀ st ∈ busyStates, t.slots[slot]? ≠ some st :=
    fun t ht slot st live state => by
      obtain ⟨w, -, rfl⟩ := started t ht
      exact (busy_ne live).2.2 (startSlots_free state)
  refine idle.parts ⟨fun open_ => absurd rfl open_, fun w => ?_, (List.length_map _).trans legal.four,
    (windows_forall ringSound_none _).mp rings⟩
    ((windows_forall (P := fun t => ∀ slot : Nat, ∀ st ∈ busyStates, t.slots[slot]? ≠ some st)
      (fun slot st _ => by simp [WindowSlots.none]) _).mp states) h.entries
  change 0 < ((imageSettings s.nv).map.intake.getD w IntakeWindow.disabled).slotSize
  rw [List.getD_eq_getElem?_getD]
  cases found : (imageSettings s.nv).map.intake[w]? with
  | none => decide
  | some x =>
    obtain size | size := (legal.windows x (List.mem_of_getElem? found)).slotSize <;>
      simp [size]

/-! ### Steps of the path front -/

/-- R4, R7: what passes through joins the stream. -/
theorem PathCarried.streamed {p : PathFront} {bursts : List Burst} (through : ∀ b ∈ bursts, b.origin = .passThrough) :
    PathCarried p { p with stream := p.stream ++ bursts } :=
  ⟨.refl _, rfl, fun b hb => (List.mem_append.mp hb).imp_right (through b), fun _ => .inl⟩

theorem PathCarried.trans {p q r : PathFront} (h : PathCarried p q) (k : PathCarried q r) : PathCarried p r :=
  ⟨k.kinds.trans h.kinds, k.writeBacks.trans h.writeBacks,
    fun b hb => (k.stream b hb).elim (h.stream b) .inr, fun e he => (k.entries e he).elim (h.entries e) .inr⟩

theorem burstOfRun_passThrough (runs : List ForwardRun) : ∀ b ∈ runs.map burstOfRun, b.origin = .passThrough :=
  fun b hb => by
    obtain ⟨r, -, rfl⟩ := List.mem_map.mp hb
    rfl

theorem placeWrite_carried (map : WindowMap) (addr : BitVec 40) (beats : List Beat) (refused : Bool) (p : PathFront) :
    PathCarried p (placeWrite map addr beats refused p) :=
  (PathCarried.streamed (burstOfRun_passThrough (forwardRunsOf (classBeats map addr 0 beats)))).trans .of_eq

theorem acceptRead_parts (h : IntakeParts s) (addr : BitVec 40) (length : Nat) :
    IntakeParts (acceptRead addr length s) := by
  have read : PathCarried s.path
      { s.path with stream := s.path.stream ++ [⟨.passThrough, addr.toNat, .read length⟩] } :=
    .streamed fun b hb => by rw [List.mem_singleton.mp hb]
  exact h.of_touches (onPath_touches s _) (read.trans .of_eq)

/-- R178: a shown index word keeps the intake unit sound. -/
theorem indexStep_parts (h : IntakeParts s) : IntakeParts (indexStep s) := by
  unfold indexStep
  split
  · next rest _ =>
    have shown : IntakeParts (onPath (fun p => { p with shownDirectives := rest }) s) :=
      h.of_touches (onPath_touches s _) .of_eq
    split
    · dsimp only
      split
      · exact shown.of_other (onDirectives_touches _ _)
      · exact shown
    · exact h
  · exact h

/-- R177: a shown slot beat keeps the intake unit sound. -/
theorem captureStep_parts (h : IntakeParts s) : IntakeParts (captureStep s) := by
  unfold captureStep
  split
  · next rest _ =>
    have shown : IntakeParts (onPath (fun p => { p with shownDirectives := rest }) s) :=
      h.of_touches (onPath_touches s _) .of_eq
    split
    · exact h
    · exact shown.of_other (onDirectives_touches _ _)
  · exact h

theorem statusAckStep_parts (h : IntakeParts s) : IntakeParts (statusAckStep s) := by
  unfold statusAckStep
  split
  · next taken =>
    exact (takeAck_parts h taken fun k hk => by cases k <;> simp [isStatus, targetOf] at hk ⊢).of_other
      (onChannel_touches _ _ _)
  · exact h

theorem summaryAckStep_parts (h : IntakeParts s) : IntakeParts (summaryAckStep s) := by
  unfold summaryAckStep
  split
  · next t taken =>
    have left := takeAck_parts h taken fun k hk => by cases k <;> simp [isSummary, targetOf] at hk ⊢
    split
    · exact (((left.of_other (onTotals_touches _ _)).of_other (onChannel_touches _ _ _)).of_other
        (storeFaultUnless_touches _ _)).of_other (giveResult_touches _ _)
    · exact left
  · exact h

theorem resultAckStep_parts (h : IntakeParts s) : IntakeParts (resultAckStep s) := by
  unfold resultAckStep
  split
  · next taken =>
    have left := takeAck_parts h taken fun k hk => by cases k <;> simp [isResult, targetOf] at hk ⊢
    exact ((left.of_other (onDirectives_touches _ _)).of_other (onChannel_touches _ _ _)).of_other
      (storeFaultUnless_touches _ _)
  · exact h

/-! ### Every move -/

/-- Every move keeps the intake unit sound. -/
theorem Move.intakeParts (move : Move c fs s t) (h : IntakeParts s) : IntakeParts t := by
  have kept := move.touches
  cases move with
  | addLongest p => exact addLongestWaiting_parts h p
  | expire => exact expireNext_parts h
  | gap => exact fillGap_parts h _
  | report => exact reportChannel_parts h _
  | take => exact takeNext_parts h
  | summary => exact summaryStep_parts h
  | result => exact resultStep_parts h
  | offer => exact h.of_touches kept .of_eq
  | slotWrite sw => exact takeSlotWrite_parts h sw
  | write => exact h.of_touches kept (placeWrite_carried _ _ _ _ _)
  | read addr length => exact acceptRead_parts h addr length
  | left => exact h.of_touches kept .of_eq
  | grant => exact h.of_touches kept (.grantOne h.entries)
  | discard =>
    refine h.of_touches kept ?_
    rw [(abandonedMemory_touches _ _ _).path (by decide)]
    exact .of_eq
  | answer _ waits =>
    refine h.of_touches kept ?_
    rw [(answerMemory_touches _ _ _).path (by decide)]
    exact .answerPath waits _ _ _
  | returnWord => exact returnStep_parts h
  | index => exact indexStep_parts h
  | capture => exact captureStep_parts h
  | writeBackAck => exact writeBackAckStep_parts h
  | voidAck => exact voidAckStep_parts h
  | statusAck => exact statusAckStep_parts h
  | summaryAck => exact summaryAckStep_parts h
  | resultAck => exact resultAckStep_parts h
  | stage => exact h.of_record (stageStep_place s) (stageStep_follows s) kept
  | writeBack => exact issueWriteBack_parts h
  | sweep => exact sweepStep_parts h
  | frame bytes => exact h.of_record (takeFrame_place bytes s) (takeFrame_follows bytes s) kept
  | storeEnd => exact h.of_record (endStoreWrite_place _ s) (endStoreWrite_follows _ s) kept
  | reset => exact resetPart_parts _ _ s
  | release _ held =>
    have closed := h.tables.closed (by simp [held])
    obtain ⟨⟨-, sizes, four, rings⟩, index, ⟨oneHold, oneEntry, oneWrite, slots⟩, issues, entries⟩ := h
    exact ⟨⟨fun _ => closed, sizes, four, rings⟩, index, ⟨oneHold, oneEntry, oneWrite, fun w slot =>
      (slots w slot).of_sameAt ⟨fun _ _ => .rfl, .rfl, .rfl, .rfl, fun _ _ => .rfl⟩⟩, issues.congr rfl rfl, entries⟩
  | start _ starting => exact startBlocks_parts h (by simp [starting])
  | _ => exact h.of_other kept

/-- Settles O58: every move keeps each part of the invariant, given the whole of it before. -/
theorem intakeStaysSound : Obligations.IntakeStaysSound := by
  intro s t start run
  refine step_keeps (inv := IntakeSound) (fun c fs s t move sound => ?_) (fun s rest sound => ?_) run start
  · exact intakeSound_iff.mpr (move.intakeParts (intakeSound_iff.mp sound))
  · obtain ⟨closed, sizes, windows, rings, oneHold, holds, index, queued, working, writing, output, waits, stream,
      entries⟩ := sound
    exact ⟨closed, sizes, windows, rings, oneHold, holds, index, queued, working, writing, output, waits, stream,
      entries⟩

end Sys2Proof.Proofs
end

section
/-! SUPPORT. The bytes and the header of a hold (R21, R23, R24). -/

namespace Sys2Proof.Proofs

open Sys2Proof Sys2Proof.Machine Sys2Proof.Laws

/-! ### Strobed bytes (R21) -/

/-- Bytes put at places from an offset on: each place that is named reads its own byte. -/
theorem foldl_updAt_getElem? (places : List Nat) (offset : Nat) (byte : Nat → Byte) (l : List (Option Byte)) (i : Nat) :
    (places.foldl (fun l k => updAt l (offset + k) fun _ => some (byte k)) l)[i]? =
      if ∃ k ∈ places, offset + k = i then l[i]?.map fun _ => some (byte (i - offset)) else l[i]? := by
  induction places generalizing l with
  | nil => simp
  | cons k places ih =>
    rw [List.foldl_cons, ih, updAt_getElem?]
    by_cases here : offset + k = i
    · have byteAt : byte (i - offset) = byte k := by rw [← here, Nat.add_sub_cancel_left]
      have named : ∃ j ∈ k :: places, offset + j = i := ⟨k, List.mem_cons_self, here⟩
      rw [if_pos here, if_pos named, byteAt, Option.map_map]
      split <;> rfl
    · have rest : (∃ j ∈ k :: places, offset + j = i) ↔ ∃ j ∈ places, offset + j = i := by
        simp [here]
      rw [if_neg here]
      simp only [rest]

/-- The bytes that a beat at an offset puts into a list. -/
theorem foldl_beatCells (bytes : List (Option Byte)) (offset : Nat) (b : Beat) :
    (beatCells offset b).foldl (fun l c => updAt l c.1 fun _ => some c.2) bytes =
      ((List.range 8).filter (beatStrobe b)).foldl
        (fun l k => updAt l (offset + k) fun _ => some (beatByte b k)) bytes := by
  rw [beatCells, List.foldl_map]

/-- A place from an offset on is that of a strobed byte of the beat. -/
theorem strobed_place (b : Beat) (offset i : Nat) : (∃ k ∈ (List.range 8).filter (beatStrobe b), offset + k = i) ↔
    offset ≤ i ∧ i < offset + 8 ∧ beatStrobe b (i - offset) = true := by
  simp only [List.mem_filter, List.mem_range]
  constructor
  · rintro ⟨k, ⟨small, strobed⟩, rfl⟩
    exact ⟨by omega, by omega, by rwa [Nat.add_sub_cancel_left]⟩
  · rintro ⟨low, high, strobed⟩
    exact ⟨i - offset, ⟨by omega, strobed⟩, by omega⟩

/-- R21: merging a beat writes its strobed bytes alone. -/
theorem mergeBeat_getElem? (bytes : List (Option Byte)) (offset : Nat) (b : Beat) {i : Nat}
    (inside : i < bytes.length) :
    (mergeBeat bytes (offset, b))[i]? =
      if offset ≤ i ∧ i < offset + 8 ∧ beatStrobe b (i - offset) = true then some (some (beatByte b (i - offset)))
      else bytes[i]? := by
  rw [mergeBeat, foldl_beatCells, foldl_updAt_getElem?, List.getElem?_eq_getElem inside, Option.map_some]
  simp only [strobed_place]

/-! ### The header (R23 to R25) -/

/-- R23, R25: the first bytes of a hold are written when each of them is. -/
theorem heldThrough_iff {h : Hold} {n : Nat} :
    heldThrough h n = true ↔ ∀ i < n, (h.bytes.getD i none).isSome = true := by
  simp only [heldThrough, Bool.and_eq_true, List.all_eq_true, decide_eq_true_eq]
  constructor
  · rintro ⟨all, long⟩ i lt
    have inside : i < h.bytes.length := by omega
    rw [List.getD_eq_getElem _ _ inside]
    exact all _ (List.mem_take_iff_getElem.mpr ⟨i, by omega, rfl⟩)
  · intro each
    refine ⟨fun x hx => ?_, ?_⟩
    · obtain ⟨i, lt, rfl⟩ := List.mem_take_iff_getElem.mp hx
      have := each i (by omega)
      rwa [List.getD_eq_getElem _ _ (by omega)] at this
    · by_contra short
      have := each h.bytes.length (by omega)
      simp at this

theorem lengthOutOfRange_eq (size declared : Nat) :
    lengthOutOfRange size declared = !(decide (32 ≤ declared) && decide (declared ≤ size)) := by
  simp only [lengthOutOfRange, Bool.not_and, ← decide_not, Nat.not_le]

/-- Settles O10: the strobed places of a beat by `mergeBeat_getElem?`, the header by its two cases. -/
theorem holdsTakeBytesAndHeaders : Obligations.HoldsTakeBytesAndHeaders := by
  refine ⟨fun bytes offset b _ => mergeBeat_getElem? bytes offset b, fun size h => ⟨?_, fun written => ?_⟩⟩
  · rintro ⟨i, lt, missing⟩
    have short : ¬heldThrough h 32 = true := fun through => by
      have := heldThrough_iff.mp through i lt
      rw [missing] at this
      cases this
    rw [recordHeader, if_neg short]
  · rw [recordHeader, if_pos (heldThrough_iff.mpr written), lengthOutOfRange_eq]
    by_cases range : 32 ≤ heldNat h 4 2 ∧ heldNat h 4 2 ≤ size
    · simp [range]
    · have out : (!(decide (32 ≤ heldNat h 4 2) && decide (heldNat h 4 2 ≤ size))) = true := by
        simpa [-not_and, not_and_or] using range
      rw [if_neg range, if_pos out]

end Sys2Proof.Proofs
end

section
/-! SUPPORT. Expiry and gap fill in full (R26, R29, R31). -/

namespace Sys2Proof.Proofs

open Sys2Proof Sys2Proof.Machine Sys2Proof.Laws

variable {s : State}

/-! ### The order of expiry (R26, R29) -/

theorem leastBy_eq_none {α : Type} {key : α → Nat} {l : List α} : leastBy key l = none ↔ l = [] := by
  cases l with
  | nil => simp [leastBy]
  | cons a l =>
    unfold leastBy
    split
    · simp
    · split <;> simp

theorem leastBy_le {α : Type} {key : α → Nat} {l : List α} {x y : α} (h : leastBy key l = some x) (hy : y ∈ l) :
    key x ≤ key y := by
  induction l generalizing x with
  | nil => cases hy
  | cons a l ih =>
    unfold leastBy at h
    split at h
    · next none =>
      obtain rfl := Option.some_injective _ h
      rw [leastBy_eq_none.mp none] at hy
      rw [List.mem_singleton.mp hy]
    · next z found =>
      have rest (hl : y ∈ l) : key z ≤ key y := ih found hl
      split at h <;> obtain rfl := Option.some_injective _ h <;> rcases List.mem_cons.mp hy with rfl | hl
      · exact Nat.le_refl _
      · exact Nat.le_trans ‹_› (rest hl)
      · omega
      · exact rest hl

theorem holdExpiring_iff {h : Hold} : holdExpiring s h = true ↔
    slotState s h.window h.slot = some .filling ∧ s.settings.holdExpiry ≤ (s.sweepCount - h.openedAt).toNat := by
  simp only [holdExpiring, holdAge, Bool.and_eq_true, beq_iff_eq]
  exact and_congr_right fun _ => decide_eq_true_iff

/-- R26: the order by window, then by how far the ring index lies ahead of the consumed index. -/
theorem expiryKey_le {h k : Hold} (le : expiryKey s h ≤ expiryKey s k) : h.window < k.window ∨ (h.window = k.window ∧
    (h.ringIndex - (windowSlots s h.window).consumed).toNat ≤
      (k.ringIndex - (windowSlots s h.window).consumed).toNat) := by
  unfold expiryKey at le
  have near := (h.ringIndex - (windowSlots s h.window).consumed).isLt
  have far := (k.ringIndex - (windowSlots s k.window).consumed).isLt
  obtain before | same | behind := Nat.lt_trichotomy h.window k.window
  · exact .inl before
  · rw [← same] at le
    exact .inr ⟨same, by omega⟩
  · omega

/-- R87, R88: a take changes no hold and no serial. -/
theorem takeNext_serial (s : State) : (takeNext s).intake.serial = s.intake.serial := by
  obtain same | ⟨e, h, -, -, -, taken⟩ := takeNext_cases s
  · rw [same]
  · rw [taken]
    rfl

/-- R27, R29: what an expiry leaves, in full. -/
theorem joinQueue_eq (w slot : Nat) (expired : Bool) (s : State) : joinQueue w slot expired s = { s with
    intake :=
      { windows := updAt s.intake.windows w fun t => { t with slots := updAt t.slots slot fun _ => .queued }
        holds := s.intake.holds.map fun k =>
          if k.window = w ∧ k.slot = slot then { k with expired := expired, serial := some s.intake.serial } else k
        serial := s.intake.serial + 1 }
    engine := { s.engine with queue := s.engine.queue ++ [⟨w, slot⟩] } } := by
  have serves (k : Hold) : holdServes w slot k = true ↔ k.window = w ∧ k.slot = slot := by simp [holdServes]
  simp only [joinQueue, onHold, setSlot, onWindow, onIntake, onEngine, serves]

theorem exec_holdExpiry (s : State) : exec .holdExpiry s = .next (reportOnceSwept (expireNext s)) := rfl

/-- Settles O23: the least hold of the expiring ones, and the two cases of `expireNext`. -/
theorem holdsExpireInOrder : Obligations.HoldsExpireInOrder := by
  refine ⟨fun s v h next hv => ?_, fun s next => ⟨fun k hold expiring => ?_, ?_⟩⟩
  · obtain ⟨mem, filling, age⟩ := nextExpiring_expiring next
    refine ⟨mem, filling, age, fun k hold isFilling old => ?_, ?_⟩
    · exact expiryKey_le (leastBy_le next (List.mem_filter.mpr ⟨hold, holdExpiring_iff.mpr ⟨isFilling, old⟩⟩))
    · subst hv
      rw [exec_holdExpiry, expireNext, next]
      change Host.Outcome.next (reportOnceSwept (joinQueue h.window h.slot true (takeNext s))) = _
      rw [joinQueue_eq, takeNext_holds, takeNext_serial]
  · have none := List.filter_eq_nil_iff.mp (leastBy_eq_none.mp next) k hold
    exact none (holdExpiring_iff.mpr expiring)
  · rw [exec_holdExpiry, expireNext_of next]

/-! ### Gap fill (R31) -/

theorem gapDue_iff {w : Nat} : gapDue s w = true ↔ s.settings.holdExpiry ≤ (windowSlots s w).gapAge ∧
    (windowSlots s w).slots[slotOfIndex (windowSlots s w) (windowSlots s w).release]? = some .free := by
  simp [gapDue]

theorem updAt_updAt {α : Type} (l : List α) (i : Nat) (f g : α → α) : updAt (updAt l i f) i g = updAt l i (g ∘ f) := by
  induction l generalizing i with
  | nil => rfl
  | cons x xs ih => cases i <;> simp [updAt, ih]

/-- R31: what filling a gap leaves, in full. -/
theorem fillGap_eq {w : Nat} (due : gapDue s w = true) : fillGap w s = { s with
    intake := { s.intake with
      windows := updAt s.intake.windows w fun t => { t with
        slots := updAt t.slots (slotOfIndex (windowSlots s w) (windowSlots s w).release) fun _ => .writing
        gapAge := 0 } }
    report := updAt s.report w (countOn .expiredSkipped 1)
    path := entryIssued s.path (gapEntry s w) } := by
  unfold fillGap
  dsimp only
  rw [if_pos due, offerEntry_eq rfl]
  simp only [addCount, onChannel, onReport, setSlot, onWindow, onIntake, updAt_updAt]
  rfl

/-- Settles O24: a gap that is due by `fillGap_eq`, any other by `fillGap_of`; the command by its definition. -/
theorem gapsAreFilledWithVoidRecords : Obligations.GapsAreFilledWithVoidRecords := by
  refine ⟨fun s w t cursor ht hc => ?_, fun _ _ => rfl⟩
  subst ht hc
  refine ⟨fun age free => fillGap_eq (gapDue_iff.mpr ⟨age, free⟩), fun notDue => fillGap_of ?_⟩
  rw [Bool.eq_false_iff]
  intro due
  obtain ⟨age, free⟩ := gapDue_iff.mp due
  obtain young | busy := notDue
  · omega
  · exact busy free

end Sys2Proof.Proofs
end

section
/-! SUPPORT. What one sweep does in each block, in full (R28, R30, R78, R131, R165). -/

namespace Sys2Proof.Proofs

open Sys2Proof Sys2Proof.Machine Sys2Proof.Laws

variable {s : State}

theorem laterWork_iff (x : SlotState) :
    laterWork x = true ↔ x = .filling ∨ x = .queued ∨ x = .working ∨ x = .writing ∨ x = .done := by
  cases x <;> simp [laterWork]

/-- R30: the slot at the release cursor is FREE, and another holds later work. -/
theorem hasGap_iff (t : WindowSlots) : hasGap t = true ↔
    t.slots[t.release.toNat % t.slots.length]? = some .free ∧
      ∃ x ∈ t.slots, x = .filling ∨ x = .queued ∨ x = .working ∨ x = .writing ∨ x = .done := by
  simp only [hasGap, Bool.and_eq_true, beq_iff_eq, List.any_eq_true, laterWork_iff]
  exact Iff.rfl

theorem gapSweep_eq (t : WindowSlots) : gapSweep t = { t with
    gapAge :=
      if t.slots[t.release.toNat % t.slots.length]? = some .free ∧
        (∃ x ∈ t.slots, x = .filling ∨ x = .queued ∨ x = .working ∨ x = .writing ∨ x = .done)
      then t.gapAge + 1 else 0 } := by
  simp only [gapSweep, hasGap_iff]

theorem sweepLane_eq (threshold : Nat) (l : Lane) : sweepLane threshold l = { l with
    silence := min 255 (l.silence + 1)
    silentDue := decide (l.silence < 255 ∧ l.silence + 1 = threshold ∧ l.state = .enrolled ∧ l.latch = false) } := by
  have due : (decide (l.silence < 255) && decide (l.silence + 1 = threshold) && l.state == .enrolled && !l.latch) =
      decide (l.silence < 255 ∧ l.silence + 1 = threshold ∧ l.state = .enrolled ∧ l.latch = false) := by
    simp [Bool.and_assoc, beq_eq_decide, Bool.decide_and]
  rw [sweepLane, due]

theorem sweepOn_eq (c : Channel) : sweepOn c = { c with
    sweeps := if c.present = true ∧ c.dirty = true then min 255 (c.sweeps + 1) else c.sweeps } := by
  simp only [sweepOn, Bool.and_eq_true]
  split <;> rfl

/-- R131: the retry that a sweep requests. -/
theorem retryWrite_eq (s : State) : retryWrite s = { s with
    nv := { s.nv with
      requests := s.nv.requests ++
        if s.keys.counterStore = true ∧ keyWritePending s.nv = false then
          [.keyStore
            (if s.keys.store.current.state = .active ∧ s.keys.currentC = s.keys.store.currentMark then
              some ⟨s.keys.store.current.id, min (s.keys.store.currentMark + 256) 1048576, true, true⟩
            else none) false]
        else [] } } := by
  simp only [retryWrite, Bool.and_eq_true, Bool.not_eq_true']
  split
  · split <;> rfl
  · rw [List.append_nil]

/-- R28: a sweep in full. -/
theorem sweepStep_eq (s : State) : sweepStep s = { s with
    sweepCount := s.sweepCount + 1
    intake := { s.intake with windows := s.intake.windows.map gapSweep }
    lanes := { s.lanes with entries := s.lanes.entries.map (sweepLane s.settings.silenceThreshold) }
    report := s.report.map sweepOn
    nv := (retryWrite s).nv } := by
  rw [sweepStep, retryWrite_eq, retryWrite_eq]
  rfl

/-- Settles O22: each block's side of the sweep, and a part that does not run. -/
theorem sweepsReachEveryBlock : Obligations.SweepsReachEveryBlock := by
  refine ⟨fun s quiet running => ?_, fun s closed => ?_⟩
  · have run : exec .sweep s = .next (sweepStep s) := by
      change Host.Outcome.next (whenRunning sweepStep (settle s)) = _
      rw [settle_of quiet, whenRunning, if_pos running]
    rw [run, sweepStep_eq, retryWrite_eq, funext gapSweep_eq, funext (sweepLane_eq _), funext sweepOn_eq]
  · change Host.Outcome.next (whenRunning sweepStep (whenRunning settleSteps s)) = _
    rw [whenRunning_closed _ closed, whenRunning_closed _ closed]

end Sys2Proof.Proofs
end

section
/-! SUPPORT. What a window channel's return word leaves, in full (R39, R40, R51, R162, R172). -/

namespace Sys2Proof.Proofs

open Sys2Proof Sys2Proof.Machine Sys2Proof.Laws

variable {s : State} {ch : Nat} {b : Beat} {rest : List ShownReturn}

/-- The shown return words that are left when one is taken. -/
def withReturns (rest : List ShownReturn) (s : State) : State := onPath (fun p => { p with shownReturns := rest }) s

theorem beatFull_iff : beatFull b = true ↔ b.strobes = 255 := by simp [beatFull]

/-- R171: a shown return word is taken, and acts with all strobes set on a channel that exists. -/
theorem returnStep_shown (shown : s.path.shownReturns = ⟨ch, b⟩ :: rest) :
    returnStep s = if b.strobes = 255 ∧ (channelAt s ch).present = true then takeReturn ch b (withReturns rest s)
      else withReturns rest s := by
  unfold returnStep
  rw [shown]
  simp only [Bool.and_eq_true, beatFull_iff]
  rfl

theorem returnStep_none (shown : s.path.shownReturns = []) : returnStep s = s := by
  unfold returnStep
  rw [shown]

/-- R172: a window channel hands on the consumed index, then takes the tag. -/
theorem takeReturn_window (window : ch < 4) : takeReturn ch b s =
    onChannel ch (returnTaken (beatNat b 0 1)) (takeConsumed ch (BitVec.ofNat 16 (beatNat b 2 2)) s) := by
  have notStore : ¬ch = 4 := by omega
  simp only [takeReturn, handConsumed, notStore, if_false, false_and]

/-- R39: an accepted index frees the slots it passes. -/
theorem takeConsumed_accepted {c : BitVec 16}
    (accepted : (c - (windowSlots s ch).consumed).toNat ≤ ringSpan (windowSlots s ch)) :
    takeConsumed ch c s = onWindow ch (consumeTo c) s := if_pos (consumedAccepted_iff.mpr accepted)

/-- R40: any other index is ignored. -/
theorem takeConsumed_ignored {c : BitVec 16}
    (outside : ringSpan (windowSlots s ch) < (c - (windowSlots s ch).consumed).toNat) :
    takeConsumed ch c s = onChannel ch raiseReturnIgnored s :=
  if_neg fun accepted => by
    have := consumedAccepted_iff.mp accepted
    omega

theorem exec_returnWord (quiet : Quiet s) : exec .returnWord s = .next (reportDue (returnStep s)) :=
  congrArg Host.Outcome.next (event_of returnStep quiet)

/-- R39: the slots after an accepted index, each. -/
theorem consumeTo_slots (c : BitVec 16) (t : WindowSlots) {j : Nat} (inside : j < t.slots.length) :
    (consumeTo c t).slots[j]? =
      if ∃ k < (c - t.consumed).toNat, slotOfIndex t (t.consumed + BitVec.ofNat 16 k) = j then some .free
      else t.slots[j]? := by
  simp only [consumeTo, freeSlots_getElem?, List.getElem?_eq_getElem inside, Option.map_some]
  rfl

/-- Settles O14: an acting word by `takeConsumed_accepted` and `takeConsumed_ignored`, any other by
`returnStep_shown`. -/
theorem returnWordsFreeSlots : Obligations.ReturnWordsFreeSlots := by
  refine ⟨fun s ch b rest quiet window shown full present within four => ?_,
    fun s ch b rest quiet window shown full present outside => ?_,
    fun s ch b rest quiet shown idle => ?_, fun s quiet shown => ?_⟩
  · have step : returnStep s = onChannel ch (returnTaken (beatNat b 0 1))
        (onWindow ch (consumeTo (BitVec.ofNat 16 (beatNat b 2 2))) (withReturns rest s)) := by
      rw [returnStep_shown shown, if_pos ⟨full, present⟩, takeReturn_window window,
        takeConsumed_accepted (s := withReturns rest s) within]
    have same (w : Nat) : windowSlots (returnStep s) w =
        windowSlots (onWindow ch (consumeTo (BitVec.ofNat 16 (beatNat b 2 2))) (withReturns rest s)) w := by
      rw [step]
      rfl
    have consumed : windowSlots (returnStep s) ch =
        consumeTo (BitVec.ofNat 16 (beatNat b 2 2)) (windowSlots s ch) := by
      rw [same, windowSlots_onWindow_of_lt (four.symm ▸ window)]
      rfl
    refine ⟨returnStep s, exec_returnWord quiet, ?_, ?_, ?_, fun j inside => ?_, ?_, fun w other => ?_, ?_⟩
    · rw [consumed]
      rfl
    · rw [consumed]
      rfl
    · rw [consumed]
      rfl
    · rw [consumed]
      exact consumeTo_slots _ _ inside
    · rw [consumed]
      exact freeSlots_length _ _ _
    · rw [same, windowSlots_onWindow_ne other]
      rfl
    · rw [step]
      rfl
  · rw [exec_returnWord quiet, returnStep_shown shown, if_pos ⟨full, present⟩, takeReturn_window window,
      takeConsumed_ignored (s := withReturns rest s) outside]
    simp only [onChannel, onReport, updAt_updAt]
    rfl
  · have step : returnStep s = withReturns rest s := by
      rw [returnStep_shown shown, if_neg fun acts => ?_]
      rcases idle with clear | absent
      · exact clear acts.1
      · rw [absent] at acts
        exact absurd acts.2 (by decide)
    have kept : Touches [.path] s (returnStep s) := step ▸ onPath_touches s _
    exact congrArg Host.Outcome.next ((event_of_kept quiet kept).trans step)
  · have step : event returnStep s = s := by
      have kept : Touches [] s (returnStep s) := by
        rw [returnStep_none shown]
        exact .refl _ _
      rw [event_of_kept quiet kept, returnStep_none shown]
    exact congrArg Host.Outcome.next step

end Sys2Proof.Proofs
end

section
/-! SUPPORT. What the release rule passes, and what a slot's acknowledgement leaves, in full (R36 to R38). -/

namespace Sys2Proof.Proofs

open Sys2Proof Sys2Proof.Machine Sys2Proof.Laws

variable {s : State} {w slot : Nat}

/-! ### The release cursor (R38) -/

theorem count_done_updAt {slots : List SlotState} {i : Nat} (done : slots[i]? = some .done) :
    (updAt slots i fun _ => .released).count .done + 1 = slots.count .done := by
  induction slots generalizing i with
  | nil => cases done
  | cons x xs ih =>
    cases i with
    | zero =>
      obtain rfl : x = .done := by simpa using done
      simp [updAt]
    | succ i =>
      have rest := ih (i := i) (by simpa using done)
      simp only [updAt, List.count_cons]
      omega

theorem passCursor_slots {t : WindowSlots} (done : t.slots[slotOfIndex t t.release]? = some .done) (j : Nat) :
    (passCursor t).slots[j]? = if slotOfIndex t t.release = j then some .released else t.slots[j]? := by
  rw [passCursor]
  dsimp only
  rw [updAt_getElem?]
  split
  · next here => rw [← here, done, Option.map_some]
  · rfl

/-- The index `i` behind the cursor that has passed one slot is the index `i + 1` behind the cursor before. -/
theorem slotOfIndex_passCursor (t : WindowSlots) (i : Nat) :
    slotOfIndex (passCursor t) ((passCursor t).release + BitVec.ofNat 16 i) =
      slotOfIndex t (t.release + BitVec.ofNat 16 (i + 1)) := by
  have size : (passCursor t).slots.length = t.slots.length := updAt_length _ _ _
  have index : (passCursor t).release + BitVec.ofNat 16 i = t.release + BitVec.ofNat 16 (i + 1) := by
    change t.release + 1 + BitVec.ofNat 16 i = _
    rw [BitVec.ofNat_add]
    bv_omega
  rw [slotOfIndex, slotOfIndex, size, index]

/-- R38: nothing is passed where the cursor's slot is not DONE. -/
theorem released_none {t : WindowSlots} (stops : t.slots[slotOfIndex t t.release]? ≠ some .done) : Released t t 0 :=
  ⟨by simp, rfl, rfl, fun _ lt => absurd lt (Nat.not_lt_zero _), fun j => by simp, stops⟩

/-- R38: one slot passed, and then those behind it. -/
theorem released_pass {t u : WindowSlots} {k : Nat} (done : t.slots[slotOfIndex t t.release]? = some .done)
    (h : Released (passCursor t) u k) : Released t u (k + 1) := by
  obtain ⟨index, consumed, gapAge, passed, slots, stops⟩ := h
  simp only [slotOfIndex_passCursor] at passed slots
  have first : slotOfIndex t (t.release + BitVec.ofNat 16 0) = slotOfIndex t t.release := by simp
  refine ⟨?_, consumed, gapAge, fun i lt => ?_, fun j => ?_, stops⟩
  · rw [index]
    change t.release + 1 + BitVec.ofNat 16 k = _
    rw [BitVec.ofNat_add]
    bv_omega
  · cases i with
    | zero => rw [first, done]
    | succ i =>
      have later := passed i (by omega)
      rw [passCursor_slots done] at later
      split at later
      · cases later
      · exact later
  · have cases : (∃ i < k + 1, slotOfIndex t (t.release + BitVec.ofNat 16 i) = j) ↔
        slotOfIndex t t.release = j ∨ ∃ i < k, slotOfIndex t (t.release + BitVec.ofNat 16 (i + 1)) = j := by
      constructor
      · rintro ⟨i, lt, here⟩
        cases i with
        | zero => exact .inl (first.symm.trans here)
        | succ i => exact .inr ⟨i, by omega, here⟩
      · rintro (here | ⟨i, lt, here⟩)
        · exact ⟨0, by omega, first.trans here⟩
        · exact ⟨i + 1, by omega, here⟩
    rw [slots, passCursor_slots done]
    simp only [cases]
    by_cases later : ∃ i < k, slotOfIndex t (t.release + BitVec.ofNat 16 (i + 1)) = j
    · rw [if_pos later, if_pos (.inr later)]
    · simp only [later, if_false, or_false]

/-- R38: with fuel for every DONE slot the cursor passes those in front of it. -/
theorem releaseCursor_released (fuel : Nat) {t : WindowSlots} (enough : t.slots.count .done ≤ fuel) :
    Released t (releaseCursor fuel t).1 (releaseCursor fuel t).2 := by
  induction fuel generalizing t with
  | zero =>
    refine released_none fun done => ?_
    have := List.count_pos_iff.mpr (List.mem_of_getElem? done)
    omega
  | succ fuel ih =>
    by_cases done : t.slots[slotOfIndex t t.release]? = some .done
    · rw [releaseCursor_done fuel done]
      have left := count_done_updAt done
      have enoughLeft : (passCursor t).slots.count .done ≤ fuel := by
        change (updAt t.slots _ _).count .done ≤ fuel
        omega
      exact released_pass done (ih enoughLeft)
    · rw [releaseCursor_stops _ done]
      exact released_none done

/-! ### A slot's acknowledgement (R36, R37) -/

/-- R36, R37: how many slots the cursor passes once a slot is DONE. -/
def passedAfter (w slot : Nat) (s : State) : Nat :=
  (releaseCursor (windowSlots (setSlot w slot .done s) w).slots.length (windowSlots (setSlot w slot .done s) w)).2

theorem slotDone_eq (w slot : Nat) (okay : Bool) (s : State) : slotDone w slot okay s =
    onChannel w (fun ch => releaseTimes (passedAfter w slot s) (if okay then ch else countOn .writeFaults 1 ch))
      (onWindow w (fun t => (releaseCursor t.slots.length t).1) (setSlot w slot .done s)) := by
  cases okay with
  | true => rfl
  | false =>
    simp only [slotDone, releaseWindow, addCount, onChannel, onReport, onWindow, onIntake, Bool.false_eq_true, if_false,
      updAt_updAt]
    rfl

theorem takeFirst_append {α : Type} {p : α → Bool} {before after : List α} {x : α} (none : ∀ y ∈ before, p y = false)
    (hit : p x = true) : takeFirst p (before ++ x :: after) = some (x, before ++ after) := by
  induction before with
  | nil => simp [takeFirst, hit]
  | cons y before ih =>
    have miss : p y = false := none y List.mem_cons_self
    have rest := ih fun z hz => none z (List.mem_cons_of_mem _ hz)
    simp [takeFirst, miss, rest]

/-- R11: the oldest acknowledgement of a kind is taken. -/
theorem takeAck_append {p : EntryKind → Bool} {before after : List Ack} {a : Ack}
    (acks : s.path.acks = before ++ a :: after) (none : ∀ y ∈ before, p y.kind = false) (hit : p a.kind = true) :
    takeAck p s = some (a, withAcks (before ++ after) s) := by
  rw [takeAck, acks, takeFirst_append (p := fun a : Ack => p a.kind) none hit]
  rfl

/-- R36 to R38: what an acknowledgement leaves of the windows. -/
theorem slotDone_windows (inside : w < s.intake.windows.length) (okay : Bool) :
    Released { windowSlots s w with slots := updAt (windowSlots s w).slots slot fun _ => .done }
        (windowSlots (slotDone w slot okay s) w) (passedAfter w slot s) ∧
      ∀ v ≠ w, windowSlots (slotDone w slot okay s) v = windowSlots s v := by
  have same (v : Nat) : windowSlots (slotDone w slot okay s) v =
      windowSlots (onWindow w (fun t => (releaseCursor t.slots.length t).1) (setSlot w slot .done s)) v := by
    rw [slotDone_eq]
    rfl
  have done : windowSlots (setSlot w slot .done s) w =
      { windowSlots s w with slots := updAt (windowSlots s w).slots slot fun _ => .done } :=
    windowSlots_onWindow_of_lt inside _
  refine ⟨?_, fun v other => ?_⟩
  · rw [same, windowSlots_onWindow_of_lt ((onWindow_windows_length _ _ _).symm ▸ inside), passedAfter, done]
    exact releaseCursor_released _ List.count_le_length
  · rw [same, windowSlots_onWindow_ne other]
    exact windowSlots_onWindow_ne other s _

/-- R36: the write-back's acknowledgement frees the hold. -/
theorem writeBackAckStep_append {okay : Bool} {before after : List Ack}
    (acks : s.path.acks = before ++ ⟨.writeBack w slot, okay⟩ :: after)
    (none : ∀ a ∈ before, isWriteBack a.kind = false) :
    writeBackAckStep s = slotDone w slot okay (freeHold w slot (withAcks (before ++ after) s)) := by
  rw [writeBackAckStep, takeAck_append acks none rfl]

/-- R37: the void record's acknowledgement frees no hold. -/
theorem voidAckStep_append {okay : Bool} {before after : List Ack}
    (acks : s.path.acks = before ++ ⟨.voidRecord w slot, okay⟩ :: after) (none : ∀ a ∈ before, isVoid a.kind = false) :
    voidAckStep s = slotDone w slot okay (withAcks (before ++ after) s) := by
  rw [voidAckStep, takeAck_append acks none rfl]

/-- Settles O17: the two acknowledgements are `slotDone` of their slot, which `slotDone_eq` and
`slotDone_windows` give. -/
theorem slotAcknowledgementsRelease : Obligations.SlotAcknowledgementsRelease := by
  rintro s c kind w slot okay before after quiet acks own inside
  obtain ⟨rfl, rfl, none⟩ | ⟨rfl, rfl, none⟩ := own
  · obtain ⟨released, others⟩ := slotDone_windows (s := freeHold w slot (withAcks (before ++ after) s)) (slot := slot)
      inside okay
    have step := writeBackAckStep_append acks none
    refine ⟨writeBackAckStep s, _, congrArg Host.Outcome.next (event_of _ quiet), step ▸ released, step ▸ others,
      ?_, ?_, ?_⟩ <;>
      (rw [step, slotDone_eq]; rfl)
  · obtain ⟨released, others⟩ := slotDone_windows (s := withAcks (before ++ after) s) (slot := slot) inside okay
    have step := voidAckStep_append acks none
    refine ⟨voidAckStep s, _, congrArg Host.Outcome.next (event_of _ quiet), step ▸ released, step ▸ others,
      ?_, ?_, ?_⟩ <;>
      (rw [step, slotDone_eq]; rfl)

end Sys2Proof.Proofs
end

section
/-! SUPPORT. A write with beats for one slot alone at an open port, and the slot writes that are refused (R5, R6,
R19, R22). -/

namespace Sys2Proof.Proofs

open Sys2Proof Sys2Proof.Machine Sys2Proof.Laws

variable {s : State} {f : PathFront → PathFront} {w slot : Nat}

/-! ### What leaves the issue tests alone -/

theorem onPath_congr {g : PathFront → PathFront} (h : f s.path = g s.path) : onPath f s = onPath g s := by
  unfold onPath
  rw [h]

theorem onPath_comp (f g : PathFront → PathFront) (s : State) : onPath g (onPath f s) = onPath (g ∘ f) s := rfl

/-- An update of the path front that does not look at the entries of the internal write queue, and keeps them. -/
def LeavesQueues (f : PathFront → PathFront) : Prop :=
  ∀ (p : PathFront) (queue waiting : List Entry),
    f { p with queue := queue, waiting := waiting } = { f p with queue := queue, waiting := waiting }

theorem LeavesQueues.comp {g : PathFront → PathFront} (hg : LeavesQueues g) (hf : LeavesQueues f) :
    LeavesQueues (g ∘ f) := fun p queue waiting => by
  rw [Function.comp, hf, hg]
  rfl

theorem LeavesQueues.kept (h : LeavesQueues f) (p : PathFront) :
    (f p).queue = p.queue ∧ (f p).waiting = p.waiting := by
  have same : f p = { f p with queue := p.queue, waiting := p.waiting } := h p p.queue p.waiting
  exact ⟨by rw [same], by rw [same]⟩

theorem entryIssued_leavesQueues (h : LeavesQueues f) (p : PathFront) (e : Entry) :
    entryIssued (f p) e = f (entryIssued p e) := by
  obtain ⟨queue, waiting⟩ := h.kept p
  unfold entryIssued
  rw [queue, waiting]
  split
  · exact (h p (p.queue ++ [e]) p.waiting ▸ waiting ▸ rfl)
  · exact (h p p.queue (p.waiting ++ [e]) ▸ queue ▸ rfl)

theorem reportChannel_onPath (h : LeavesQueues f) (ch : Nat) (s : State) :
    reportChannel ch (onPath f s) = onPath f (reportChannel ch s) := by
  have issued (u : State) (e : Entry) (other : isWriteBack e.kind = false) :
      offerEntry e (onPath f u) = onPath f (offerEntry e u) := by
    rw [offerEntry_eq other, offerEntry_eq other]
    change { u with path := entryIssued (f u.path) e } = { u with path := f (entryIssued u.path e) }
    rw [entryIssued_leavesQueues h]
  have heard : reportLanes ch (onChannel ch contentTaken (onPath f s)) =
      onPath f (reportLanes ch (onChannel ch contentTaken s)) := by
    unfold reportLanes
    split <;> rfl
  have status : issueStatus ch (onPath f s) = onPath f (issueStatus ch s) := by
    rw [issueStatus, heard, issued _ _ rfl]
    rfl
  unfold reportChannel
  rw [status, apply_ite (onPath f)]
  rfl

theorem forBelow_onPath {g : Nat → State → State} (h : ∀ i s, g i (onPath f s) = onPath f (g i s)) (n : Nat)
    (s : State) : forBelow n g (onPath f s) = onPath f (forBelow n g s) := by
  induction n with
  | zero => rfl
  | succ n ih => rw [forBelow_succ, forBelow_succ, ih, h]

/-- R166: the issue tests do not look at the rest of the path front. -/
theorem reportDue_onPath (h : LeavesQueues f) (s : State) : reportDue (onPath f s) = onPath f (reportDue s) := by
  have tests := forBelow_onPath (reportChannel_onPath h) 5 s
  unfold reportDue whenRunning
  rw [tests, apply_ite (onPath f)]
  rfl

/-! ### Slot writes do not look at the path front -/

theorem takeNext_onPath (f : PathFront → PathFront) (s : State) : takeNext (onPath f s) = onPath f (takeNext s) := by
  have next : nextEntry (onPath f s) = nextEntry s := rfl
  have hold (w slot : Nat) : holdOf (onPath f s) w slot = holdOf s w slot := rfl
  unfold takeNext
  simp only [onPath_engine, next, hold]
  split
  · split <;> rfl
  · rfl

theorem completionTest_onPath (f : PathFront → PathFront) (w slot : Nat) (s : State) :
    completionTest w slot (onPath f s) = onPath f (completionTest w slot s) := by
  have hold : holdOf (onPath f s) w slot = holdOf s w slot := rfl
  have queued : queueSlot w slot false (onPath f s) = onPath f (queueSlot w slot false s) := by
    rw [queueSlot, takeNext_onPath]
    rfl
  unfold completionTest
  rw [hold, queued]
  split
  · exact (apply_ite (onPath f) _ _ _).symm
  · rfl

theorem takeSlotWrite_onPath (f : PathFront → PathFront) (sw : SlotWrite) (s : State) :
    takeSlotWrite sw (onPath f s) = onPath f (takeSlotWrite sw s) := by
  have refusal : slotRefusal (onPath f s) sw.window sw.slot = slotRefusal s sw.window sw.slot := rfl
  have state : slotState (onPath f s) sw.window sw.slot = slotState s sw.window sw.slot := rfl
  have opened : ensureHold sw.window sw.slot (onPath f s) = onPath f (ensureHold sw.window sw.slot s) := by
    unfold ensureHold
    rw [state]
    split <;> rfl
  have merged : mergeSlotWrite sw (onPath f s) = onPath f (mergeSlotWrite sw s) := by
    unfold mergeSlotWrite
    rw [opened, ← completionTest_onPath]
    rfl
  unfold takeSlotWrite
  rw [refusal, merged]
  split <;> rfl

/-! ### A write for one slot alone (R5, R6) -/

/-- R19: an intake beat with its offset in its slot. -/
def slotBeat (c : ClassedBeat) : Option (Nat × Beat) :=
  match c.cls with
  | .intake _ _ offset => some (offset, c.beat)
  | _ => none

theorem intakeBeats_eq (map : WindowMap) (addr : BitVec 40) (beats : List Beat) :
    intakeBeats map addr beats = (classBeats map addr 0 beats).filterMap slotBeat := rfl

/-- R19: beats for one slot alone make one slot write, and no run. -/
theorem slotWritesOf_one {cs : List ClassedBeat} (nonempty : cs ≠ [])
    (own : ∀ c ∈ cs, ∃ offset, c.cls = .intake w slot offset) :
    forwardRunsOf cs = [] ∧ slotWritesOf cs = [⟨w, slot, cs.filterMap slotBeat⟩] := by
  induction cs with
  | nil => exact absurd rfl nonempty
  | cons c cs ih =>
    obtain ⟨offset, cls⟩ := own c List.mem_cons_self
    cases cs with
    | nil => simp [forwardRunsOf, slotWritesOf, cls, joinSlotWrite, slotBeat]
    | cons d ds =>
      obtain ⟨runs, writes⟩ := ih (List.cons_ne_nil d ds) fun x hx => own x (List.mem_cons_of_mem _ hx)
      rw [forwardRunsOf, slotWritesOf, runs, writes]
      simp [cls, joinSlotWrite, slotBeat]

/-- The path front once a write for one slot alone is answered, with no transaction waiting. -/
def slotWriteAnswered (refused : Bool) (p : PathFront) : PathFront :=
  { p with responses := p.responses ++ [⟨false, !refused, []⟩] }

/-- R6: with no transaction waiting the write's response is sent at once. -/
theorem placeWrite_alone {map : WindowMap} {addr : BitVec 40} {beats : List Beat}
    (noRun : forwardRunsOf (classBeats map addr 0 beats) = []) (refused : Bool) {p : PathFront}
    (alone : p.accepted = []) : placeWrite map addr beats refused p = slotWriteAnswered refused p := by
  unfold placeWrite respond
  simp [noRun, alone, sendResponses, responseOf, slotWriteAnswered]

theorem placeWrite_leavesQueues (map : WindowMap) (addr : BitVec 40) (beats : List Beat) (refused : Bool) :
    LeavesQueues (placeWrite map addr beats refused) := fun _ _ _ => rfl

/-- R5, R6, R166: a write for one slot alone at an open port, with no transaction waiting: its slot write is taken, its
response sent, and the issue tests are made. -/
theorem exec_slotOnly (ready : Ready s) (alone : s.path.accepted = []) {addr : BitVec 40} {beats : List Beat}
    (only : SlotOnly s addr beats w slot) {sw : SlotWrite}
    (hsw : sw = ⟨w, slot, intakeBeats s.settings.map addr beats⟩) :
    exec (.upstreamWrite addr beats) s = .next (reportDue
      (onPath (slotWriteAnswered (slotRefusal s w slot).isSome) (takeSlotWrite sw s))) := by
  obtain ⟨noRun, oneWrite⟩ := slotWritesOf_one only.some_ only.all_
  have one : slotWritesOf (classBeats s.settings.map addr 0 beats) = [sw] := by rw [oneWrite, hsw, intakeBeats_eq]
  refine congrArg Host.Outcome.next ((exec_offer ready.quiet _).trans ?_)
  have place := placeWrite_leavesQueues s.settings.map addr beats (slotRefusal s w slot).isSome
  have offer : LeavesQueues fun p => { p with offered := p.offered ++ [.write addr beats] } := fun _ _ _ => rfl
  have accepted : acceptOne (.write addr beats) (offerUpstream (.write addr beats) s) =
      onPath (placeWrite s.settings.map addr beats (slotRefusal s w slot).isSome)
        (reportDue (takeSlotWrite sw (offerUpstream (.write addr beats) s))) := by
    change acceptWrite addr beats _ = _
    rw [acceptWrite_eq]
    change onPath (placeWrite s.settings.map addr beats
      (takeSlotWrites (slotWritesOf (classBeats s.settings.map addr 0 beats)) _).2) (takeSlotWrites
        (slotWritesOf (classBeats s.settings.map addr 0 beats)) _).1 = _
    rw [one, hsw]
    simp only [takeSlotWrites, Bool.or_false]
    rfl
  have path : (takeSlotWrite sw s).path = s.path := (takeSlotWrite_touches s sw).path (by decide)
  rw [acceptOffered_ready ready, accepted, offerUpstream, takeSlotWrite_onPath, reportDue_onPath offer,
    ← reportDue_onPath offer, ← reportDue_onPath place, ← reportDue_onPath (f := fun p => { p with offered := [] })
      fun _ _ _ => rfl, reportDue_idem]
  rw [onPath_comp, onPath_comp]
  refine congrArg reportDue (onPath_congr ?_)
  simp only [Function.comp, path]
  rw [placeWrite_alone (p := { s.path with offered := s.path.offered ++ [.write addr beats] }) noRun _ alone]
  simp only [slotWriteAnswered, ready.offered]

/-! ### Refusals (R19, R22) -/

theorem slotRefusal_collision (state : slotState s w slot = some .queued ∨ slotState s w slot = some .working ∨
    slotState s w slot = some .writing) : slotRefusal s w slot = some .collision := by
  obtain state | state | state := state <;> simp [slotRefusal, state]

theorem slotRefusal_overrun (state : slotState s w slot = some .done ∨ slotState s w slot = some .released) :
    slotRefusal s w slot = some .overrun := by
  obtain state | state := state <;> simp [slotRefusal, state]

theorem slotRefusal_exhausted (free : slotState s w slot = some .free) (full : 16 ≤ s.intake.holds.length) :
    slotRefusal s w slot = some .exhausted := by
  simp [slotRefusal, free, Nat.not_lt.mpr full]

theorem takeSlotWrite_refused {sw : SlotWrite} {id : CountId} (refusal : slotRefusal s sw.window sw.slot = some id) :
    takeSlotWrite sw s = addCount sw.window id sw.beats.length s := by
  unfold takeSlotWrite
  rw [refusal]

/-- Settles O8: each state's refusal, and the write of one slot by `exec_slotOnly`. -/
theorem refusedBeatsAreCounted : Obligations.RefusedBeatsAreCounted := by
  refine ⟨fun s sw id state => ?_, fun s addr beats w slot id ready alone only refusal => ?_⟩
  · have refusal : slotRefusal s sw.window sw.slot = some id := by
      obtain ⟨busy, rfl⟩ | ⟨late, rfl⟩ | ⟨free, full, rfl⟩ := state
      · exact slotRefusal_collision busy
      · exact slotRefusal_overrun late
      · exact slotRefusal_exhausted free full
    exact ⟨refusal, takeSlotWrite_refused refusal⟩
  · rw [exec_slotOnly ready alone only rfl, takeSlotWrite_refused refusal, refusal]
    rfl

end Sys2Proof.Proofs
end

section
/-! SUPPORT. What a taken slot write leaves of its slot, its hold, the engine and every other slot and hold (R19 to R27,
R87). -/

namespace Sys2Proof.Proofs

open Sys2Proof Sys2Proof.Machine Sys2Proof.Laws

variable {s t : State} {w slot : Nat}

/-! ### The numbers of a window (R15) -/

/-- From `t` to `u` a window keeps its release index, its consumed index and its gap age. -/
structure NumbersKept (t u : WindowSlots) : Prop where
  release  : u.release = t.release
  consumed : u.consumed = t.consumed
  gapAge   : u.gapAge = t.gapAge

theorem NumbersKept.refl (t : WindowSlots) : NumbersKept t t := ⟨rfl, rfl, rfl⟩

theorem NumbersKept.trans {t u v : WindowSlots} (h : NumbersKept t u) (k : NumbersKept u v) : NumbersKept t v :=
  ⟨k.release.trans h.release, k.consumed.trans h.consumed, k.gapAge.trans h.gapAge⟩

theorem setSlot_numbers (w slot : Nat) (st : SlotState) (s : State) (v : Nat) :
    NumbersKept (windowSlots s v) (windowSlots (setSlot w slot st s) v) := by
  rw [setSlot, windowSlots_onWindow]
  split <;> exact ⟨rfl, rfl, rfl⟩

theorem takeNext_numbers (s : State) (v : Nat) : NumbersKept (windowSlots s v) (windowSlots (takeNext s) v) := by
  obtain same | ⟨e, h, -, -, -, taken⟩ := takeNext_cases s
  · rw [same]
    exact .refl _
  · rw [taken]
    exact setSlot_numbers e.window e.slot .working s v

/-! ### The take beside a hold that changes (R87) -/

theorem greatestBy_congr {α : Type} {key other : α → Nat} {l : List α} (h : ∀ x ∈ l, key x = other x) :
    greatestBy key l = greatestBy other l := by
  induction l with
  | nil => rfl
  | cons x xs ih =>
    have rest := ih fun y hy => h y (List.mem_cons_of_mem _ hy)
    unfold greatestBy
    rw [rest]
    split
    · rfl
    · next y found =>
      rw [h x List.mem_cons_self, h y (List.mem_cons_of_mem _ (greatestBy_mem found))]

/-- From `s` to `t` the intake unit alone changes, and neither the serial nor the hold of a queued slot. -/
structure QueuedKept (s t : State) : Prop where
  rest   : t = { s with intake := t.intake }
  serial : t.intake.serial = s.intake.serial
  holds  : ∀ e ∈ s.engine.queue, holdOf t e.window e.slot = holdOf s e.window e.slot

theorem nextEntry_kept (h : QueuedKept s t) : nextEntry t = nextEntry s := by
  obtain ⟨rest, serial, holds⟩ := h
  have engine : t.engine = s.engine := by rw [rest]
  have settings : t.settings = s.settings := by rw [rest]
  unfold nextEntry
  rw [engine]
  refine greatestBy_congr fun e he => ?_
  unfold selectionKey holdPriority serialAge
  rw [holds e he, settings, serial]

/-- R87, R88: the take is the same, whatever else the intake unit holds. -/
theorem takeNext_kept (h : QueuedKept s t) : (takeNext s = s ∧ takeNext t = t) ∨
    ∃ e hold, e ∈ s.engine.queue ∧ takeNext s = startWork e hold s ∧ takeNext t = startWork e hold t := by
  have next := nextEntry_kept h
  obtain ⟨rest, serial, holds⟩ := h
  have engine : t.engine = s.engine := by rw [rest]
  unfold takeNext
  rw [engine, next]
  split
  · next e idle found =>
    have mem : e ∈ s.engine.queue := greatestBy_mem found
    rw [holds e mem]
    split
    · next hold _ => exact .inr ⟨e, hold, mem, rfl, rfl⟩
    · exact .inl ⟨rfl, rfl⟩
  · exact .inl ⟨rfl, rfl⟩

theorem takeNext_engine_kept (h : QueuedKept s t) : (takeNext t).engine = (takeNext s).engine := by
  have engine : t.engine = s.engine := by rw [h.rest]
  have lanes : t.lanes = s.lanes := by rw [h.rest]
  obtain ⟨same, kept⟩ | ⟨e, hold, -, same, kept⟩ := takeNext_kept h
  · rw [same, kept, engine]
  · rw [same, kept]
    unfold startWork admissionOf laneAt
    simp only [onEngine_engine, setSlot, onWindow, onIntake_engine, engine, lanes]

/-- A slot whose state is the same in both reads the same after the take. -/
theorem slotState_takeNext_kept (h : QueuedKept s t) {v j : Nat} (same : slotState t v j = slotState s v j) :
    slotState (takeNext t) v j = slotState (takeNext s) v j := by
  obtain ⟨before, after⟩ | ⟨e, hold, -, before, after⟩ := takeNext_kept h
  · rw [before, after, same]
  · rw [before, after]
    change slotState (setSlot e.window e.slot .working t) v j = slotState (setSlot e.window e.slot .working s) v j
    rw [slotState_setSlot, slotState_setSlot, same]

/-- The take leaves a slot alone that the queue does not name. -/
theorem slotState_takeNext_apart {v j : Nat} (apart : (⟨v, j⟩ : QueueEntry) ∉ s.engine.queue) :
    slotState (takeNext s) v j = slotState s v j := by
  obtain same | ⟨e, h, -, mem, -, taken⟩ := takeNext_cases s
  · rw [same]
  · rw [taken]
    refine slotState_setSlot_ne (fun here => apart ?_) s .working
    obtain ⟨rfl, rfl⟩ := Prod.mk.inj here
    exact mem

/-! ### The slot's hold (R20, R21) -/

/-- From `s` to `t` a slot becomes FILLING with this hold; no other slot and no other hold changes, and no number. -/
structure Filled (s t : State) (w slot : Nat) (h : Hold) : Prop where
  rest    : t = { s with intake := t.intake }
  serial  : t.intake.serial = s.intake.serial
  filling : slotState t w slot = some .filling
  hold    : holdOf t w slot = some h
  states  : ∀ v j, (v, j) ≠ (w, slot) → slotState t v j = slotState s v j
  holds   : ∀ v j, (v, j) ≠ (w, slot) → holdOf t v j = holdOf s v j
  count   : t.intake.holds.length = s.intake.holds.length + (if slotState s w slot = some .free then 1 else 0)
  numbers : ∀ v, NumbersKept (windowSlots s v) (windowSlots t v)

theorem Filled.queuedKept {h : Hold} (filled : Filled s t w slot h)
    (apart : (⟨w, slot⟩ : QueueEntry) ∉ s.engine.queue) : QueuedKept s t := by
  refine ⟨filled.rest, filled.serial, fun e he => filled.holds _ _ fun here => apart ?_⟩
  obtain ⟨rfl, rfl⟩ := Prod.mk.inj here
  exact he

/-- R18, R20: a FREE slot without a hold gets one. -/
theorem openHold_filled (free : slotState s w slot = some .free) (none : holdOf s w slot = none) :
    Filled s (openHold w slot s) w slot (newHold s w slot) := by
  have holds : (openHold w slot s).intake.holds = s.intake.holds ++ [newHold s w slot] := rfl
  have other (v j : Nat) (apart : (v, j) ≠ (w, slot)) : holdServes v j (newHold s w slot) = false := by
    rw [Bool.eq_false_iff]
    exact fun serves => apart (holdServes_iff.mp serves).symm
  have own : holdServes w slot (newHold s w slot) = true := holdServes_iff.mpr rfl
  refine ⟨rfl, rfl, slotState_openHold free, ?_, fun v j apart => slotState_openHold_ne apart, fun v j apart => ?_, ?_,
    fun v => setSlot_numbers w slot .filling (withHold (newHold s w slot) s) v⟩
  · rw [holdOf, holds, List.find?_append, show s.intake.holds.find? (holdServes w slot) = Option.none from none]
    simp [own]
  · rw [holdOf, holds, List.find?_append]
    simp [other v j apart, holdOf]
  · rw [holds, if_pos free, List.length_append, List.length_singleton]

/-- R20: a slot write that is taken finds its slot FILLING with its hold. -/
theorem ensureHold_filled {h : Hold}
    (state : (slotState s w slot = some .filling ∧ holdOf s w slot = some h) ∨
      (slotState s w slot = some .free ∧ holdOf s w slot = none ∧ h = newHold s w slot)) :
    Filled s (ensureHold w slot s) w slot h := by
  obtain ⟨filling, hold⟩ | ⟨free, none, rfl⟩ := state
  · have notFree : ¬slotState s w slot = some .free := by simp [filling]
    rw [ensureHold, if_neg notFree]
    exact ⟨rfl, rfl, filling, hold, fun _ _ _ => rfl, fun _ _ _ => rfl, by simp [filling], fun _ => .refl _⟩
  · rw [ensureHold, if_pos free]
    exact openHold_filled free none

/-- R21, R23: the slot's hold takes the beats. -/
theorem Filled.onHold {h : Hold} (filled : Filled s t w slot h) {f : Hold → Hold}
    (keeps : ∀ h, (f h).window = h.window ∧ (f h).slot = h.slot) :
    Filled s (Machine.onHold w slot f t) w slot (f h) := by
  obtain ⟨rest, serial, filling, hold, states, holds, count, numbers⟩ := filled
  have same (v j : Nat) : slotState (Machine.onHold w slot f t) v j = slotState t v j :=
    slotState_congr (onHold_windows w slot f t) v j
  refine ⟨?_, serial, (same _ _).trans filling, ?_, fun v j apart => (same _ _).trans (states v j apart),
    fun v j apart => ?_,
    (List.length_map _).trans count, fun v => windowSlots_congr (onHold_windows w slot f t) v ▸ numbers v⟩
  · rw [Machine.onHold, onIntake]
    conv_lhs => rw [rest]
  · rw [holdOf_onHold keeps, if_pos rfl, hold, Option.map_some]
  · rw [holdOf_onHold keeps, if_neg apart, holds v j apart]

/-! ### Completion (R25 to R27) -/

/-- What changes the intake unit and the engine alone, in full. -/
theorem eq_of_touches (h : Touches [.intake, .engine] s t) : t = { s with intake := t.intake, engine := t.engine } := by
  have phase := h.phase (by decide)
  have cause := h.cause (by decide)
  have settings := h.settings (by decide)
  have path := h.path (by decide)
  have lanes := h.lanes (by decide)
  have keys := h.keys (by decide)
  have totals := h.totals (by decide)
  have report := h.report (by decide)
  have directives := h.directives (by decide)
  have sweepCount := h.sweepCount (by decide)
  have port := h.port (by decide)
  have nv := h.nv (by decide)
  have dram := h.dram (by decide)
  have freeCount := h.freeCount (by decide)
  have pending := h.pending (by decide)
  cases t
  simp only at *
  subst_vars
  rfl

/-- From `s` to `t` a FILLING slot joins the queue behind what the idle engine has taken, with this hold. -/
structure Joined (s t : State) (w slot : Nat) (h : Hold) : Prop where
  queued  : slotState t w slot = some .queued
  hold    : holdOf t w slot = some { h with expired := false, serial := some s.intake.serial }
  serial  : t.intake.serial = s.intake.serial + 1
  engine  : t.engine = { (takeNext s).engine with queue := (takeNext s).engine.queue ++ [⟨w, slot⟩] }
  states  : ∀ v j, (v, j) ≠ (w, slot) → slotState t v j = slotState (takeNext s) v j
  holds   : ∀ v j, (v, j) ≠ (w, slot) → holdOf t v j = holdOf s v j
  count   : t.intake.holds.length = s.intake.holds.length + (if slotState s w slot = some .free then 1 else 0)
  numbers : ∀ v, NumbersKept (windowSlots s v) (windowSlots t v)

/-- The hold of a slot that joins the queue, and the others. -/
theorem holdOf_joinQueue (w slot : Nat) (expired : Bool) (s : State) (v j : Nat) :
    holdOf (joinQueue w slot expired s) v j = if (v, j) = (w, slot) then
      (holdOf s v j).map fun h => { h with expired := expired, serial := some s.intake.serial } else holdOf s v j :=
  holdOf_onHold (w := w) (slot := slot) (f := fun h => { h with expired := expired, serial := some s.intake.serial })
    (fun _ => ⟨rfl, rfl⟩) (setSlot w slot .queued s) v j

/-- R25 to R27, R87: a filled slot that is complete joins the queue. -/
theorem Filled.joined {h : Hold} (filled : Filled s t w slot h) (apart : (⟨w, slot⟩ : QueueEntry) ∉ s.engine.queue) :
    Joined s (queueSlot w slot false t) w slot h := by
  have kept := filled.queuedKept apart
  have engine : t.engine = s.engine := by rw [filled.rest]
  have holds (v j : Nat) : holdOf (takeNext t) v j = holdOf t v j := holdOf_congr (takeNext_holds t) v j
  have serial : (takeNext t).intake.serial = s.intake.serial := (takeNext_serial t).trans filled.serial
  have filling : slotState (takeNext t) w slot = some .filling :=
    (slotState_takeNext_apart (engine.symm ▸ apart)).trans filled.filling
  refine ⟨?_, ?_, ?_, ?_, fun v j other => ?_, fun v j other => ?_, ?_, fun v => ?_⟩
  · exact slotState_setSlot_same filling .queued
  · rw [queueSlot, holdOf_joinQueue, if_pos rfl, holds, filled.hold, serial, Option.map_some]
  · exact congrArg (· + 1) serial
  · rw [← takeNext_engine_kept kept]
    rfl
  · exact (slotState_setSlot_ne other (takeNext t) .queued).trans
      (slotState_takeNext_kept kept (filled.states v j other))
  · rw [queueSlot, holdOf_joinQueue, if_neg other, holds, filled.holds v j other]
  · rw [← filled.count, ← takeNext_holds t]
    exact List.length_map _
  · exact ((filled.numbers v).trans (takeNext_numbers t v)).trans (setSlot_numbers w slot .queued (takeNext t) v)

theorem slotRefusal_none (state : slotState s w slot = some .filling ∨
    (slotState s w slot = some .free ∧ s.intake.holds.length < 16)) : slotRefusal s w slot = none := by
  obtain filling | ⟨free, room⟩ := state
  · simp [slotRefusal, filling]
  · simp [slotRefusal, free, room]

theorem takeSlotWrite_taken {sw : SlotWrite} (taken : slotRefusal s sw.window sw.slot = none) :
    takeSlotWrite sw s = mergeSlotWrite sw s := by
  unfold takeSlotWrite
  rw [taken]

/-- R25: the completion test of a hold that is there. -/
theorem completionTest_of {h : Hold} (hold : holdOf s w slot = some h) :
    completionTest w slot s = if holdComplete h then queueSlot w slot false s else s := by
  unfold completionTest
  rw [hold]

theorem recordHeader_slot (size : Nat) (h : Hold) :
    (recordHeader size h).window = h.window ∧ (recordHeader size h).slot = h.slot := by
  unfold recordHeader
  split <;> exact ⟨rfl, rfl⟩

/-- Settles O9: the filled hold by `ensureHold_filled`, its completion by `Filled.joined`, the command by
`exec_slotOnly`. -/
theorem slotWritesFillTheHold : Obligations.SlotWritesFillTheHold := by
  refine ⟨fun s sw before filled v t state apart hf hv ht => ?_, fun s addr beats w slot ready alone only taken => ?_⟩
  · have taken : slotRefusal s sw.window sw.slot = none :=
      slotRefusal_none (state.imp And.left fun free => ⟨free.1, free.2.1⟩)
    have opened : Filled s (ensureHold sw.window sw.slot s) sw.window sw.slot before :=
      ensureHold_filled (state.imp_right fun free => ⟨free.1, free.2.2⟩)
    have merged := opened.onHold
      (f := fun h => recordHeader (windowOfMap s sw.window).slotSize (mergeBeats sw.beats h))
      fun h => recordHeader_slot _ _
    rw [takeSlotWrite_taken taken] at ht
    have rest : t = { s with intake := t.intake, engine := t.engine } :=
      eq_of_touches (ht ▸ mergeSlotWrite_touches s sw)
    rw [mergeSlotWrite, completionTest_of merged.hold, ← hf] at ht
    rw [← hf] at merged
    refine ⟨taken, ?_⟩
    cases complete : holdComplete filled with
    | false =>
      rw [complete, if_neg (by decide)] at ht
      subst ht
      exact ⟨fun _ => ⟨merged.filling, merged.hold, merged.serial, by rw [merged.rest], merged.states⟩, nofun,
        merged.holds, merged.count, fun w => ⟨(merged.numbers w).1, (merged.numbers w).2, (merged.numbers w).3⟩, rest⟩
    | true =>
      rw [complete, if_pos rfl] at ht
      have joined := merged.joined apart
      subst ht hv
      exact ⟨nofun, fun _ => ⟨joined.queued, joined.hold, joined.serial, joined.engine, joined.states⟩, joined.holds,
        joined.count, fun w => ⟨(joined.numbers w).1, (joined.numbers w).2, (joined.numbers w).3⟩, rest⟩
  · have kept : Touches [.path, .intake, .engine] s (onPath (slotWriteAnswered (slotRefusal s w slot).isSome)
        (takeSlotWrite ⟨w, slot, intakeBeats s.settings.map addr beats⟩ s)) := by
      rw [takeSlotWrite_taken taken]
      exact ((mergeSlotWrite_touches s _).mono (by decide)).andThen (onPath_touches _ _) (by decide)
    rw [exec_slotOnly ready alone only rfl, reportDue_of_kept (quiet_reports ready.quiet) kept, taken]
    have path := (takeSlotWrite_touches s ⟨w, slot, intakeBeats s.settings.map addr beats⟩).path (by decide)
    rw [onPath, path]
    rfl

end Sys2Proof.Proofs
end

section
/-! SUPPORT. Layouts: the fields of a block or record in order, each a width in bytes and a number, the bytes they write
and the offset at which each stands (chapter 3). -/

namespace Sys2Proof.Proofs

open Sys2Proof Sys2Proof.Machine Sys2Proof.Laws

/-! ### Little-endian fields -/

@[simp] theorem leBytes_length (n v : Nat) : (leBytes n v).length = n := by
  induction n generalizing v with
  | zero => rfl
  | succ n ih => simp [leBytes, ih]

theorem leNat_leBytes (n v : Nat) : leNat (leBytes n v) = v % 256 ^ n := by
  induction n generalizing v with
  | zero => simp [leBytes, leNat, Nat.mod_one]
  | succ n ih =>
    have split : 256 ^ (n + 1) = 256 * 256 ^ n := Nat.pow_succ'
    rw [leBytes, leNat, ih, BitVec.toNat_ofNat, split, Nat.mod_mul]

theorem leBytes_one (v : Nat) : leBytes 1 v = [byteOf v] := rfl

theorem leBytes_zero (n : Nat) : leBytes n 0 = zeros n := by
  induction n with
  | zero => rfl
  | succ n ih => rw [leBytes, Nat.zero_div, ih]; rfl

theorem zeros_one : zeros 1 = [0] := rfl

/-- Bytes read as a number and written again over `n` bytes are cut or filled up to them. -/
theorem leBytes_leNat (n : Nat) (l : List Byte) : leBytes n (leNat l) = padTo n l := by
  induction n generalizing l with
  | zero => rfl
  | succ n ih =>
    cases l with
    | nil => simp [leNat, leBytes_zero, padTo, zeros]
    | cons b bs =>
      have low : BitVec.ofNat 8 (b.toNat + 256 * leNat bs) = b := by
        apply BitVec.eq_of_toNat_eq
        have := b.isLt
        rw [BitVec.toNat_ofNat]
        omega
      have high : (b.toNat + 256 * leNat bs) / 256 = leNat bs := by have := b.isLt; omega
      rw [leNat, leBytes, low, high, ih]
      simp only [padTo, zeros, List.cons_append, List.take_succ_cons, List.replicate_succ', ← List.append_assoc]
      rw [List.take_append_of_le_length (l₂ := [0]) (by simp)]

theorem padTo_of_le {n : Nat} {l : List Byte} (h : l.length ≤ n) : padTo n l = l ++ zeros (n - l.length) := by
  simp [padTo, zeros, List.take_append, List.take_of_length_le h]

theorem padTo_of_length {n : Nat} {l : List Byte} (h : l.length = n) : padTo n l = l := by
  rw [padTo_of_le h.le, h, Nat.sub_self]
  exact List.append_nil l

theorem heldBytes_length (h : Hold) (start count : Nat) : (heldBytes h start count).length = count := by
  simp [heldBytes]

theorem leBytes_heldNat (h : Hold) (start count : Nat) :
    leBytes count (heldNat h start count) = heldBytes h start count :=
  (leBytes_leNat _ _).trans (padTo_of_length (heldBytes_length h start count))

theorem slice_append_right {α : Type} (before after : List α) {start count : Nat} (h : before.length = start) :
    slice (before ++ after) start count = after.take count := by
  rw [slice, ← h, List.drop_left]

theorem slice_append_left {α : Type} {before after : List α} {start count : Nat} (h : start + count ≤ before.length) :
    slice (before ++ after) start count = slice before start count := by
  rw [slice, slice, List.drop_append_of_le_length (by omega), List.take_append_of_le_length (by simp; omega)]

/-! ### Layouts -/

/-- The bytes that fields write, in order. -/
def encode (layout : List (Nat × Nat)) : List Byte := layout.flatMap fun f => leBytes f.1 f.2

/-- The bytes that fields take. -/
def width (layout : List (Nat × Nat)) : Nat := (layout.map Prod.fst).sum

/-- The fields with their offsets, the first at `start`: (offset, bytes, value). -/
def placed : Nat → List (Nat × Nat) → List (Nat × Nat × Nat)
  | _, [] => []
  | start, (n, v) :: rest => (start, n, v) :: placed (start + n) rest

/-- Bytes show every one of the fields. -/
def Shows (out : List Byte) (fields : List (Nat × Nat × Nat)) : Prop :=
  ∀ f ∈ fields, leNat (slice out f.1 f.2.1) = f.2.2 % 256 ^ f.2.1

variable {a b layout : List (Nat × Nat)} {fields : List (Nat × Nat × Nat)} {out : List Byte} {n start v : Nat}

@[simp] theorem encode_nil : encode [] = [] := rfl
@[simp] theorem encode_cons : encode ((n, v) :: layout) = leBytes n v ++ encode layout := rfl
@[simp] theorem encode_append : encode (a ++ b) = encode a ++ encode b := List.flatMap_append
@[simp] theorem width_nil : width [] = 0 := rfl
@[simp] theorem width_cons : width ((n, v) :: layout) = n + width layout := rfl
@[simp] theorem width_append : width (a ++ b) = width a + width b := by simp [width]
@[simp] theorem placed_nil : placed start [] = [] := rfl
@[simp] theorem placed_cons : placed start ((n, v) :: layout) = (start, n, v) :: placed (start + n) layout := rfl

@[simp] theorem encode_length (layout : List (Nat × Nat)) : (encode layout).length = width layout := by
  simp [encode, width, List.length_flatMap]

@[simp] theorem placed_append : placed start (a ++ b) = placed start a ++ placed (start + width a) b := by
  induction a generalizing start with
  | nil => rfl
  | cons f a ih =>
    obtain ⟨n, v⟩ := f
    simp [ih, Nat.add_assoc]

/-- Every field of a layout is read back at its offset. -/
theorem shows_placed (before : List Byte) (layout : List (Nat × Nat)) :
    Shows (before ++ encode layout) (placed before.length layout) := by
  induction layout generalizing before with
  | nil => exact fun f hf => absurd hf List.not_mem_nil
  | cons f layout ih =>
    obtain ⟨n, v⟩ := f
    intro g hg
    rw [placed_cons, List.mem_cons] at hg
    obtain rfl | later := hg
    · rw [slice_append_right before _ rfl, encode_cons, List.take_left' (leBytes_length n v), leNat_leBytes]
    · have rest := ih (before ++ leBytes n v)
      rw [List.length_append, leBytes_length, List.append_assoc] at rest
      exact rest g later

theorem Shows.mono {more : List (Nat × Nat × Nat)} (h : Shows out more) (sub : fields ⊆ more) : Shows out fields :=
  fun f hf => h f (sub hf)

theorem shows_encode (sub : fields ⊆ placed 0 layout) : Shows (encode layout) fields :=
  (shows_placed [] layout).mono sub

/-- Filling up with zeros is a last field of value 0. -/
theorem padTo_encode (fits : width layout ≤ n) :
    padTo n (encode layout) = encode (layout ++ [(n - width layout, 0)]) := by
  rw [padTo_of_le ((encode_length layout).trans_le fits)]
  simp [leBytes_zero]

/-- A table of equal entries: the fields of entry `i` stand `size * i` bytes on. -/
theorem placed_flatMap {α : Type} {entry : α → List (Nat × Nat)} {size i : Nat} {l : List α} {x : α}
    (sizes : ∀ y, width (entry y) = size) (at_i : l[i]? = some x) :
    placed (start + size * i) (entry x) ⊆ placed start (l.flatMap entry) := by
  induction l generalizing start i with
  | nil => simp at at_i
  | cons y l ih =>
    rw [List.flatMap_cons, placed_append, sizes]
    cases i with
    | zero =>
      obtain rfl : y = x := by simpa using at_i
      exact List.subset_append_left _ _
    | succ i =>
      have later := ih (start := start + size) (by simpa using at_i)
      rw [show start + size * (i + 1) = start + size + size * i by rw [Nat.mul_succ]; omega]
      exact List.Subset.trans later (List.subset_append_right _ _)

theorem width_flatMap {α : Type} {entry : α → List (Nat × Nat)} {size : Nat} (sizes : ∀ y, width (entry y) = size)
    (l : List α) : width (l.flatMap entry) = size * l.length := by
  induction l with
  | nil => rfl
  | cons y l ih => rw [List.flatMap_cons, width_append, sizes, ih, List.length_cons, Nat.mul_succ, Nat.add_comm]

theorem encode_flatMap {α : Type} (entry : α → List (Nat × Nat)) (l : List α) :
    encode (l.flatMap entry) = l.flatMap fun x => encode (entry x) := by
  rw [encode, List.flatMap_assoc]; rfl

/-! ### Codes -/

/-- A code function agrees with every row of a table that lists it. -/
theorem code_of_mem {α : Type} {code : α → Nat} {table : List (α × Nat)} (agrees : ∀ row ∈ table, code row.1 = row.2)
    {x : α} (listed : (x, n) ∈ table) : code x = n := agrees (x, n) listed

end Sys2Proof.Proofs
end

section
/-! SUPPORT. The output records that the part writes over a slot (R45 to R50): their headers and what follows them, as
layouts. -/

namespace Sys2Proof.Proofs

open Sys2Proof Sys2Proof.Machine Sys2Proof.Laws

variable {size length : Nat} {d : Disposition} {r : Reason} {f : WrapFields} {h : Hold}

/-! ### The header (R46) -/

/-- R46: the 32 bytes of an output header, in order. -/
def headerLayout (h : Hold) (length dc rc key counter batch : Nat) : List (Nat × Nat) :=
  (if h.header.isSome = true then [(4, heldNat h 0 4)] else [(2, 0), (1, 255), (1, 0)]) ++
  [(2, length), (1, dc), (1, rc), (8, if h.header.isSome = true then heldNat h 8 8 else 0), (1, key), (3, counter),
    (4, batch), (2, h.ringIndex.toNat), (1, h.window), (5, 0)]

/-- The fields of an output header with their offsets, in the order of O48. -/
def headerFields (h : Hold) (length dc rc key counter batch : Nat) : List (Nat × Nat × Nat) :=
  (if h.header.isSome = true then [(0, 4, heldNat h 0 4), (8, 8, heldNat h 8 8)]
    else [(0, 2, 0), (2, 1, 255), (3, 1, 0), (8, 8, 0)]) ++
  [(4, 2, length), (6, 1, dc), (7, 1, rc), (16, 1, key), (17, 3, counter), (20, 4, batch),
    (24, 2, h.ringIndex.toNat), (26, 1, h.window), (27, 5, 0)]

theorem headerLayout_width (h : Hold) (length dc rc key counter batch : Nat) :
    width (headerLayout h length dc rc key counter batch) = 32 := by
  unfold headerLayout
  split <;> rfl

theorem headerFields_placed (h : Hold) (length dc rc key counter batch : Nat) :
    headerFields h length dc rc key counter batch ⊆ placed 0 (headerLayout h length dc rc key counter batch) := by
  unfold headerFields headerLayout
  split <;> simp

theorem outputHeader_encode (length : Nat) (d : Disposition) (r : Reason) (f : WrapFields) (h : Hold) :
    outputHeader (knownHold h) length d r f h.ringIndex h.window =
      encode (headerLayout h length (dispositionCode d) (reasonCode r) f.keyId f.counter f.batch) := by
  by_cases known : h.header.isSome = true
  · simp [outputHeader, knownHold, headerLayout, known, leBytes_one, leBytes_zero, leBytes_heldNat]
  · simp [outputHeader, knownHold, headerLayout, known, leBytes_one, leBytes_zero, byteOf, zeros]

/-- An output whose bytes after the header are those of a layout shows the header's fields, the layout's from offset 32
on, and zeros where the layout ends. -/
theorem output_shows {dc rc finish : Nat} (disposition : dispositionCode d = dc) (reason : reasonCode r = rc)
    {tail : List (Nat × Nat)} (ends : 32 + width tail = finish) (fits : finish ≤ size) {out : List Byte}
    (written : out = padTo size (outputHeader (knownHold h) length d r f h.ringIndex h.window ++ encode tail)) :
    out.length = size ∧ Shows out (headerFields h length dc rc f.keyId f.counter f.batch ++
      (placed 32 tail ++ [(finish, size - finish, 0)])) := by
  subst written disposition reason ends
  refine ⟨padTo_length _ _, ?_⟩
  have wide := headerLayout_width h length (dispositionCode d) (reasonCode r) f.keyId f.counter f.batch
  have header := headerFields_placed h length (dispositionCode d) (reasonCode r) f.keyId f.counter f.batch
  rw [outputHeader_encode, ← encode_append, padTo_encode (by rwa [width_append, wide])]
  apply shows_encode
  rw [placed_append, placed_append, width_append, wide, List.append_assoc, Nat.zero_add, Nat.zero_add]
  exact List.append_subset.2
    ⟨List.Subset.trans header (List.subset_append_left _ _), List.subset_append_right _ _⟩

/-! ### What follows the header (R47 to R49) -/

/-- R48: the fields of a WRAPPED output after its header. -/
def wrappedLayout (body : List Byte) (surrogate : List Nat) (cipher tag : List Byte) : List (Nat × Nat) :=
  [(1, (body.getD 0 0).toNat), (19, leNat (surrogate.map byteOf)), (7, 0),
    (1, (body.getD 27 0).toNat % 2), (2, leNat (slice body 28 2)), (2, 0), (5, leNat (slice body 32 5)), (3, 0),
    (1, 80), (7, 0), (80, leNat cipher), (8, leNat tag)]

/-- R49: the kinds byte that an agreement, or none, shows. -/
def kindsShown : Option Agreement → Nat
  | some a => (if a.kinds.clear then 1 else 0) + (if a.kinds.sealed then 2 else 0)
  | none => 0

/-- R49: the lane key id that an agreement, or none, shows. -/
def keyIdShown : Option Agreement → Nat
  | some a => a.keyId.toNat
  | none => 0

/-- R49: the nonce that an agreement, or none, shows. -/
def nonceShown : Option Agreement → Nat
  | some a => leNat a.nonce
  | none => 0

/-- R49: the fields of an enrolment result after its header. -/
def enrolmentLayout (h : Hold) (isOffer : Bool) (answer : Option Agreement) (id store : Nat) : List (Nat × Nat) :=
  [(1, kindsShown answer), (1, keyIdShown answer), (1, id), (1, 0), (8, heldNat h 36 8), (8, nonceShown answer),
    (4, store), (4, if isOffer then heldNat h 44 4 else 0), (4, 0)]

theorem bodyRefund_bit (body : List Byte) : bit (bodyRefund body) = (body.getD 27 0).toNat % 2 := by
  obtain even | odd := Nat.mod_two_eq_zero_or_one (body.getD 27 0).toNat
  · simp only [bodyRefund, bodyByte, BitVec.getLsbD, Nat.testBit_zero, even]
    rfl
  · simp only [bodyRefund, bodyByte, BitVec.getLsbD, Nat.testBit_zero, odd]
    rfl

theorem kindsByte_eq (k : Kinds) : kindsByte k = byteOf ((if k.clear then 1 else 0) + if k.sealed then 2 else 0) := by
  rcases k with ⟨_ | _, _ | _⟩ <;> rfl

theorem wrappedOutput_eq (size : Nat) (h : Hold) (body : List Byte) (f : WrapFields) (surrogate : List Nat)
    {cipher tag : List Byte} (ciphertext : cipher.length = 80) (tagged : tag.length = 8) :
    wrappedOutput size h body f surrogate cipher tag =
      padTo size (outputHeader (knownHold h) 168 .wrapped .none f h.ringIndex h.window ++
        encode (wrappedLayout body surrogate cipher tag)) := by
  simp [wrappedOutput, wrappedLayout, leBytes_one, leBytes_zero, leBytes_leNat, padTo_of_length ciphertext,
    padTo_of_length tagged, bodyByte, bodyCurrency, bodyAmount, bodyNat, bodyRefund_bit, byteOf]

theorem enrolmentOutput_eq (size : Nat) (h : Hold) (isOffer : Bool) (d : Disposition) (r : Reason)
    (answer : Option Agreement) (id store : Nat) :
    enrolmentOutput size h isOffer d r answer id store =
      padTo size (outputHeader (knownHold h) 64 d r noWrapFields h.ringIndex h.window ++
        encode (enrolmentLayout h isOffer answer id store)) := by
  have model : (if isOffer then heldBytes h 44 4 else zeros 4) = leBytes 4 (if isOffer then heldNat h 44 4 else 0) := by
    split <;> simp [leBytes_heldNat, leBytes_zero]
  cases answer with
  | none =>
    simp [enrolmentOutput, enrolmentLayout, kindsShown, keyIdShown, nonceShown, leBytes_one, leBytes_zero,
      leBytes_heldNat, model, byteOf, zeros_one]
  | some a =>
    simp [enrolmentOutput, enrolmentLayout, kindsShown, keyIdShown, nonceShown, leBytes_one, leBytes_zero,
      leBytes_heldNat, leBytes_leNat, kindsByte_eq, model, byteOf, zeros_one]

theorem headerOnlyOutput_eq (size : Nat) (h : Hold) (d : Disposition) (r : Reason) :
    headerOnlyOutput size h d r =
      padTo size (outputHeader (knownHold h) 32 d r noWrapFields h.ringIndex h.window ++ encode []) := by
  rw [headerOnlyOutput, encode_nil, List.append_nil]

theorem passedOutput_eq (size : Nat) (h : Hold) (length : Nat) :
    passedOutput size h length =
      padTo size (outputHeader (knownHold h) length .passed .none noWrapFields h.ringIndex h.window ++
        encode [(length - 32, heldNat h 32 (length - 32))]) := by
  rw [passedOutput, encode_cons, encode_nil, List.append_nil, leBytes_heldNat]

/-- Settles O48: every output is a header followed by a layout (`output_shows`). -/
theorem outputsAreLaidOut : Obligations.OutputsAreLaidOut := by
  intro size h d r dCode rCode sizes dListed rListed shows header showsIff headerIs
  have disposition : dispositionCode d = dCode := code_of_mem (by decide) dListed
  have reason : reasonCode r = rCode := code_of_mem (by decide) rListed
  have large : 256 ≤ size := by omega
  obtain rfl : header = headerFields h := by
    funext length dc rc key counter batch
    exact headerIs length dc rc key counter batch
  simp only [showsIff]
  refine ⟨?_, fun length atLeast atMost => ?_, fun body key counter batch surrogate cipher tag _ ciphertext tagged => ?_,
    fun isOffer answer id store _ => ?_⟩
  · exact output_shows (finish := 32) disposition reason rfl (by omega) (headerOnlyOutput_eq size h d r)
  · have ends : 32 + width [(length - 32, heldNat h 32 (length - 32))] = length := Nat.add_sub_cancel' atLeast
    exact output_shows rfl rfl ends atMost (passedOutput_eq size h length)
  · exact output_shows (finish := 168) rfl rfl rfl (by omega)
      (wrappedOutput_eq size h body ⟨key, counter, batch⟩ surrogate ciphertext tagged)
  · exact output_shows (finish := 64) disposition reason rfl (by omega)
      (enrolmentOutput_eq size h isOffer d r answer id store)

/-! ### Void records (R50) -/

theorem outputHeader_length (h : Hold) (length : Nat) (d : Disposition) (r : Reason) (f : WrapFields) :
    (outputHeader (knownHold h) length d r f h.ringIndex h.window).length = 32 := by
  rw [outputHeader_encode, encode_length, headerLayout_width]

theorem outputHeader_disposition (known : Option Hold) (length : Nat) (d : Disposition) (r : Reason) (f : WrapFields)
    (ring : BitVec 16) (w : Nat) : (outputHeader known length d r f ring w)[6]? = some (byteOf (dispositionCode d)) := by
  cases known <;> rfl

/-- R46: byte 6 of a header-only output is its disposition. -/
theorem headerOnlyOutput_disposition (large : 32 ≤ size) (h : Hold) (d : Disposition) (r : Reason) :
    (headerOnlyOutput size h d r)[6]? = some (byteOf (dispositionCode d)) := by
  have short := outputHeader_length h 32 d r noWrapFields
  rw [headerOnlyOutput, padTo_of_le (short.trans_le large), List.getElem?_append_left (by omega),
    outputHeader_disposition]

/-- Settles O49: the header of a void record written out, filled up with zeros. -/
theorem voidRecordsAreLaidOut : Obligations.VoidRecordsAreLaidOut := by
  intro size w ring sizes _
  have large : 32 ≤ size := by omega
  refine ⟨?_, fun h => headerOnlyOutput_disposition large h .expired .none⟩
  have header : outputHeader none 32 .skipped .none noWrapFields ring w =
      [0, 0, 255, 0, 32, 0, 7, 0] ++ List.replicate 16 0 ++
        [BitVec.ofNat 8 ring.toNat, BitVec.ofNat 8 (ring.toNat / 256), BitVec.ofNat 8 w] ++ zeros 5 := rfl
  have filling : zeros 5 ++ zeros (size - 32) = List.replicate (size - 27) 0 := by
    rw [zeros, zeros, List.replicate_append_replicate]
    congr 1
    omega
  rw [voidOutput, header, padTo_of_le (by simpa [zeros] using large), List.append_assoc _ (zeros 5), ← filling]
  rfl

end Sys2Proof.Proofs
end

section
/-! SUPPORT. The lengths of the block transform's values, and blocks cut out of bytes (R112, R114). -/

namespace Sys2Proof.Proofs

open Sys2Proof Sys2Proof.Machine Sys2Proof.Laws

theorem nextRoundKey_length (rcon : Byte) {k : List Byte} (h : k.length = 16) : (nextRoundKey rcon k).length = 16 := by
  simp [nextRoundKey, xorBytes, slice, h]

theorem transformRounds_length (rcon : Byte) (rest k s : List Byte) (h : k.length = 16) :
    (transformRounds (rcon :: rest) k s).length = 16 := by
  induction rest generalizing rcon k s with
  | nil => simp [transformRounds, xorBytes, subShift, shiftRowsFrom, nextRoundKey_length rcon h]
  | cons next rest ih => exact ih next _ _ (nextRoundKey_length rcon h)

/-- R112: a block goes through the transform to a block. -/
theorem transform_length {key : List Byte} (h : key.length = 16) (block : List Byte) :
    (transform key block).length = 16 := transformRounds_length _ _ _ _ h

theorem chainFrom_length {key v : List Byte} (hk : key.length = 16) (hv : v.length = 16) (blocks : List (List Byte)) :
    (chainFrom key v blocks).length = 16 := by
  induction blocks generalizing v with
  | nil => exact hv
  | cons b bs ih =>
    rw [chainFrom]
    exact ih (transform_length hk _)

/-- R114: a chained tag has 8 bytes. -/
theorem chainedTag_length {key : List Byte} (h : key.length = 16) (blocks : List (List Byte)) :
    (chainedTag key blocks).length = 8 := by
  rw [chainedTag, List.length_take, chainFrom_length h (by decide)]
  rfl

/-- Bytes that fill `count` pieces are cut into just those. -/
theorem chunksOf_eq_slices {α : Type} {n : Nat} (pos : 0 < n) (count : Nat) {l : List α} (h : l.length = n * count) :
    chunksOf n count l = (List.range count).map fun i => slice l (n * i) n := by
  induction count generalizing l with
  | zero => rfl
  | succ count ih =>
    have some : l.isEmpty = false := by
      rw [List.isEmpty_eq_false_iff, ← List.length_pos_iff, h]
      exact Nat.mul_pos pos count.succ_pos
    have rest : (l.drop n).length = n * count := by rw [List.length_drop, h, Nat.mul_succ, Nat.add_sub_cancel]
    rw [chunksOf, some, if_neg (by decide), ih rest, List.range_succ_eq_map, List.map_cons, List.map_map]
    congr 1
    apply List.map_congr_left
    intro i _
    simp only [slice, Function.comp_apply, List.drop_drop, Nat.mul_succ, Nat.add_comm]

end Sys2Proof.Proofs
end

section
/-! SUPPORT. Status blocks and the batch summary as layouts (R52 to R54, R81, R138, R143, R144, R156, R168). -/

namespace Sys2Proof.Proofs

open Sys2Proof Sys2Proof.Machine Sys2Proof.Laws

variable {flag : Prop → Nat} {p : Prop} {b : Bool}

/-! ### Flags -/

/-- `flag p` is 1 where `p` holds and 0 where it does not. -/
def Flags (flag : Prop → Nat) : Prop := ∀ p : Prop, (p → flag p = 1) ∧ (¬p → flag p = 0)

theorem bit_eq_flag (spec : Flags flag) (h : b = true ↔ p) : bit b = flag p := by
  cases b with
  | false => exact ((spec p).2 fun hp => Bool.false_ne_true (h.2 hp)).symm
  | true => exact ((spec p).1 (h.1 rfl)).symm

/-- A number shown where `p` holds, and else 0. -/
theorem flag_mul (spec : Flags flag) [Decidable p] (v : Nat) : flag (¬p) * v = if p then 0 else v := by
  split
  next hp => rw [(spec _).2 (not_not_intro hp), Nat.zero_mul]
  next hp => rw [(spec _).1 hp, Nat.one_mul]

theorem conditionShown_iff {c : Condition} : conditionShown c = true ↔ c ≠ .clear := bne_iff_ne

theorem warningFlag_iff {cfg : Settings} {k : KeyUnit} : warningFlag cfg k = true ↔
    (k.store.current.state = .active ∨ k.store.current.state = .spent) ∧ cfg.warnThreshold ≤ k.currentC := by
  simp [warningFlag]

theorem noKeyFlag_iff {k : KeyStore} :
    noKeyFlag k = true ↔ k.surrogate.state = .empty ∨ k.current.state ≠ .active := by
  simp [noKeyFlag]

theorem laneLocked_iff {l : Lane} : laneLocked l = true ↔ l.state = .faulted ∧ l.failures = 4 := by simp [laneLocked]

theorem agreedClear_iff {l : Lane} : (agreedKinds l).clear = true ↔ ∃ a ∈ l.agreement, a.kinds.clear = true := by
  cases h : l.agreement <;> simp [agreedKinds, h]

theorem agreedSealed_iff {l : Lane} : (agreedKinds l).sealed = true ↔ ∃ a ∈ l.agreement, a.kinds.sealed = true := by
  cases h : l.agreement <;> simp [agreedKinds, h]

theorem laneEventShown_iff {l : Lane} :
    laneEventShown l = true ↔ l.enrolment ≠ .clear ∨ l.fault ≠ .clear ∨ l.silent ≠ .clear := by
  simp [laneEventShown, conditionShown, or_assoc]

/-- Bit `i` of a number made of flags is flag `i`. -/
theorem flagsNat_testBit (flags : List Bool) (i : Nat) : (flagsNat flags).testBit i = flags.getD i false := by
  induction flags generalizing i with
  | nil => simp [flagsNat]
  | cons b bs ih =>
    have low : bit b < 2 := by cases b <;> decide
    cases i with
    | zero => cases b <;> simp [flagsNat, bit, Nat.testBit_zero]
    | succ i =>
      rw [flagsNat, Nat.testBit_succ, List.getD_cons_succ, ← ih]
      congr 1
      omega

/-! ### Status blocks (R52) -/

/-- R52: the fields of a window channel's block, up to the zeros that fill it. -/
def windowLayout (c : Channel) (ch : Nat) (cause : ResetCause) (w : WindowSlots) : List (Nat × Nat) :=
  [(1, 1), (1, c.nextTag), (1, ch), (1, causeCode cause), (2, w.release.toNat), (2, w.consumed.toNat),
    (2, c.counts.wrapped), (2, c.counts.passed), (2, c.counts.duplicateStale), (2, c.counts.rejected),
    (2, c.counts.expiredSkipped), (2, c.counts.overrun), (2, c.counts.collision), (2, c.counts.exhausted),
    (2, c.counts.writeFaults), (2, bit (conditionShown c.returnIgnored) + 2 * bit (conditionShown c.writeFault))]

theorem windowBlock_eq (c : Channel) (ch : Nat) (cause : ResetCause) (w : WindowSlots) :
    windowBlock c ch cause w = encode (windowLayout c ch cause w ++ [(100, 0)]) := by
  have block : windowBlock c ch cause w = padTo 128 (encode (windowLayout c ch cause w)) := by
    simp [windowBlock, windowLayout, countsList, leBytes_one, byteOf]
  have wide : width (windowLayout c ch cause w) = 28 := by simp [windowLayout]
  rw [block, padTo_encode (by omega), wide]

/-- R52: the value of a lane state byte. -/
def laneStateNat (l : Lane) : Nat :=
  laneStateCode l.state + 8 * bit l.suspended + 16 * bit l.latch + 32 * bit (laneLocked l) +
    64 * bit (agreedKinds l).clear + 128 * bit (agreedKinds l).sealed

theorem laneStateByte_eq : laneStateByte = fun l => byteOf (laneStateNat l) := rfl

/-- R52: the image outcomes of the STORE block, one byte each. -/
def outcomesLayout (cfg : Settings) : List (Nat × Nat) := cfg.outcomes.flatMap fun o => [(1, outcomeCode o)]

/-- R52: the lane states of the STORE block, one byte each. -/
def laneStatesLayout (lanes : LaneTable) : List (Nat × Nat) := lanes.entries.flatMap fun l => [(1, laneStateNat l)]

/-- R52: the fields of the STORE block before the image outcomes. -/
def storeFront (c : Channel) (cause : ResetCause) (sweepCount : BitVec 32) : List (Nat × Nat) :=
  [(1, 1), (1, c.nextTag), (1, 4), (1, causeCode cause), (4, sweepCount.toNat)]

/-- R52: the fields of the STORE block between the image outcomes and the lane states. -/
def storeMiddle (c : Channel) (cfg : Settings) (k : KeyUnit) (done : BitVec 16) (t : Totals) (lanes : LaneTable) :
    List (Nat × Nat) :=
  [(1, flagsNat cfg.overlap), (2, bit (conditionShown c.writeFault)),
    (1, if k.store.current.state = .empty then 0 else k.store.current.id), (1, keyStateCode k.store.current.state),
    (1, if k.store.next.state = .empty then 0 else k.store.next.id), (1, keyStateCode k.store.next.state),
    (4, if k.store.current.state = .empty then 0 else k.currentC), (1, keyFlags cfg k), (1, 0), (2, done.toNat),
    (4, t.lastSummary), (1, bit t.summaryReady), (7, 0), (6, flagsNat (lanes.entries.map laneEventShown)), (2, 0)]

/-- R52: the fields of the STORE block, up to the zeros that fill it. -/
def storeLayout (c : Channel) (cause : ResetCause) (sweepCount : BitVec 32) (cfg : Settings) (k : KeyUnit)
    (done : BitVec 16) (t : Totals) (lanes : LaneTable) : List (Nat × Nat) :=
  storeFront c cause sweepCount ++ (outcomesLayout cfg ++ (storeMiddle c cfg k done t lanes ++ laneStatesLayout lanes))

theorem encode_bytes {α : Type} (value : α → Nat) (l : List α) :
    encode (l.flatMap fun x => [(1, value x)]) = l.map fun x => byteOf (value x) := by
  rw [encode_flatMap, List.flatMap_def]
  induction l with
  | nil => rfl
  | cons x l ih => simpa [leBytes_one] using ih

theorem width_bytes {α : Type} (value : α → Nat) (l : List α) :
    width (l.flatMap fun x => [(1, value x)]) = l.length :=
  (width_flatMap (size := 1) (fun _ => rfl) l).trans (Nat.one_mul _)

section store

variable {c : Channel} {cause : ResetCause} {sweepCount : BitVec 32} {cfg : Settings} {k : KeyUnit}
  {done : BitVec 16} {t : Totals} {lanes : LaneTable}

theorem storeBlock_eq (outcomes : cfg.outcomes.length = 5) (entries : lanes.entries.length = 48) :
    storeBlock c cause sweepCount cfg k done t lanes =
      encode (storeLayout c cause sweepCount cfg k done t lanes ++ [(32, 0)]) := by
  have block : storeBlock c cause sweepCount cfg k done t lanes =
      padTo 128 (encode (storeLayout c cause sweepCount cfg k done t lanes)) := by
    simp [storeBlock, storeLayout, storeFront, outcomesLayout, storeMiddle, laneStatesLayout, encode_bytes, slotShown,
      currentCShown, leBytes_one, leBytes_zero, byteOf, zeros_one,
      laneStateByte_eq]
  have wide : width (storeLayout c cause sweepCount cfg k done t lanes) = 96 := by
    simp [storeLayout, storeFront, outcomesLayout, storeMiddle, laneStatesLayout, width_bytes, outcomes, entries]
  rw [block, padTo_encode (by omega), wide]

/-- R52: each byte, and each field between the tables, of the STORE block. -/
theorem storeBlock_shows (outcomes : cfg.outcomes.length = 5) (entries : lanes.entries.length = 48) :
    Shows (storeBlock c cause sweepCount cfg k done t lanes)
      (placed 0 (storeFront c cause sweepCount) ++ placed 8 (outcomesLayout cfg) ++
        placed 13 (storeMiddle c cfg k done t lanes) ++ placed 48 (laneStatesLayout lanes) ++ [(96, 32, 0)]) := by
  rw [storeBlock_eq outcomes entries]
  apply shows_encode
  have front : width (storeFront c cause sweepCount) = 8 := by simp [storeFront]
  have middle : width (storeMiddle c cfg k done t lanes) = 35 := by simp [storeMiddle]
  have table : width (outcomesLayout cfg) = 5 := (width_bytes _ _).trans outcomes
  have states : width (laneStatesLayout lanes) = 48 := (width_bytes _ _).trans entries
  simp only [storeLayout, placed_append, front, middle, table, states, List.append_assoc]
  exact List.Subset.refl _

theorem storeBlock_length : (storeBlock c cause sweepCount cfg k done t lanes).length = 128 := padTo_length _ _

/-- R52: the outcome of an image group. -/
theorem storeBlock_outcome (outcomes : cfg.outcomes.length = 5) (entries : lanes.entries.length = 48) {g : Nat}
    {o : GroupOutcome} (at_g : cfg.outcomes[g]? = some o) :
    Shows (storeBlock c cause sweepCount cfg k done t lanes) [(8 + g, 1, outcomeCode o)] := by
  have entry : [(8 + 1 * g, 1, outcomeCode o)] ⊆ placed 8 (outcomesLayout cfg) :=
    placed_flatMap (entry := fun o => [(1, outcomeCode o)]) (fun _ => rfl) at_g
  rw [Nat.one_mul] at entry
  refine (storeBlock_shows outcomes entries).mono (List.Subset.trans entry ?_)
  intro f hf
  simp only [List.mem_append, hf, true_or, or_true]

/-- R52: the state byte of a lane. -/
theorem storeBlock_lane (outcomes : cfg.outcomes.length = 5) (entries : lanes.entries.length = 48) {lane : Nat}
    {l : Lane} (at_lane : lanes.entries[lane]? = some l) :
    Shows (storeBlock c cause sweepCount cfg k done t lanes) [(48 + lane, 1, laneStateNat l)] := by
  have entry : [(48 + 1 * lane, 1, laneStateNat l)] ⊆ placed 48 (laneStatesLayout lanes) :=
    placed_flatMap (entry := fun l => [(1, laneStateNat l)]) (fun _ => rfl) at_lane
  rw [Nat.one_mul] at entry
  refine (storeBlock_shows outcomes entries).mono (List.Subset.trans entry ?_)
  intro f hf
  simp only [List.mem_append, hf, true_or, or_true]

/-- R81: the bit of a lane in the lane event set. -/
theorem storeBlock_event (outcomes : cfg.outcomes.length = 5) (entries : lanes.entries.length = 48) {lane : Nat}
    {l : Lane} (at_lane : lanes.entries[lane]? = some l) :
    (leNat (slice (storeBlock c cause sweepCount cfg k done t lanes) 40 6)).testBit lane = laneEventShown l := by
  have field := storeBlock_shows (c := c) (cause := cause) (sweepCount := sweepCount) (k := k) (done := done) (t := t)
    outcomes entries (40, 6, flagsNat (lanes.entries.map laneEventShown)) (by simp [storeMiddle])
  have inside : lane < 48 := by
    rw [← entries]
    exact (List.getElem?_eq_some_iff.1 at_lane).1
  rw [field, show 256 ^ 6 = 2 ^ 48 by rfl, Nat.testBit_mod_two_pow, flagsNat_testBit, decide_eq_true inside,
    Bool.true_and, List.getD_eq_getElem?_getD, List.getElem?_map, at_lane]
  rfl

end store

/-! ### The batch summary (R54, R156) -/

/-- R54: the fields of a summary's header, up to the zeros that fill it. -/
def summaryFront (b : Batch) (store : Nat) (untagged : Bool) : List (Nat × Nat) :=
  [(4, b.number), (4, store), (1, summaryFlags b untagged), (1, (b.range.map (·.1.keyId)).getD 0),
    (3, (b.range.map (·.1.counter)).getD 0), (1, (b.range.map (·.2.keyId)).getD 0),
    (3, (b.range.map (·.2.counter)).getD 0), (3, b.store.count.value), (6, b.store.sum.value),
    (3, b.store.refundCount.value), (6, b.store.refundSum.value)]

/-- R54: the fields of a lane entry. -/
def laneEntryLayout (t : TotalSet) : List (Nat × Nat) :=
  [(2, t.count.value), (5, t.sum.value), (2, t.refundCount.value), (5, t.refundSum.value),
    (1, bit t.count.sat + 2 * bit t.sum.sat + 4 * bit t.refundCount.sat + 8 * bit t.refundSum.sat), (1, 0)]

theorem laneEntry_eq (t : TotalSet) : laneEntry t = encode (laneEntryLayout t) := by
  simp [laneEntry, laneEntryLayout, leBytes_one, byteOf]

theorem rangeBytes_eq (range : Option (KeySerial × KeySerial)) : rangeBytes range =
    encode [(1, (range.map (·.1.keyId)).getD 0), (3, (range.map (·.1.counter)).getD 0),
      (1, (range.map (·.2.keyId)).getD 0), (3, (range.map (·.2.counter)).getD 0)] := by
  cases range with
  | none => rfl
  | some serials => simp [rangeBytes, leBytes_one]

theorem summaryBody_eq (b : Batch) (store : Nat) (untagged : Bool) : summaryBody b store untagged =
    encode (summaryFront b store untagged ++ [(29, 0)] ++ b.lanes.flatMap laneEntryLayout) := by
  have front : padTo 64 (encode (summaryFront b store untagged)) = encode (summaryFront b store untagged ++ [(29, 0)]) := by
    have wide : width (summaryFront b store untagged) = 35 := by simp [summaryFront]
    rw [padTo_encode (by omega), wide]
  rw [encode_append, ← front, encode_flatMap, ← funext laneEntry_eq]
  simp [summaryBody, summaryFront, rangeBytes_eq, leBytes_one]

theorem laneEntryLayout_width (t : TotalSet) : width (laneEntryLayout t) = 16 := rfl

section summary

variable {batch : Batch} {store : Nat} {key : KeySlot}

theorem summaryBody_length (lanes : batch.lanes.length = 48) (untagged : Bool) :
    (summaryBody batch store untagged).length = 832 := by
  rw [summaryBody_eq, encode_length, width_append, width_append, width_flatMap laneEntryLayout_width, lanes]
  simp [summaryFront]

/-- R156: the tag of a summary's body, zeros where BATCH is EMPTY. -/
def summaryTag (batch : Batch) (store : Nat) (key : KeySlot) : List Byte :=
  if key.state = .empty then zeros 8
  else chainedTag key.key (chunksOf 16 52 (summaryBody batch store (key.state == .empty)))

theorem summaryTag_length (bytes : key.key.length = 16) : (summaryTag batch store key).length = 8 := by
  unfold summaryTag
  split
  · rfl
  · exact chainedTag_length bytes _

/-- R54: a summary is its body, its tag and 8 zeros. -/
theorem buildSummary_eq (lanes : batch.lanes.length = 48) (bytes : key.key.length = 16) :
    buildSummary batch store key =
      summaryBody batch store (key.state == .empty) ++ (summaryTag batch store key ++ zeros 8) := by
  have body := summaryBody_length (store := store) lanes (key.state == .empty)
  have tag := summaryTag_length (batch := batch) (store := store) bytes
  have parts : buildSummary batch store key =
      padTo 848 (summaryBody batch store (key.state == .empty) ++ summaryTag batch store key) := by
    simp [buildSummary, summaryTag]
  rw [parts, padTo_of_le (by simp [body, tag]), List.length_append, body, tag, List.append_assoc]

theorem buildSummary_tag (lanes : batch.lanes.length = 48) (bytes : key.key.length = 16) :
    slice (buildSummary batch store key) 832 8 = summaryTag batch store key := by
  rw [buildSummary_eq lanes bytes, slice_append_right _ _ (summaryBody_length lanes _),
    List.take_left' (summaryTag_length bytes)]

/-- R156: the tag is that of the summary's own first 832 bytes. -/
theorem buildSummary_tagged (lanes : batch.lanes.length = 48) (bytes : key.key.length = 16)
    (keyed : key.state ≠ .empty) : slice (buildSummary batch store key) 832 8 =
      chainedTag key.key ((List.range 52).map fun i => slice (buildSummary batch store key) (16 * i) 16) := by
  have body := summaryBody_length (store := store) lanes (key.state == .empty)
  rw [buildSummary_tag lanes bytes, summaryTag, if_neg keyed, chunksOf_eq_slices (by decide) 52 body]
  congr 1
  apply List.map_congr_left
  intro i inside
  have : i < 52 := List.mem_range.1 inside
  rw [buildSummary_eq lanes bytes, slice_append_left (by omega)]

/-- R54: every byte of a summary. -/
theorem buildSummary_shows (lanes : batch.lanes.length = 48) (bytes : key.key.length = 16) :
    Shows (buildSummary batch store key)
      (placed 0 (summaryFront batch store (key.state == .empty)) ++ [(35, 29, 0)] ++
        placed 64 (batch.lanes.flatMap laneEntryLayout) ++
        [(832, 8, leNat (summaryTag batch store key)), (840, 8, 0)]) := by
  have tag : encode [(8, leNat (summaryTag batch store key)), (8, 0)] = summaryTag batch store key ++ zeros 8 := by
    simp [leBytes_leNat, padTo_of_length (summaryTag_length bytes), leBytes_zero]
  have front : width (summaryFront batch store (key.state == .empty)) = 35 := by simp [summaryFront]
  rw [buildSummary_eq lanes bytes, summaryBody_eq, ← tag, ← encode_append]
  apply shows_encode
  simp only [placed_append, front, width_flatMap laneEntryLayout_width, lanes, List.append_assoc]
  exact List.Subset.refl _

/-- R54: the entry of a lane. -/
theorem buildSummary_lane (lanes : batch.lanes.length = 48) (bytes : key.key.length = 16) {lane : Nat} {t : TotalSet}
    (at_lane : batch.lanes[lane]? = some t) :
    Shows (buildSummary batch store key) (placed (64 + 16 * lane) (laneEntryLayout t)) := by
  refine (buildSummary_shows lanes bytes).mono (List.Subset.trans (placed_flatMap laneEntryLayout_width at_lane) ?_)
  intro f hf
  simp only [List.mem_append, hf, true_or, or_true]

end summary

/-! ### The values that the statement spells with flags -/

theorem keyFlags_eq (spec : Flags flag) (cfg : Settings) (k : KeyUnit) : keyFlags cfg k =
    flag ((k.store.current.state = .active ∨ k.store.current.state = .spent) ∧ cfg.warnThreshold ≤ k.currentC) +
      2 * flag (k.store.surrogate.state = .empty ∨ k.store.current.state ≠ .active) +
      4 * flag (k.counterStore = true) := by
  rw [keyFlags, bit_eq_flag spec warningFlag_iff, bit_eq_flag spec noKeyFlag_iff, bit_eq_flag spec Iff.rfl]

theorem flagsNat_four (spec : Flags flag) {l : List Bool} (four : l.length = 4) : flagsNat l =
    flag (l[0]? = some true) + 2 * flag (l[1]? = some true) + 4 * flag (l[2]? = some true) +
      8 * flag (l[3]? = some true) := by
  obtain ⟨b0, b1, b2, b3, rfl⟩ := List.length_eq_four.1 four
  have shown (b : Bool) : flag (some b = some true) = bit b := (bit_eq_flag spec (by simp)).symm
  simp only [flagsNat, List.getElem?_cons_zero, List.getElem?_cons_succ, shown]
  omega

theorem laneStateNat_eq (spec : Flags flag) (l : Lane) : laneStateNat l =
    laneStateCode l.state + 8 * flag (l.suspended = true) + 16 * flag (l.latch = true) +
      32 * flag (l.state = .faulted ∧ l.failures = 4) + 64 * flag (∃ a ∈ l.agreement, a.kinds.clear = true) +
      128 * flag (∃ a ∈ l.agreement, a.kinds.sealed = true) := by
  rw [laneStateNat, bit_eq_flag spec laneLocked_iff, bit_eq_flag spec agreedClear_iff,
    bit_eq_flag spec agreedSealed_iff, bit_eq_flag spec Iff.rfl, bit_eq_flag spec Iff.rfl]

theorem summaryFlags_eq (spec : Flags flag) (batch : Batch) (key : KeySlot) :
    summaryFlags batch (key.state == .empty) =
      flag (batch.afterReset = true) + 2 * flag (key.state = .empty) + 4 * flag (batch.store.sum.sat = true) +
        8 * flag (batch.store.count.sat = true) + 16 * flag (batch.store.refundSum.sat = true) +
        32 * flag (batch.store.refundCount.sat = true) := by
  simp only [summaryFlags, bit_eq_flag spec (beq_iff_eq (a := key.state)), bit_eq_flag spec Iff.rfl]

/-- Settles O50: each block is a layout (`windowBlock_eq`, `storeBlock_shows`, `buildSummary_shows`). -/
theorem blocksAreLaidOut : Obligations.BlocksAreLaidOut := by
  intro shows flag showsIff spec
  obtain rfl : shows = Shows := by
    funext out fields
    exact propext (showsIff out fields)
  replace spec : Flags flag := spec
  refine ⟨fun c ch cCode cause w listed => ⟨padTo_length _ _, ?_⟩,
    fun c cCode cause sweepCount cfg k done t lanes block keyCode listed outcomes overlap entries blockIs codes => ?_,
    fun b store k out lanes bytes outIs => ?_, fun r rCode listed => code_of_mem (by decide) listed⟩
  · have code : causeCode cause = cCode := code_of_mem (by decide) listed
    rw [windowBlock_eq, ← code, ← bit_eq_flag spec conditionShown_iff, ← bit_eq_flag spec conditionShown_iff]
    exact shows_encode (List.Subset.refl _)
  · obtain rfl := blockIs
    have code : causeCode cause = cCode := code_of_mem (by decide) listed
    obtain rfl : keyCode = keyStateCode := by
      obtain ⟨empty, loaded, active, spent⟩ := codes
      funext st
      cases st <;> assumption
    refine ⟨storeBlock_length, (storeBlock_shows outcomes entries).mono ?_, fun g o oCode at_g listed => ?_,
      fun lane l lCode at_lane listed => ⟨?_, ?_⟩⟩
    · simp only [← code, ← flagsNat_four spec overlap, ← keyFlags_eq spec, flag_mul spec,
        ← bit_eq_flag spec conditionShown_iff, ← bit_eq_flag spec (Iff.refl (t.summaryReady = true))]
      simp [storeFront, storeMiddle]
    · have outcome : outcomeCode o = oCode := code_of_mem (by decide) listed
      exact outcome ▸ storeBlock_outcome outcomes entries at_g
    · rw [storeBlock_event outcomes entries at_lane, laneEventShown_iff]
    · have state : laneStateCode l.state = lCode := code_of_mem (by decide) listed
      rw [← state, ← laneStateNat_eq spec]
      exact storeBlock_lane outcomes entries at_lane
  · obtain rfl := outIs
    refine ⟨padTo_length _ _, (buildSummary_shows lanes bytes).mono ?_, fun lane t at_lane => ?_, fun empty => ?_,
      buildSummary_tagged lanes bytes⟩
    · rw [← summaryFlags_eq spec]
      simp [summaryFront]
    · have entry := buildSummary_lane (store := store) (key := k) lanes bytes at_lane
      rw [Nat.add_comm 64] at entry
      simp only [← bit_eq_flag spec Iff.rfl, Nat.add_comm _ (16 * lane)]
      exact entry
    · have untagged : leNat (summaryTag b store k) = 0 := by
        rw [summaryTag, if_pos empty]
        rfl
      refine (buildSummary_shows lanes bytes).mono ?_
      rw [untagged]
      simp

end Sys2Proof.Proofs
end

section
/-! SUPPORT. What each operation of the lane table makes of a sound lane (R56 to R83), and that every move keeps the 48
lanes sound. -/

namespace Sys2Proof.Proofs

open Sys2Proof Sys2Proof.Machine Sys2Proof.Laws

/-! ### One lane (R56, R68, R83) -/

section
variable {l : Lane}

theorem lane_reset_sound : LaneSound Lane.reset := by constructor <;> decide

/-- R60, R64, R68: what a failed attempt leaves of the lane. -/
theorem failEnrolment_eq (l : Lane) : failEnrolment l = { l with
    state := .faulted
    offer := none
    agreement := none
    deadline := none
    failures := min 4 (l.failures + 1)
    enrolment := .pending
    fault := .pending } := rfl

/-- A failed attempt stores nothing, and its failures stop at 4. -/
theorem failEnrolment_sound (h : LaneSound l) : LaneSound (failEnrolment l) where
  latch := h.latch
  failures := Nat.min_le_left ..
  silence := h.silence
  offer := by simp [failEnrolment_eq]
  agreement := by simp [failEnrolment_eq]
  deadline := by simp [failEnrolment_eq]

/-- A lane with nothing stored is sound ABSENT where it is sound FAULTED. -/
theorem absent_sound (h : LaneSound l) (faulted : l.state = .faulted) :
    LaneSound { l with state := .absent } where
  latch := h.latch
  failures := h.failures
  silence := h.silence
  offer := by simpa [faulted] using h.offer
  agreement := by simpa [faulted] using h.agreement
  deadline := by simpa [faulted] using h.deadline

theorem timeoutConfirm_sound (h : LaneSound l) : LaneSound (timeoutConfirm l) := by
  have failed := failEnrolment_sound h
  unfold timeoutConfirm
  dsimp only
  split
  · exact absent_sound failed rfl
  · exact failed

/-- R80: a raised lane event other than SILENT leaves a lane sound. -/
theorem raised_sound (h : LaneSound l) (enrolment fault : Condition) :
    LaneSound { l with enrolment := enrolment, fault := fault } :=
  ⟨h.latch, h.failures, h.silence, h.offer, h.agreement, h.deadline⟩

/-- R59: a noted offer is kept, without agreement or deadline. -/
theorem noteOffer_sound (h : LaneSound l) (o : Offer) : LaneSound (noteOffer o l).lane := by
  have noted : LaneSound { l with state := .offered, offer := some o, agreement := none, deadline := none } :=
    ⟨h.latch, h.failures, h.silence, by simp, by simp, by simp⟩
  unfold noteOffer
  dsimp only
  split
  · exact noted
  · exact raised_sound noted _ _

/-- R60 to R62: the second copy of an offer leaves an OFFERED lane failed, unchanged, or CONFIRMING with its offer. -/
theorem answerOffer_sound (h : LaneSound l) (offered : l.state = .offered) (cfg : Settings) (k : KeyStore)
    (sweep serial : BitVec 32) (lane : Nat) (o : Offer) :
    LaneSound (answerOffer cfg k sweep serial lane o l).lane := by
  unfold answerOffer
  dsimp only
  split
  · exact failEnrolment_sound h
  · split
    · exact h
    · exact ⟨h.latch, h.failures, h.silence, by simpa [raiseEnrolment, offered] using h.offer,
        by simp [raiseEnrolment], by simp [raiseEnrolment]⟩

theorem takeOffer_sound (h : LaneSound l) (cfg : Settings) (k : KeyStore) (sweep serial : BitVec 32) (lane : Nat)
    (o : Offer) : LaneSound (takeOffer cfg k sweep serial lane o l).lane := by
  unfold takeOffer
  split
  · exact noteOffer_sound h o
  · exact noteOffer_sound h o
  · exact noteOffer_sound h o
  · next offered =>
    split
    · exact answerOffer_sound h offered ..
    · exact noteOffer_sound h o
  · split
    · exact raised_sound h _ _
    · exact noteOffer_sound h o

/-- R64: an enrolled lane keeps the agreement of the CONFIRMING one. -/
theorem enrol_sound (h : LaneSound l) (confirming : l.state = .confirming) : LaneSound (enrol l) where
  latch := h.latch
  failures := Nat.zero_le _
  silence := h.silence
  offer := by simp [enrol, raiseEnrolment]
  agreement := by simpa [enrol, raiseEnrolment, confirming] using h.agreement
  deadline := by simp [enrol, raiseEnrolment]

theorem takeConfirm_sound (h : LaneSound l) (c : Confirm) : LaneSound (takeConfirm c l).lane := by
  unfold takeConfirm
  split
  · next confirming _ =>
    split
    · exact enrol_sound h confirming
    · exact failEnrolment_sound h
  · exact failEnrolment_sound h
  · split <;> exact h
  · exact h

/-- R70: a forgotten lane holds nothing, and its latch goes with its SILENT event. -/
theorem forgetLane_sound (h : LaneSound l) : LaneSound (forgetLane l) := by
  have forgotten : LaneSound { l with
      state := .absent, offer := none, agreement := none, deadline := none, high := 0, seen := 0, lastCounter := 0,
      failures := 0, latch := false, silent := .clear, silentDue := false } :=
    ⟨by simp, Nat.zero_le _, h.silence, by simp, by simp, by simp⟩
  unfold forgetLane
  dsimp only
  split
  · exact forgotten
  · exact raised_sound forgotten _ _

theorem setSuspended_sound (b : Bool) (h : LaneSound l) : LaneSound (setSuspended b l) :=
  ⟨h.latch, h.failures, h.silence, h.offer, h.agreement, h.deadline⟩

theorem hearLane_sound (h : LaneSound l) : LaneSound (hearLane l) :=
  ⟨h.latch, h.failures, Nat.zero_le _, h.offer, h.agreement, h.deadline⟩

/-- R77, R78: the silence count stops at 255. -/
theorem sweepLane_sound (threshold : Nat) (h : LaneSound l) : LaneSound (sweepLane threshold l) :=
  ⟨h.latch, h.failures, Nat.min_le_left .., h.offer, h.agreement, h.deadline⟩

theorem silenceLane_sound (h : LaneSound l) : LaneSound (silenceLane l) :=
  ⟨by simp [silenceLane], h.failures, h.silence, h.offer, h.agreement, h.deadline⟩

theorem markSequence_sound (q : Nat) (h : LaneSound l) : LaneSound (markSequence q l) := by
  have window (high : Nat) (seen : BitVec 32) : LaneSound { l with high := high, seen := seen } :=
    ⟨h.latch, h.failures, h.silence, h.offer, h.agreement, h.deadline⟩
  unfold markSequence
  split
  · exact window _ _
  · split
    · exact window _ _
    · exact h

theorem commitLane_sound (q : Nat) (counter : Option Nat) (h : LaneSound l) : LaneSound (commitLane q counter l) := by
  have marked := markSequence_sound q h
  cases counter with
  | none => exact marked
  | some c => exact ⟨marked.latch, marked.failures, marked.silence, marked.offer, marked.agreement, marked.deadline⟩

/-- R81: an event that is reported stays shown. -/
theorem reportCondition_eq_clear {c : Condition} : reportCondition c = .clear ↔ c = .clear := by
  cases c <;> simp [reportCondition]

theorem reportLane_sound (h : LaneSound l) : LaneSound (reportLane l) :=
  ⟨h.latch.trans (not_congr reportCondition_eq_clear.symm), h.failures, h.silence, h.offer, h.agreement, h.deadline⟩

/-- R82, R83: the latch falls exactly where a reported SILENT is cleared. -/
theorem acknowledgeLane_sound (h : LaneSound l) : LaneSound (acknowledgeLane l) where
  latch := by
    have before := h.latch
    unfold acknowledgeLane
    cases silent : l.silent with
    | reported => simp [acknowledgeCondition]
    | clear => simpa [acknowledgeCondition, silent] using before
    | pending => simpa [acknowledgeCondition, silent] using before
  failures := h.failures
  silence := h.silence
  offer := h.offer
  agreement := h.agreement
  deadline := h.deadline

end

/-! ### The lane table -/

theorem laneAt_sound {s : State} (h : LanesSound s) (lane : Nat) : LaneSound (laneAt s lane) := by
  unfold Machine.laneAt
  rw [List.getD_eq_getElem?_getD]
  cases found : s.lanes.entries[lane]? with
  | none => exact lane_reset_sound
  | some l => exact h.all_ l (List.mem_of_getElem? found)

/-- From `s` to `t` a sound lane table stays sound. -/
def LanesKept (s t : State) : Prop := LanesSound s → LanesSound t

namespace LanesKept

variable {s t u : State} {fs : List Field}

theorem refl (s : State) : LanesKept s s := id

theorem trans (h : LanesKept s t) (k : LanesKept t u) : LanesKept s u := k ∘ h

theorem ite {p : Prop} [Decidable p] (h : LanesKept s t) (k : LanesKept s u) :
    LanesKept s (if p then t else u) := by split <;> assumption

theorem of_touches (h : Touches fs s t) (lanes : .lanes ∉ fs := by decide) : LanesKept s t := fun sound =>
  ⟨h.lanes lanes ▸ sound.count, h.lanes lanes ▸ sound.all_⟩

theorem andTouches (h : LanesKept s t) (k : Touches fs t u) (lanes : .lanes ∉ fs := by decide) : LanesKept s u :=
  h.trans (of_touches k lanes)

/-- An update of one lane, where the lane it leaves is sound. -/
theorem of_updAt {lane : Nat} {f : Lane → Lane} (entries : t.lanes.entries = updAt s.lanes.entries lane f)
    (keeps : LanesSound s → ∀ l, LaneSound l → LaneSound (f l)) : LanesKept s t := fun sound => by
  refine ⟨by rw [entries, updAt_length, sound.count], fun l mem => ?_⟩
  obtain ⟨i, found⟩ := List.mem_iff_getElem?.mp mem
  rw [entries, updAt_getElem?] at found
  split at found
  · obtain ⟨m, before, rfl⟩ := Option.map_eq_some_iff.mp found
    exact keeps sound m (sound.all_ m (List.mem_of_getElem? before))
  · exact sound.all_ l (List.mem_of_getElem? found)

theorem onLane {f : Lane → Lane} (keeps : ∀ {l}, LaneSound l → LaneSound (f l)) (lane : Nat) (s : State) :
    LanesKept s (onLane lane f s) := of_updAt rfl fun _ _ => keeps

/-- An update of every lane. -/
theorem onEvery {f : Lane → Lane} (keeps : ∀ {l}, LaneSound l → LaneSound (f l)) (s : State) :
    LanesKept s (onLanes (fun t => { t with entries := t.entries.map f }) s) := fun sound => by
  refine ⟨(List.length_map _).trans sound.count, fun l mem => ?_⟩
  obtain ⟨m, before, rfl⟩ := List.mem_map.mp mem
  exact keeps (sound.all_ m before)

end LanesKept

variable (s : State)

/-! ### Timeouts, silence, directives, reports (R66, R69, R70, R78, R81, R82) -/

theorem timeoutLane_lanes (lane : Nat) : LanesKept s (timeoutLane lane s) :=
  .ite ((LanesKept.onLane timeoutConfirm_sound lane s).andTouches (oweStore_touches _)) (.refl s)

theorem silentLane_lanes (lane : Nat) : LanesKept s (silentLane lane s) :=
  .ite ((LanesKept.onLane silenceLane_sound lane s).andTouches (oweStore_touches _)) (.refl s)

theorem forgetOn_lanes (lane : Nat) : LanesKept s (forgetOn lane s) := by
  have forgotten := LanesKept.onLane forgetLane_sound lane s
  exact .ite forgotten (forgotten.andTouches (oweStore_touches _))

theorem laneDirective_lanes (lane : Nat) {f : State → State} (effect : ∀ s, LanesKept s (f s)) :
    LanesKept s (laneDirective lane f s) := by
  have taken (r : Option DirectiveResult) := LanesKept.of_touches (takeDirective_touches s r)
  exact .ite (taken _) ((taken _).trans (effect _))

theorem runDirective_lanes (code : DirectiveCode) : LanesKept s (runDirective code s) := by
  have taken (r : Option DirectiveResult) := LanesKept.of_touches (takeDirective_touches s r)
  cases code with
  | incomplete => exact taken _
  | unknown => exact taken _
  | statusNow => exact (taken _).andTouches (onReport_touches _ _)
  | laneSuspend => exact laneDirective_lanes s _ fun s => .onLane (setSuspended_sound true) _ s
  | laneResume => exact laneDirective_lanes s _ fun s => .onLane (setSuspended_sound false) _ s
  | laneForget => exact laneDirective_lanes s _ fun s => forgetOn_lanes s _
  | batchClose => exact (taken _).andTouches (startClose_touches _ _)

theorem reportChannel_lanes (ch : Nat) : LanesKept s (reportChannel ch s) := by
  have taken := LanesKept.of_touches (onChannel_touches s ch contentTaken)
  have reported (u : State) : LanesKept u (reportLanes ch u) := .ite (.onEvery reportLane_sound u) (.refl u)
  exact .ite ((taken.trans (reported _)).andTouches (offerEntry_touches _ _)) (.refl s)

theorem returnStep_lanes : LanesKept s (returnStep s) := by
  unfold returnStep
  split
  · exact .refl s
  · next r rest _ =>
    have taken : LanesKept s (onPath (fun p => { p with shownReturns := rest }) s) :=
      .of_touches (onPath_touches s _)
    have handed := taken.andTouches (handConsumed_touches _ r.ch r.beat)
    exact .ite ((LanesKept.ite (handed.trans (.onEvery acknowledgeLane_sound _)) handed).andTouches
      (onChannel_touches _ _ _)) taken

theorem sweepStep_lanes : LanesKept s (sweepStep s) := by
  have counted : LanesKept s { s with sweepCount := s.sweepCount + 1 } := fun sound => ⟨sound.count, sound.all_⟩
  exact (((counted.andTouches (onIntake_touches _ _)).trans (.onEvery (sweepLane_sound _) _)).andTouches
    (onReport_touches _ _)).andTouches (retryWrite_touches _)

/-! ### The record in work (R77, R94, R104) -/

theorem reportDecision_lanes (h : Hold) (d : Disposition) : LanesKept s (reportDecision h d s) := by
  have counted := LanesKept.of_touches (countOutcome_touches s h.window d)
  exact .ite (counted.trans (.onLane hearLane_sound _ _)) counted

theorem decideRecord_lanes (h : Hold) (d : Disposition) (r : Reason) (output : List Byte) :
    LanesKept s (decideRecord h d r output s) := (reportDecision_lanes s h d).andTouches (onWork_touches _ _)

theorem decideHeaderOnly_lanes (h : Hold) (d : Disposition) (r : Reason) : LanesKept s (decideHeaderOnly h d r s) :=
  decideRecord_lanes s h d r _

theorem enrolmentAnswer_sound (h : Hold) (sound : LanesSound s) : LaneSound (enrolmentAnswer h s).lane := by
  have before := laneAt_sound sound (headerLane h)
  unfold enrolmentAnswer
  split
  · exact takeOffer_sound before ..
  · exact takeConfirm_sound before _

/-- R94: the lane that an enrolment request leaves is the lane table's answer. -/
theorem enrolmentStage_lanes (h : Hold) : LanesKept s (enrolmentStage h s) := by
  have entered : LanesKept s (enterEnrolment (headerLane h) (enrolmentAnswer h s) s) := by
    have changed : LanesKept s (onLanes (fun t => { t with
        entries := updAt t.entries (headerLane h) fun _ => (enrolmentAnswer h s).lane
        answerSerial := if (enrolmentAnswer h s).usedSerial then t.answerSerial + 1 else t.answerSerial }) s) :=
      .of_updAt rfl fun sound _ _ => enrolmentAnswer_sound s h sound
    exact .ite (changed.andTouches (oweStore_touches _)) changed
  exact (entered.trans (reportDecision_lanes _ _ _)).andTouches (onWork_touches _ _)

theorem admissionStage_lanes (h : Hold) (a : Admission) : LanesKept s (admissionStage h a s) := by
  unfold admissionStage
  split
  · exact decideHeaderOnly_lanes s _ _ _
  · exact .ite (.of_touches (passTo_touches s _)) (.of_touches (onWork_touches s _))

theorem judgeStage_lanes (h : Hold) (a : Option Admission) : LanesKept s (judgeStage h a s) := by
  have refused (d : Disposition) (r : Reason) := decideHeaderOnly_lanes s h d r
  unfold judgeStage
  refine .ite (.ite (refused _ _) (refused _ _)) ?_
  split
  · exact refused _ _
  · refine .ite (decideRecord_lanes s _ _ _ _) (.ite (refused _ _) (.ite (enrolmentStage_lanes s h) ?_))
    split
    · exact admissionStage_lanes s h _
    · exact .refl s

theorem unsealStage_lanes (h : Hold) (a : Admission) (keys : List Byte × List Byte) :
    LanesKept s (unsealStage h a keys s) := by
  have formed (f : Work → Work) : LanesKept s (onWork f s) := .of_touches (onWork_touches s f)
  exact .ite (decideHeaderOnly_lanes s _ _ _)
    (.ite ((formed _).trans (decideHeaderOnly_lanes _ _ _ _)) ((formed _).andTouches (passTo_touches _ _)))

theorem bodyStage_lanes (h : Hold) (body : List Byte) : LanesKept s (bodyStage h body s) := by
  unfold bodyStage
  split
  · exact decideHeaderOnly_lanes s _ _ _
  · exact .of_touches (passTo_touches s _)

/-- R101, R135: a hand-out leaves the lane table alone. -/
theorem handOutToRecord_lanes : LanesKept s (handOutToRecord s) := by
  have changed := LanesKept.of_touches (keyChange_touches s handOutKey)
  exact (LanesKept.ite (changed.andTouches (requestKeyWrite_touches _)) changed).andTouches (onWork_touches _ _)

theorem computeStage_lanes (h : Hold) (body : List Byte) (c : Capture) : LanesKept s (computeStage h body c s) :=
  (LanesKept.onLane (commitLane_sound _ _) _ s).andTouches (onWork_touches _ _)

theorem concludeStage_lanes (h : Hold) (body : List Byte) (c : Capture) (p : Products) :
    LanesKept s (concludeStage h body c p s) := by
  unfold concludeStage
  split
  · exact (LanesKept.of_touches (onWork_touches s _)).trans (decideRecord_lanes _ _ _ _ _)
  · exact .refl s

theorem runStage_lanes (h : Hold) (w : Work) : LanesKept s (runStage h w s) := by
  have refused (d : Disposition) (r : Reason) := decideHeaderOnly_lanes s h d r
  unfold runStage
  split
  · exact judgeStage_lanes s h _
  · exact .of_touches (resultStage_touches s h w)
  · exact .ite (.of_touches (onWork_touches s _)) (refused _ _)
  · exact unsealStage_lanes s h _ _
  · exact bodyStage_lanes s h _
  · exact .ite (refused _ _) (.ite (handOutToRecord_lanes s) (.of_touches (waitForReservation_touches s)))
  · exact computeStage_lanes s h _ _
  · exact .of_touches (totalsStage_touches s h _ _)
  · exact concludeStage_lanes s h _ _ _
  · exact .refl s

theorem stageStep_lanes : LanesKept s (stageStep s) := by
  unfold stageStep
  split
  · split
    · exact runStage_lanes s _ _
    · exact .refl s
  · exact .refl s

/-! ### Store writes and frames: a refused key request hears its lane (R102, R136, R145) -/

theorem endWaiting_lanes (r : Reason) (h : Hold) : LanesKept s (endWaiting r h s) :=
  (LanesKept.of_touches (onKeys_touches s _)).trans (decideHeaderOnly_lanes _ _ _ _)

theorem judgeWaiting_lanes (completed : Bool) : LanesKept s (judgeWaiting completed s) := by
  unfold judgeWaiting
  refine .ite (.refl s) ?_
  split
  · exact .refl s
  · exact .ite (endWaiting_lanes s _ _) (.ite (endWaiting_lanes s _ _) (.ite (handOutToRecord_lanes s)
      (.of_touches (requestWrite_touches s _))))

theorem keyWriteEnded_lanes (r : Option Reservation) (forPort completed : Bool) :
    LanesKept s (keyWriteEnded r forPort completed s) := by
  have changed := LanesKept.of_touches (keyChange_touches s (endKeyWrite completed r))
  have told := LanesKept.ite (p := forPort) (changed.andTouches (portOutcome_touches _ completed)) changed
  exact .ite (told.trans (judgeWaiting_lanes _ _)) told

theorem endStoreWrite_lanes (completed : Bool) : LanesKept s (endStoreWrite completed s) := by
  unfold endStoreWrite
  split
  · next w _ =>
    refine (LanesKept.of_touches (onNv_touches s (endWriting w completed))).trans ?_
    cases w with
    | keyStore _ r forPort => exact keyWriteEnded_lanes _ r forPort completed
    | batchNumber _ => exact .of_touches (numberWritten_touches _ completed)
    | imageGroup _ _ => exact .of_touches (portOutcome_touches _ completed)
    | imageLock => exact .of_touches (portOutcome_touches _ completed)
    | erase => exact keyWriteEnded_lanes _ none true completed
  · exact .refl s

theorem eraseFrame_lanes (clocked : List Byte) : LanesKept s (eraseFrame clocked s) := by
  have erased (u : State) : LanesKept u (eraseStep u) := by
    have k := ((LanesKept.of_touches (onNv_touches u voidReservations)).andTouches
      (onKeys_touches _ eraseKeys)).andTouches (oweStore_touches _)
    unfold eraseStep
    dsimp only
    split
    · exact k.trans (endWaiting_lanes _ _ _)
    · exact k
  exact (((LanesKept.of_touches (answerFrame_touches s _ _)).trans (erased _)).andTouches
    (requestWrite_touches _ _)).andTouches (holdOutstanding_touches _)

/-- R145: of the frames only an ERASE reaches the lane table. -/
theorem takeFrame_lanes (bytes : List Byte) : LanesKept s (takeFrame bytes s) := by
  have answered (n : Nat) (a : List Byte) := LanesKept.of_touches (answerFrame_touches s n a)
  have judged (wanted : Nat) (length : Byte) (clocked : List Byte) {act : State → State} (acts : LanesKept s (act s)) :
      LanesKept s (judgedFrame wanted length clocked act s) := by
    unfold judgedFrame
    split
    · exact answered _ _
    · exact acts
  unfold takeFrame
  refine .ite (.refl s) (.ite ?_ (.of_touches (onPort_touches s _)))
  unfold actOnFrame
  split
  · next command length clocked =>
    unfold actOnCommand
    refine .ite (answered _ _) ?_
    split
    · exact judged _ _ _ (answered _ _)
    · exact judged _ _ _ (.of_touches (loadKeyFrame_touches s _))
    · exact .of_touches (loadImageFrame_touches s _ _)
    · exact judged _ _ _ (.of_touches (lockFrame_touches s _))
    · exact judged _ _ _ (eraseFrame_lanes s _)
    · exact answered _ _
  · exact answered _ _

/-! ### The moves -/

theorem reset_lanesSound {t : State} (h : t.lanes = LaneTable.reset) : LanesSound t :=
  ⟨by rw [h]; rfl, fun l mem => by
    rw [h] at mem
    exact (List.eq_of_mem_replicate mem) ▸ lane_reset_sound⟩

variable {s}

/-- The moves that reach the lane table, each; a reset makes every lane ABSENT (R57). -/
theorem Move.lanes {c : Instr} {fs : List Field} {t : State} (move : Move c fs s t) : LanesKept s t := by
  have kept := move.touches
  cases move with
  | timeout lane => exact timeoutLane_lanes s lane
  | silent lane => exact silentLane_lanes s lane
  | report => exact reportChannel_lanes s _
  | directive => exact runDirective_lanes s _
  | returnWord => exact returnStep_lanes s
  | stage => exact stageStep_lanes s
  | sweep => exact sweepStep_lanes s
  | frame bytes => exact takeFrame_lanes s bytes
  | storeEnd => exact endStoreWrite_lanes s _
  | reset => exact fun _ => reset_lanesSound rfl
  | _ => exact .of_touches kept

/-- Settles O53: every move keeps the lanes sound, and no queue of commands enters into it. -/
theorem lanesStaySound : Obligations.LanesStaySound := fun _ _ sound run =>
  step_keeps (fun _ _ _ _ move => move.lanes) (fun _ _ sound => ⟨sound.count, sound.all_⟩) run sound

end Sys2Proof.Proofs
end

section
/-! SUPPORT. The lane directives, confirm timeouts and silence, in full (R66, R68 to R71, R78, R181). -/

namespace Sys2Proof.Proofs

open Sys2Proof Sys2Proof.Machine Sys2Proof.Laws

variable {s : State}

/-! ### Lane directives (R69 to R71, R181) -/

/-- R70: what LANE_FORGET leaves of its lane, in full. -/
theorem forgetLane_eq (l : Lane) : forgetLane l = { l with
    state := .absent
    offer := none
    agreement := none
    deadline := none
    high := 0
    seen := 0
    lastCounter := 0
    failures := 0
    latch := false
    silent := .clear
    silentDue := false
    enrolment := if l.state = .absent then l.enrolment else .pending } := by
  unfold forgetLane
  split <;> rfl

/-- R70, R80: a forgotten lane that was not ABSENT makes STORE owe a write. -/
theorem forgetOn_eq (lane : Nat) (s : State) : forgetOn lane s = { s with
    lanes := { s.lanes with entries := updAt s.lanes.entries lane forgetLane }
    report := if (laneAt s lane).state = .absent then s.report else updAt s.report 4 oweOn } := by
  unfold forgetOn
  split <;> rfl

/-- R181: a directive on a lane that there is. -/
theorem laneDirective_done {lane : Nat} (listed : lane ≤ 47) (effect : State → State) (s : State) :
    laneDirective lane effect s = effect (takeDirective (some .done) s) := if_neg (Nat.not_lt.mpr listed)

/-- R181: a directive on a lane above 47. -/
theorem laneDirective_badLane {lane : Nat} (above : ¬lane ≤ 47) (effect : State → State) (s : State) :
    laneDirective lane effect s = takeDirective (some .badLane) s := if_pos (Nat.not_le.mp above)

/-- R69: the suspended flag set or cleared by a directive, in full. -/
theorem laneDirective_setSuspended (lane : Nat) (flag : Bool) (s : State) :
    laneDirective lane (onLane lane (setSuspended flag)) s = { s with
      lanes := { s.lanes with
        entries := if lane ≤ 47 then updAt s.lanes.entries lane fun l => { l with suspended := flag }
          else s.lanes.entries }
      directives := { s.directives with
        captures := updAt s.directives.captures (s.directives.done.toNat % 16) fun _ => captureEmpty
        inProgress := some ⟨some (if lane ≤ 47 then .done else .badLane), false⟩ } } := by
  by_cases listed : lane ≤ 47
  · simp only [laneDirective_done listed, listed, if_true]
    rfl
  · simp only [laneDirective_badLane listed, listed, if_false]
    rfl

/-- R70: LANE_FORGET, in full. -/
theorem laneDirective_forgetOn (lane : Nat) (s : State) :
    laneDirective lane (forgetOn lane) s = { s with
      lanes := { s.lanes with
        entries := if lane ≤ 47 then updAt s.lanes.entries lane forgetLane else s.lanes.entries }
      report := if lane ≤ 47 ∧ (laneAt s lane).state ≠ .absent then updAt s.report 4 oweOn else s.report
      directives := { s.directives with
        captures := updAt s.directives.captures (s.directives.done.toNat % 16) fun _ => captureEmpty
        inProgress := some ⟨some (if lane ≤ 47 then .done else .badLane), false⟩ } } := by
  by_cases listed : lane ≤ 47
  · rw [laneDirective_done listed, forgetOn_eq]
    simp only [listed, if_true, true_and, ite_not]
    rfl
  · simp only [laneDirective_badLane listed, listed, if_false, false_and]
    rfl

theorem directiveDue_iff {d : DirectiveUnit} :
    directiveDue d = true ↔ d.done ≠ d.producer ∧ d.inProgress = none := by
  simp [directiveDue]

/-- R179: the command of the directive at index done, where nothing is due before it. -/
theorem directiveCommand_due (done : TakeDone s) (due : directiveDue s.directives = true) :
    directiveCommand (codeOf (doneCapture s.directives)) s =
      reportDue (runDirective (codeOf (doneCapture s.directives)) s) := by
  rw [directiveCommand, whenRunning_settleTake_of done, directiveStep, due]
  simp

/-- LANE_SUSPEND and LANE_RESUME leave the channels alone, so no issue follows. -/
theorem reportDue_setSuspended (done : TakeDone s) (lane : Nat) (flag : Bool) :
    reportDue (laneDirective lane (onLane lane (setSuspended flag)) s) =
      laneDirective lane (onLane lane (setSuspended flag)) s := by
  have taken (r : Option DirectiveResult) := (takeDirective_touches s r).mono (gs := [.directives, .lanes]) (by decide)
  exact reportDue_of_kept done.1 (Touches.ite (taken _) ((taken _).andThen (onLane_touches _ _ _) (by decide)))

/-- Settles O20: the three directives of a lane, each in full. -/
theorem laneDirectivesChangeTheirLane : Obligations.LaneDirectivesChangeTheirLane := by
  intro s lane done waits idle byte2
  have due : directiveDue s.directives = true := directiveDue_iff.mpr ⟨waits, idle⟩
  have run {code : DirectiveCode} (is : codeOf (doneCapture s.directives) = code) :
      directiveCommand code s = reportDue (runDirective code s) := is ▸ directiveCommand_due done due
  subst byte2
  refine ⟨fun c code flag listed is => ?_, fun is => ?_⟩
  · rw [← laneDirective_setSuspended]
    obtain ⟨rfl, rfl, rfl⟩ | ⟨rfl, rfl, rfl⟩ : (c = .laneSuspend ∧ code = .laneSuspend ∧ flag = true) ∨
        (c = .laneResume ∧ code = .laneResume ∧ flag = false) := by simpa using listed
    · exact congrArg Host.Outcome.next ((run is).trans (reportDue_setSuspended done _ true))
    · exact congrArg Host.Outcome.next ((run is).trans (reportDue_setSuspended done _ false))
  · simp only [← forgetLane_eq]
    rw [← laneDirective_forgetOn]
    exact congrArg Host.Outcome.next (run is)

/-! ### Confirm timeouts (R66, R68) -/

theorem confirmExpired_iff {sweep : BitVec 32} {l : Lane} :
    confirmExpired sweep l = true ↔ l.state = .confirming ∧ l.deadline = some sweep := by
  simp [confirmExpired]

/-- R66, R68: a timed-out confirm is a failed attempt, of a lane that is FAULTED with its fourth failure only. -/
theorem timeoutConfirm_eq (l : Lane) : timeoutConfirm l = { l with
    state := if l.failures < 3 then .absent else .faulted
    offer := none
    agreement := none
    deadline := none
    failures := min 4 (l.failures + 1)
    enrolment := .pending
    fault := .pending } := by
  have fewer : (failEnrolment l).failures < 4 ↔ l.failures < 3 := by
    rw [failEnrolment_eq]
    dsimp only
    omega
  unfold timeoutConfirm
  simp only [fewer]
  split <;> rfl

theorem timeoutLane_eq {lane : Nat} (due : confirmExpired s.sweepCount (laneAt s lane) = true) :
    timeoutLane lane s = { s with
      lanes := { s.lanes with entries := updAt s.lanes.entries lane timeoutConfirm }
      report := updAt s.report 4 oweOn } := if_pos due

theorem silentLane_eq {lane : Nat} (due : (laneAt s lane).silentDue = true) :
    silentLane lane s = { s with
      lanes := { s.lanes with entries := updAt s.lanes.entries lane silenceLane }
      report := updAt s.report 4 oweOn } := if_pos due

theorem laneAt_of_getElem? {lane : Nat} {l : Lane} (found : s.lanes.entries[lane]? = some l) :
    laneAt s lane = l := by
  rw [laneAt, List.getD_eq_getElem?_getD, found, Option.getD_some]

/-! ### Nothing due of a sweep (log 2) -/

theorem exec_confirmTimeout (lane : LaneId) (s : State) :
    exec (.confirmTimeout lane) s = .next (reportOnceSwept (timeoutLane lane s)) := rfl

theorem exec_laneSilent (lane : LaneId) (s : State) :
    exec (.laneSilent lane) s = .next (reportOnceSwept (silentLane lane s)) := rfl

theorem exec_gapFill (w : Window) (s : State) :
    exec (.gapFill w) s = .next (reportOnceSwept (forBelow (w + 1) fillGap s)) := rfl

theorem reportOnceSwept_of_quiet (quiet : Quiet s) : reportOnceSwept s = s := by
  unfold reportOnceSwept
  rw [reportDue_of (quiet_reports quiet).2, ite_self]

/-- What a sweep makes due changes nothing where nothing is due. -/
theorem exec_sweepPart_of_quiet (quiet : Quiet s) (running : s.phase = .running) {c : Instr}
    (part : c = .holdExpiry ∨ (∃ w, c = .gapFill w) ∨ ∃ lane, c = .confirmTimeout lane ∨ c = .laneSilent lane) :
    exec c s = .next s := by
  obtain ⟨holds, gaps, lanes⟩ := sweepPending_false ((quiet_reports quiet).1 running).2
  obtain rfl | ⟨w, rfl⟩ | ⟨lane, rfl | rfl⟩ := part
  · rw [exec_holdExpiry, expireNext_of holds, reportOnceSwept_of_quiet quiet]
  · rw [exec_gapFill, forBelow_of fun v below => fillGap_of (gaps v (by omega)), reportOnceSwept_of_quiet quiet]
  · rw [exec_confirmTimeout, timeoutLane_of (lanes lane lane.isLt).1, reportOnceSwept_of_quiet quiet]
  · rw [exec_laneSilent, silentLane_of (lanes lane lane.isLt).2, reportOnceSwept_of_quiet quiet]

/-- Settles O25: a timeout and a silence where they are due, and nothing elsewhere. -/
theorem lanesTimeOutAndFallSilent : Obligations.LanesTimeOutAndFallSilent := by
  refine ⟨fun s lane l found => ?_, fun s c quiet running part => exec_sweepPart_of_quiet quiet running part⟩
  have here := laneAt_of_getElem? found
  refine ⟨fun confirming deadline => ?_, fun other => ?_, fun due => ?_, fun idle => ?_⟩
  · simp only [← timeoutConfirm_eq]
    rw [exec_confirmTimeout, timeoutLane_eq (here ▸ confirmExpired_iff.mpr ⟨confirming, deadline⟩)]
  · have notDue : confirmExpired s.sweepCount (laneAt s lane) = false := by
      rw [here, Bool.eq_false_iff, ne_eq, confirmExpired_iff]
      exact fun both => other.elim (· both.1) (· both.2)
    rw [exec_confirmTimeout, timeoutLane_of notDue]
  · rw [exec_laneSilent, silentLane_eq (here ▸ due)]
    rfl
  · rw [exec_laneSilent, silentLane_of (here ▸ idle)]

end Sys2Proof.Proofs
end

section
/-! SUPPORT. Enrolment records at the judge stage: what an offer and a confirm make of their lane, and how the record
ends, in full (R58 to R65, R68, R77, R80, R90, R94). -/

namespace Sys2Proof.Proofs

open Sys2Proof Sys2Proof.Machine Sys2Proof.Laws

variable {s : State} {w : Work} {h : Hold}

/-! ### The judge stage of an enrolment record (R91 to R94) -/

theorem exec_engineTake_stage {st : Stage} (engineAt : EngineAt s st w h) :
    exec .engineTake s = .next (reportDue (runStage h w s)) := by
  have step : stageStep s = runStage h w s := by
    unfold stageStep
    simp only [engineAt.work, engineAt.hold]
  change Host.Outcome.next (if s.engine.work = none then _ else event stageStep s) = _
  rw [if_neg (by simp [engineAt.work]), event_of _ engineAt.quiet, step]

/-- R92: the shape stage passes what is shaped. -/
theorem shapeReason_of_shaped (shaped : Shaped h) : shapeReason h = none := by
  obtain ⟨⟨low, high⟩, version, length, one, two, three, four, five⟩ := shaped
  have long : minimumLength (headerKind h) ≤ headerLength h := by
    generalize headerKind h = kind at *
    obtain rfl | rfl | rfl | rfl | rfl : kind = 1 ∨ kind = 2 ∨ kind = 3 ∨ kind = 4 ∨ kind = 5 := by omega
    · exact one rfl
    · exact two rfl
    · exact three rfl
    · exact four rfl
    · exact five rfl
  unfold shapeReason
  rw [if_neg (by omega), if_neg (by simpa using version), length, if_neg (by simp), if_neg (by omega)]

/-- R94: a shaped enrolment record of a lane 0 to 47 makes its request. -/
theorem judgeStage_enrolment (fresh : h.expired = false) (shaped : Shaped h) (kind : 4 ≤ headerKind h)
    (lane : headerLane h ≤ 47) (a : Option Admission) : judgeStage h a s = enrolmentStage h s := by
  unfold judgeStage
  rw [shapeReason_of_shaped shaped, fresh, if_neg (by simp)]
  dsimp only
  rw [if_neg (by omega), if_neg (by omega), if_pos kind]

/-- R90, R94: the outcome of an enrolment record `w` whose lane table's answer is `a`. -/
def enrolmentEnded (s : State) (w : Work) (h : Hold) (a : EnrolmentAnswer) : State :=
  { withWork s { w with stage := .result, agreement := a.agreement, outcome := some (a.disposition, a.reason) } with
    report := match countOf a.disposition with
      | some id => updAt (if a.raised then updAt s.report 4 oweOn else s.report) h.window (countOn id 1)
      | none => if a.raised then updAt s.report 4 oweOn else s.report
    lanes :=
      { entries := updAt s.lanes.entries (headerLane h) fun _ => { a.lane with silence := 0 }
        answerSerial := if a.usedSerial then s.lanes.answerSerial + 1 else s.lanes.answerSerial } }

/-- R58, R80: the answer entered, in full. -/
theorem enterEnrolment_eq (lane : Nat) (a : EnrolmentAnswer) (s : State) : enterEnrolment lane a s = { s with
    lanes :=
      { entries := updAt s.lanes.entries lane fun _ => a.lane
        answerSerial := if a.usedSerial then s.lanes.answerSerial + 1 else s.lanes.answerSerial }
    report := if a.raised then updAt s.report 4 oweOn else s.report } := by
  unfold enterEnrolment
  dsimp only
  cases a.raised <;> rfl

/-- R77, R90: a decision on a record that hears its lane, in full. -/
theorem reportDecision_eq (fresh : h.expired = false) (lane : headerLane h ≤ 47) (d : Disposition) (s : State) :
    reportDecision h d s = { s with
      report := match countOf d with
        | some id => updAt s.report h.window (countOn id 1)
        | none => s.report
      lanes := { s.lanes with entries := updAt s.lanes.entries (headerLane h) hearLane } } := by
  have hears : hearsLane h = true := by simp [hearsLane, fresh, lane]
  unfold reportDecision countOutcome
  rw [hears, if_pos rfl]
  cases countOf d <;> rfl

theorem enrolmentStage_eq (work : s.engine.work = some w) (fresh : h.expired = false) (lane : headerLane h ≤ 47) :
    enrolmentStage h s = enrolmentEnded s w h (enrolmentAnswer h s) := by
  unfold enrolmentStage
  dsimp only
  rw [enterEnrolment_eq, reportDecision_eq fresh lane]
  simp only [onWork, onEngine, work, Option.map_some, updAt_updAt]
  rfl

/-- R94: ENGINE_TAKE of an enrolment record of a lane 0 to 47 at the judge stage. -/
theorem exec_enrolment (engineAt : EngineAt s .judge w h) (fresh : h.expired = false) (shaped : Shaped h)
    (kind : 4 ≤ headerKind h) (lane : headerLane h ≤ 47) :
    exec .engineTake s = .next (reportDue (enrolmentEnded s w h (enrolmentAnswer h s))) := by
  have run : runStage h w s = judgeStage h w.admission s := by
    unfold runStage
    rw [engineAt.stage]
  rw [exec_engineTake_stage engineAt, run, judgeStage_enrolment fresh shaped kind lane,
    enrolmentStage_eq engineAt.work fresh lane]

/-! ### Offers (R59 to R63) -/

variable {l : Lane} {o : Offer} {cfg : Settings} {k : KeyStore} {sweep serial : BitVec 32} {lane : Nat}

/-- R59: a noted offer, in full. -/
theorem noteOffer_eq (o : Offer) (l : Lane) : noteOffer o l =
    ⟨{ l with
        state := .offered
        offer := some o
        agreement := none
        deadline := none
        enrolment := if l.state = .offered then l.enrolment else .pending },
      .noted, .none, none, decide (l.state ≠ .offered), false⟩ := by
  unfold noteOffer
  by_cases offered : l.state = .offered
  · simp [offered]
  · simp [offered, raiseEnrolment]

/-- R59, R63: the offers that are noted. -/
theorem takeOffer_noted (noted : l.state = .absent ∨ l.state = .confirming ∨ l.state = .enrolled ∨
    (l.state = .faulted ∧ l.failures ≠ 4) ∨ (l.state = .offered ∧ l.offer ≠ some o)) :
    takeOffer cfg k sweep serial lane o l = noteOffer o l := by
  unfold takeOffer
  obtain state | state | state | ⟨state, fewer⟩ | ⟨state, changed⟩ := noted
  · rw [state]
  · rw [state]
  · rw [state]
  · simp only [state, fewer, if_false]
  · simp only [state, changed, if_false]

/-- R63: a locked lane. -/
theorem takeOffer_locked (state : l.state = .faulted) (failures : l.failures = 4) :
    takeOffer cfg k sweep serial lane o l = ⟨raiseFault l, .refused, .laneLocked, none, true, false⟩ := by
  rw [takeOffer, state]
  exact if_pos failures

/-- R60: an identical second copy is answered. -/
theorem takeOffer_second (state : l.state = .offered) (same : l.offer = some o) :
    takeOffer cfg k sweep serial lane o l = answerOffer cfg k sweep serial lane o l := by
  rw [takeOffer, state]
  exact if_pos same

/-- R61: the sealed bit that a policy, a lane key and an offer agree, as the statements write it. -/
theorem sealedAgreed_eq (policy : Kinds) (key : KeySlot) (o : Offer) : sealedAgreed policy key o =
    (o.kinds.sealed && policy.sealed && decide (key.state = .loaded) && decide (key.id = o.keyId.toNat)) := by
  simp only [sealedAgreed, beq_eq_decide]

theorem noKind_iff {kinds : Kinds} : (!kinds.clear && !kinds.sealed) = true ↔ kinds = ⟨false, false⟩ := by
  cases kinds
  simp

/-- R60 to R62: the answer to a second copy, with the lane's policy and key. -/
theorem answerOffer_eq {policy : Kinds} {key : KeySlot} (policyAt : cfg.policies[lane]? = some policy)
    (keyAt : k.lanes[lane]? = some key) : answerOffer cfg k sweep serial lane o l =
      if agreedFor policy key o = ⟨false, false⟩ then ⟨failEnrolment l, .refused, .noCommonKind, none, true, false⟩
      else if k.surrogate.state = .empty then ⟨l, .refused, .noKey, none, false, false⟩
      else ⟨{ l with
          state := .confirming
          agreement := some ⟨agreedFor policy key o, agreedKeyId policy key o,
            answerNonce k.surrogate.key lane o.nonce serial⟩
          deadline := some (sweep + BitVec.ofNat 32 cfg.confirmTimeout)
          enrolment := .pending },
        .answered, .none, some ⟨agreedFor policy key o, agreedKeyId policy key o,
          answerNonce k.surrogate.key lane o.nonce serial⟩, true, true⟩ := by
  unfold answerOffer
  simp only [List.getD_eq_getElem?_getD, policyAt, keyAt, Option.getD_some, noKind_iff]
  rfl

theorem enrolmentAnswer_offer (kind : headerKind h = 4) (found : s.lanes.entries[headerLane h]? = some l) :
    enrolmentAnswer h s = takeOffer s.settings s.keys.store s.sweepCount s.lanes.answerSerial (headerLane h)
      (offerOf h) l := by
  rw [enrolmentAnswer, if_pos kind, laneAt_of_getElem? found]

/-- Settles O34: the lane table's answer in each of the lane's states, entered by `exec_enrolment`. -/
theorem offersMoveTheLane : Obligations.OffersMoveTheLane := by
  intro s w h l o policy key engineAt fresh shaped kind lane found policyAt keyAt offer sealed_ kinds a sealedIs kindsIs
    aIs ended ends
  obtain rfl : offerOf h = o := offer.symm
  rw [← sealedAgreed_eq] at sealedIs
  obtain rfl := sealedIs
  obtain rfl : agreedFor policy key (offerOf h) = kinds := kindsIs.symm
  have run := exec_enrolment engineAt fresh shaped (by omega) lane
  rw [enrolmentAnswer_offer kind found] at run
  simp only [ends]
  refine ⟨fun noted => ?_, fun state same none => ?_, fun state same some empty => ?_, fun state same some held => ?_,
    fun state failures => ?_⟩
  · rw [run, takeOffer_noted noted, noteOffer_eq]
    rfl
  · rw [run, takeOffer_second state same, answerOffer_eq policyAt keyAt, if_pos none]
    rfl
  · rw [run, takeOffer_second state same, answerOffer_eq policyAt keyAt, if_neg some, if_pos empty]
    rfl
  · rw [run, takeOffer_second state same, answerOffer_eq policyAt keyAt, if_neg some, if_neg held, aIs]
    rfl
  · rw [run, takeOffer_locked state failures]
    rfl

/-! ### Confirms (R64, R65) -/

variable {c : Confirm} {a : Agreement}

theorem confirmsAgreement_iff : confirmsAgreement c a = true ↔
    a.kinds = c.kinds ∧ a.keyId = c.keyId ∧ a.nonce = c.answerNonce := by
  simp only [confirmsAgreement, Bool.and_eq_true, beq_iff_eq, and_assoc]
  rw [eq_comm, eq_comm (a := c.keyId), eq_comm (a := c.answerNonce)]

/-- R64: a confirm on a CONFIRMING lane is judged by the agreement and the offer's nonce. -/
theorem takeConfirm_confirming (state : l.state = .confirming) (offer : l.offer = some o)
    (agreement : l.agreement = some a) : takeConfirm c l =
      if confirmsAgreement c a = true ∧ o.nonce = c.nonce then ⟨enrol l, .confirmed, .none, some a, true, false⟩
      else ⟨failEnrolment l, .refused, .confirmMismatch, none, true, false⟩ := by
  have nonce : (Option.map (·.nonce) (some o) == some c.nonce) = decide (o.nonce = c.nonce) := by
    simp [beq_eq_decide]
  unfold takeConfirm
  simp only [state, agreement, offer, nonce, Bool.and_eq_true, decide_eq_true_eq]

/-- R65: a confirm on an ENROLLED lane that repeats the agreement. -/
theorem takeConfirm_enrolled (state : l.state = .enrolled) (agreement : l.agreement = some a)
    (repeats : confirmsAgreement c a = true) : takeConfirm c l = ⟨l, .confirmed, .none, some a, false, false⟩ := by
  unfold takeConfirm
  simp only [state, agreement, repeats, if_true]

/-- R65: every other confirm of a lane that is not CONFIRMING. -/
theorem takeConfirm_unexpected (state : l.state = .absent ∨ l.state = .offered ∨ l.state = .faulted ∨
    (l.state = .enrolled ∧ ¬∃ a, l.agreement = some a ∧ confirmsAgreement c a = true)) :
    takeConfirm c l = confirmUnexpected l := by
  unfold takeConfirm
  obtain state | state | state | ⟨state, other⟩ := state
  · rw [state]
  · rw [state]
  · rw [state]
  · rw [state]
    cases agreement : l.agreement with
    | none => rfl
    | some a => exact if_neg fun repeats => other ⟨a, agreement, repeats⟩

theorem enrolmentAnswer_confirm (kind : headerKind h = 5) (found : s.lanes.entries[headerLane h]? = some l) :
    enrolmentAnswer h s = takeConfirm (confirmOf h) l := by
  rw [enrolmentAnswer, if_neg (by omega), laneAt_of_getElem? found]

/-- Settles O35: the lane table's answer in each of the lane's states, entered by `exec_enrolment`. -/
theorem confirmsMoveTheLane : Obligations.ConfirmsMoveTheLane := by
  intro s w h l engineAt fresh shaped kind lane found repeats repeatsIff ended ends
  obtain rfl : (fun a => confirmsAgreement (confirmOf h) a = true) = repeats := by
    funext a
    exact propext (confirmsAgreement_iff.trans (repeatsIff a).symm)
  have run := exec_enrolment engineAt fresh shaped (by omega) lane
  rw [enrolmentAnswer_confirm kind found] at run
  simp only [ends]
  refine ⟨fun o a state offer agreement same nonce => ?_, fun o a state offer agreement differs => ?_,
    fun a state agreement same => ?_, fun other => ?_⟩
  · rw [run, takeConfirm_confirming state offer agreement, if_pos ⟨same, nonce⟩]
    rfl
  · rw [run, takeConfirm_confirming state offer agreement, if_neg fun both => differs.elim (· both.1) (· both.2)]
    rfl
  · rw [run, takeConfirm_enrolled state agreement same]
    rfl
  · rw [run, takeConfirm_unexpected other]
    rfl

end Sys2Proof.Proofs
end

section
/-! SUPPORT. The stages of the record in work in full: what each of them leaves, and everything that one of them can do
(R89 to R105). -/

namespace Sys2Proof.Proofs

open Sys2Proof Sys2Proof.Machine Sys2Proof.Laws

variable {s t : State} {w v : Work} {h : Hold} {fs : List Field}

/-! ### The record in work -/

theorem withWork_touches (s : State) (w : Work) : Touches [.engine] s (withWork s w) :=
  onEngine_touches s fun g => { g with work := some w }

theorem onWork_eq (work : s.engine.work = some w) (f : Work → Work) : onWork f s = withWork s (f w) := by
  simp [onWork, onEngine, withWork, work]

theorem passTo_eq (work : s.engine.work = some w) (st : Stage) : passTo st s = withWork s { w with stage := st } :=
  onWork_eq work _

/-! ### Decisions (R77, R90) -/

/-- R77, R90: a decision is reported, in full. -/
theorem reportDecision_reported (h : Hold) (d : Disposition) (s : State) :
    reportDecision h d s = outcomeReported s h d := by
  by_cases hears : h.expired = false ∧ headerLane h ≤ 47
  · rw [reportDecision_eq hears.1 hears.2, outcomeReported, if_pos hears]
    rfl
  · have deaf : hearsLane h = false := by simpa [hearsLane] using hears
    unfold reportDecision outcomeReported countOutcome
    rw [deaf, if_neg hears]
    cases countOf d <;> rfl

theorem decideRecord_eq (work : s.engine.work = some w) (h : Hold) (d : Disposition) (r : Reason)
    (output : List Byte) : decideRecord h d r output s = outcomeDecided s w h d r output := by
  unfold decideRecord
  rw [reportDecision_reported]
  exact onWork_eq (s := outcomeReported s h d) work _

theorem decideHeaderOnly_eq (work : s.engine.work = some w) (h : Hold) (d : Disposition) (r : Reason) :
    decideHeaderOnly h d r s = recordRefused s w h d r := decideRecord_eq work h d r _

/-- A refusal with what a stage has kept with the record before it. -/
theorem decideHeaderOnly_withWork (s : State) (v : Work) (h : Hold) (d : Disposition) (r : Reason) :
    decideHeaderOnly h d r (withWork s v) = recordRefused s v h d r := decideHeaderOnly_eq rfl h d r

/-! ### The judge stage (R91 to R95) -/

theorem shapeReason_badKind (kind : headerKind h < 1 ∨ 5 < headerKind h) : shapeReason h = some .badKind := if_pos kind

theorem shapeReason_badVersion (low : 1 ≤ headerKind h) (high : headerKind h ≤ 5) (version : headerVersion h ≠ 1) :
    shapeReason h = some .badVersion := by
  rw [shapeReason, if_neg (by omega), if_pos version]

/-- R92: a hold whose kind and version are good is shaped, or refused for its length. -/
theorem shapeReason_badLength (low : 1 ≤ headerKind h) (high : headerKind h ≤ 5) (version : headerVersion h = 1)
    (misshapen : ¬Shaped h) : shapeReason h = some .badLength := by
  rw [shapeReason, if_neg (by omega), if_neg (by simpa using version)]
  by_cases fault : h.lengthFault = true
  · rw [if_pos fault]
  · rw [if_neg fault, if_pos]
    by_contra long
    have long : minimumLength (headerKind h) ≤ headerLength h := by omega
    refine misshapen ⟨⟨low, high⟩, version, by simpa using fault, ?_, ?_, ?_, ?_, ?_⟩ <;> intro is <;>
      rw [is] at long <;> exact long

/-- R92: what the shape stage passes is shaped. -/
theorem shaped_of_shapeReason (passes : shapeReason h = none) : Shaped h := by
  by_contra misshapen
  by_cases kind : headerKind h < 1 ∨ 5 < headerKind h
  · simp [shapeReason_badKind kind] at passes
  · by_cases version : headerVersion h = 1
    · simp [shapeReason_badLength (by omega) (by omega) version misshapen] at passes
    · simp [shapeReason_badVersion (by omega) (by omega) version] at passes

/-- R95: the copies that the admission stage passes. -/
theorem admissionOutcome_eq_none_iff {kind : Nat} {a : Admission} (card : kind = 2 ∨ kind = 3) :
    admissionOutcome kind a = none ↔ CopyAdmits kind a := by
  have agreed : kindAgreed kind a.kinds = true ↔
      (kind = 2 → a.kinds.clear = true) ∧ (kind = 3 → a.kinds.sealed = true) := by
    obtain rfl | rfl := card <;> simp [kindAgreed]
  unfold admissionOutcome
  constructor
  · intro passes
    split at passes
    · cases passes
    · next enrolled =>
      split at passes
      · cases passes
      · next active =>
        split at passes
        · cases passes
        · next kinds =>
          split at passes <;> try cases passes
          next verdict =>
          exact ⟨by simpa using enrolled, by simpa using active, agreed.mp (by simpa using kinds), verdict⟩
  · rintro ⟨enrolled, active, kinds, verdict⟩
    simp [enrolled, active, agreed.mpr kinds, verdict]

/-- R95: no admission ends a record WRAPPED. -/
theorem admissionOutcome_ne_wrapped {kind : Nat} {a : Admission} {d : Disposition} {r : Reason}
    (out : admissionOutcome kind a = some (d, r)) : d ≠ .wrapped := by
  rintro rfl
  unfold admissionOutcome at out
  repeat' split at out
  all_goals simp at out

/-! ### Stages by what they find (R89) -/

theorem runStage_judge (stage : w.stage = .judge) (h : Hold) (s : State) :
    runStage h w s = judgeStage h w.admission s := by
  simp only [runStage, stage]

theorem runStage_laneKeys {a : Admission} (stage : w.stage = .laneKeys) (copy : w.admission = some a) (h : Hold)
    (s : State) : runStage h w s = laneKeyStage h a s := by
  simp only [runStage, stage, copy]

theorem runStage_unseal {a : Admission} {keys : List Byte × List Byte} (stage : w.stage = .unseal)
    (copy : w.admission = some a) (answered : w.laneKeys = some keys) (h : Hold) (s : State) :
    runStage h w s = unsealStage h a keys s := by
  simp only [runStage, stage, copy, answered]

theorem runStage_body {body : List Byte} (stage : w.stage = .body) (kept : w.body = some body) (h : Hold) (s : State) :
    runStage h w s = bodyStage h body s := by
  simp only [runStage, stage, kept]

theorem runStage_keys (stage : w.stage = .keys) (h : Hold) (s : State) : runStage h w s = keyStage h s := by
  simp only [runStage, stage]

theorem runStage_reservation (stage : w.stage = .reservation) (h : Hold) (s : State) : runStage h w s = s := by
  simp only [runStage, stage]

theorem runStage_compute {body : List Byte} {c : Capture} (stage : w.stage = .compute) (kept : w.body = some body)
    (captured : w.capture = some c) (h : Hold) (s : State) : runStage h w s = computeStage h body c s := by
  simp only [runStage, stage, kept, captured]

theorem runStage_totalsCommit {body : List Byte} {c : Capture} (stage : w.stage = .totalsCommit)
    (kept : w.body = some body) (captured : w.capture = some c) (h : Hold) (s : State) :
    runStage h w s = totalsStage h body c s := by
  simp only [runStage, stage, kept, captured]

theorem runStage_conclude {body : List Byte} {c : Capture} {p : Products} (stage : w.stage = .conclude)
    (kept : w.body = some body) (captured : w.capture = some c) (formed : w.products = some p) (h : Hold) (s : State) :
    runStage h w s = concludeStage h body c p s := by
  simp only [runStage, stage, kept, captured, formed]

theorem runStage_result (stage : w.stage = .result) (h : Hold) (s : State) : runStage h w s = resultStage h w s := by
  simp only [runStage, stage]

theorem runStage_write (stage : w.stage = .write) (h : Hold) (s : State) : runStage h w s = s := by
  simp only [runStage, stage]

/-! ### The key request (R101, R102, R135, R139) -/

/-- R138, R139, R144: handing a value out is key attention exactly where it is the last, or C reaches the warning
threshold. -/
theorem handOut_attention {cfg : Settings} {k : KeyUnit} (active : k.store.current.state = .active) :
    keyAttention cfg k (handOutKey k) = true ↔ k.currentC = 1048575 ∨ cfg.warnThreshold = k.currentC + 1 := by
  by_cases last : k.currentC = 1048575
  · by_cases staged : k.store.next.state = .loaded <;>
      simp [keyAttention, handOutKey, lastValue, exhaustKey, promoteKey, last, staged, active, KeySlot.empty]
  · simp [keyAttention, handOutKey, lastValue, warningFlag, last, active]
    omega

/-- R135, R139: the working state after a hand-out, in full. -/
theorem handOutKey_eq (k : KeyUnit) : handOutKey k = if k.currentC = 1048575 then lastTaken k else valueTaken k := by
  by_cases last : k.currentC = 1048575
  · by_cases staged : k.store.next.state = .loaded <;>
      simp [handOutKey, lastValue, exhaustKey, promoteKey, lastTaken, counterEnd, last, staged]
  · simp [handOutKey, lastValue, valueTaken, last]

/-- R144: a change of the key unit's working state, in full. -/
theorem keyChange_eq (f : KeyUnit → KeyUnit) (s : State) : keyChange f s = { s with
    keys := f s.keys
    report := if keyAttention s.settings s.keys (f s.keys) = true then updAt s.report 4 oweOn else s.report } := by
  unfold keyChange
  split <;> rfl

/-- R135, R138, R139, R144: a hand-out in the key unit, in full. -/
theorem keyChange_handOut (active : s.keys.store.current.state = .active) : keyChange handOutKey s = { s with
    keys := if s.keys.currentC = 1048575 then lastTaken s.keys else valueTaken s.keys
    report := if s.keys.currentC = 1048575 ∨ s.settings.warnThreshold = s.keys.currentC + 1 then
      updAt s.report 4 oweOn else s.report } := by
  rw [keyChange_eq, if_congr (handOut_attention active) rfl rfl, handOutKey_eq]

/-- R101, R135, R139: the hand-out to the record in work, in full. -/
theorem handOutToRecord_eq (work : s.engine.work = some w) (active : s.keys.store.current.state = .active) :
    handOutToRecord s = valueHandedOut s w := by
  unfold handOutToRecord valueHandedOut
  dsimp only
  rw [keyChange_handOut active]
  by_cases last : s.keys.currentC = 1048575
  · have value : lastValue s.keys = true := by simp [lastValue, last]
    simp only [if_pos value, if_pos last, if_pos (Or.inl last)]
    refine (onWork_eq (w := w) ?_ _).trans rfl
    exact work
  · have value : ¬lastValue s.keys = true := by simp [lastValue, last]
    simp only [if_neg value, if_neg last]
    refine (onWork_eq (w := w) ?_ _).trans rfl
    exact work

/-- R102, R135: the key request of the record in work `w` waits for a reservation write. -/
def reservationAwaited (s : State) (w : Work) : State :=
  { withWork s { w with stage := .reservation } with
    keys := { s.keys with waiting := true }
    nv := if retryPending s.nv then s.nv
      else { s.nv with
        requests := s.nv.requests ++
          [.keyStore (some ⟨s.keys.store.current.id, min (s.keys.store.currentMark + 256) 1048576, false, true⟩)
            false] } }

theorem waitForReservation_eq (work : s.engine.work = some w) : waitForReservation s = reservationAwaited s w := by
  unfold waitForReservation reservationAwaited
  dsimp only
  rw [passTo_eq (s := onKeys _ s) work]
  split <;> rfl

/-! ### The commits (R103, R104) -/

/-- R103, R104: the record in work `w` is computed and committed to its lane. -/
def laneCommitted (s : State) (w : Work) (h : Hold) (body : List Byte) (c : Capture) : State :=
  { withWork s { w with
      stage := .totalsCommit
      products := some
        { surrogate := surrogateDigits c.surrogate (cardDigits body)
          cipher := envelopeCipher c.envKey body (headerLane h) (heldSequence h) c.keyId c.counter
          batch := none
          tag := none } } with
    lanes := { s.lanes with
      entries := updAt s.lanes.entries (headerLane h)
        (commitLane (heldSequence h) (if headerKind h = 3 then some (heldNat h 32 4) else none)) } }

theorem computeStage_eq (work : s.engine.work = some w) (h : Hold) (body : List Byte) (c : Capture) :
    computeStage h body c s = laneCommitted s w h body c := onWork_eq (s := commitToLane h s) work _

/-- R104, R149: the record in work `w` is committed to the open batch, whose number it keeps. -/
def totalsCommitted (s : State) (w : Work) (h : Hold) (body : List Byte) (c : Capture) : State :=
  { withWork s { w with
      stage := .conclude
      products := w.products.map fun p => { p with batch := some s.totals.batch.number } } with
    totals := { s.totals with
      batch := commitRecord (headerLane h) (bodyAmount body) (bodyRefund body) ⟨c.keyId, c.counter⟩ s.totals.batch } }

theorem totalsStage_eq (work : s.engine.work = some w) (h : Hold) (body : List Byte) (c : Capture) :
    totalsStage h body c s = totalsCommitted s w h body c := onWork_eq (s := onTotals _ s) work _

/-! ### The conclusion (R104, R105) -/

/-- R104, R105: the record in work `w` ends WRAPPED under a batch number. -/
def wrapConcluded (s : State) (w : Work) (h : Hold) (body : List Byte) (c : Capture) (p : Products) (batch : Nat) :
    State :=
  outcomeDecided s { w with products := some { p with tag := some (recordTag h body p.cipher c batch) } } h .wrapped
    .none (wrappedOutput (windowOfMap s h.window).slotSize h body ⟨c.keyId, c.counter, batch⟩ p.surrogate p.cipher
      (recordTag h body p.cipher c batch))

theorem concludeStage_eq (work : s.engine.work = some w) (h : Hold) (body : List Byte) (c : Capture) {p : Products}
    {batch : Nat} (number : p.batch = some batch) : concludeStage h body c p s = wrapConcluded s w h body c p batch := by
  obtain ⟨surrogate, cipher, kept, tag⟩ := p
  obtain rfl : kept = some batch := number
  unfold concludeStage
  dsimp only
  rw [onWork_eq work, decideRecord_eq rfl]
  rfl

end Sys2Proof.Proofs
end

section
/-! SUPPORT. What one stage of the record in work can do (R89 to R105): everything that ENGINE_TAKE with a record in work
makes of the part, as one list of cases. -/

namespace Sys2Proof.Proofs

open Sys2Proof Sys2Proof.Machine Sys2Proof.Laws

variable {s t : State} {w v : Work} {h : Hold} {fs : List Field}

/-- R89, R95 to R100: the record in work passes a stage that touches no other block. -/
inductive Advances (w : Work) : Work → Prop where
  | clear (body : List Byte) (stage : w.stage = .judge) (admitted : Admitted w) :
      Advances w { w with stage := .body, body := some body }
  | sealed_ (stage : w.stage = .judge) (admitted : Admitted w) : Advances w { w with stage := .laneKeys }
  | keysAnswered (keys : List Byte × List Byte) (stage : w.stage = .laneKeys) :
      Advances w { w with stage := .unseal, laneKeys := some keys }
  | unsealed (body : List Byte) (stage : w.stage = .unseal) : Advances w { w with stage := .body, body := some body }
  | bodyGood (stage : w.stage = .body) : Advances w { w with stage := .keys }

/-- What one stage of the record in work `w`, with its hold `h`, can make of the part. -/
inductive StageDone (s : State) (w : Work) (h : Hold) : State → Prop where
  | idle : StageDone s w h s
  | advanced {v : Work} (passes : Advances w v) : StageDone s w h (withWork s v)
  | decided (body : Option (List Byte)) (d : Disposition) (r : Reason) (output : List Byte)
      (stage : w.stage ∈ [.judge, .laneKeys, .unseal, .body, .keys]) (other : d ≠ .wrapped) :
      StageDone s w h (outcomeDecided s { w with body := body } h d r output)
  | enrolment (a : EnrolmentAnswer) (stage : w.stage = .judge) (kind : 4 ≤ headerKind h)
      (other : a.disposition ≠ .wrapped) : StageDone s w h (enrolmentEnded s w h a)
  | result (output : List Byte) (stage : w.stage = .result) :
      StageDone s w h (withWork s { w with stage := .write, output := some output })
  | handedOut (stage : w.stage = .keys) : StageDone s w h (valueHandedOut s w)
  | awaits (stage : w.stage = .keys) : StageDone s w h (reservationAwaited s w)
  | computed {body : List Byte} {c : Capture} (stage : w.stage = .compute) :
      StageDone s w h (laneCommitted s w h body c)
  | committed {body : List Byte} {c : Capture} (stage : w.stage = .totalsCommit) :
      StageDone s w h (totalsCommitted s w h body c)
  | concluded {body : List Byte} {c : Capture} {p : Products} {batch : Nat} (stage : w.stage = .conclude)
      (formed : w.products = some p) (number : p.batch = some batch) :
      StageDone s w h (wrapConcluded s w h body c p batch)

/-! ### No enrolment request ends WRAPPED (R45, R58) -/

theorem takeOffer_ne_wrapped (cfg : Settings) (k : KeyStore) (sweep serial : BitVec 32) (lane : Nat) (o : Offer)
    (l : Lane) : (takeOffer cfg k sweep serial lane o l).disposition ≠ .wrapped := by
  have noted : (noteOffer o l).disposition ≠ .wrapped := by simp [noteOffer_eq]
  unfold takeOffer
  split
  · exact noted
  · exact noted
  · exact noted
  · split
    · unfold answerOffer
      dsimp only
      split
      · simp
      · split <;> simp
    · exact noted
  · split
    · simp
    · exact noted

theorem takeConfirm_ne_wrapped (c : Confirm) (l : Lane) : (takeConfirm c l).disposition ≠ .wrapped := by
  unfold takeConfirm
  split
  · split <;> simp
  · simp
  · split <;> simp [confirmUnexpected]
  · simp [confirmUnexpected]

theorem enrolmentAnswer_ne_wrapped (h : Hold) (s : State) : (enrolmentAnswer h s).disposition ≠ .wrapped := by
  unfold enrolmentAnswer
  split
  · exact takeOffer_ne_wrapped _ _ _ _ _ _ _
  · exact takeConfirm_ne_wrapped _ _

/-! ### The stages one by one -/

/-- A header-only refusal at one of the stages that refuse. -/
theorem StageDone.refused (work : s.engine.work = some w) {d : Disposition} (r : Reason)
    (stage : w.stage ∈ [.judge, .laneKeys, .unseal, .body, .keys]) (other : d ≠ .wrapped) :
    StageDone s w h (decideHeaderOnly h d r s) := by
  rw [decideHeaderOnly_eq work]
  exact .decided w.body d r _ stage other

theorem admissionStage_done (work : s.engine.work = some w) (stage : w.stage = .judge) {a : Admission}
    (copy : w.admission = some a) (card : headerKind h = 2 ∨ headerKind h = 3) :
    StageDone s w h (admissionStage h a s) := by
  unfold admissionStage
  split
  · next out => exact .refused work _ (by simp [stage]) (admissionOutcome_ne_wrapped out)
  · next passes =>
    have admits := (admissionOutcome_eq_none_iff card).mp passes
    have admitted : Admitted w := ⟨a, copy, admits.enrolled, admits.active, admits.sequence⟩
    split
    · rw [passTo_eq work]
      exact .advanced (.sealed_ stage admitted)
    · rw [onWork_eq work]
      exact .advanced (.clear _ stage admitted)

theorem judgeStage_done (work : s.engine.work = some w) (stage : w.stage = .judge) :
    StageDone s w h (judgeStage h w.admission s) := by
  have refused {d : Disposition} (r : Reason) (other : d ≠ .wrapped) : StageDone s w h (decideHeaderOnly h d r s) :=
    .refused work r (by simp [stage]) other
  unfold judgeStage
  split
  · split
    · exact refused _ (by decide)
    · exact refused _ (by decide)
  · next fresh =>
    split
    · exact refused _ (by decide)
    · next passes =>
      have known := (shaped_of_shapeReason passes).known
      split
      · rw [decideRecord_eq work]
        exact .decided w.body _ _ _ (by simp [stage]) (by decide)
      · next notPlain =>
        split
        · exact refused _ (by decide)
        · next lane =>
          split
          · next enrols =>
            rw [enrolmentStage_eq work (by simpa using fresh) (by omega)]
            exact .enrolment _ stage enrols (enrolmentAnswer_ne_wrapped h s)
          · split
            · next copy => exact admissionStage_done work stage copy (by omega)
            · exact .idle

theorem laneKeyStage_done (work : s.engine.work = some w) (stage : w.stage = .laneKeys) (a : Admission) :
    StageDone s w h (laneKeyStage h a s) := by
  unfold laneKeyStage
  split
  · rw [onWork_eq work]
    exact .advanced (.keysAnswered _ stage)
  · exact .refused work _ (by simp [stage]) (by decide)

theorem unsealStage_done (work : s.engine.work = some w) (stage : w.stage = .unseal) (a : Admission)
    (keys : List Byte × List Byte) : StageDone s w h (unsealStage h a keys s) := by
  unfold unsealStage
  split
  · exact .refused work _ (by simp [stage]) (by decide)
  · dsimp only
    rw [onWork_eq work]
    split
    · rw [decideHeaderOnly_withWork]
      exact .decided _ _ _ _ (by simp [stage]) (by decide)
    · rw [passTo_eq rfl]
      exact .advanced (.unsealed _ stage)

theorem bodyStage_done (work : s.engine.work = some w) (stage : w.stage = .body) (body : List Byte) :
    StageDone s w h (bodyStage h body s) := by
  unfold bodyStage
  split
  · exact .refused work _ (by simp [stage]) (by decide)
  · rw [passTo_eq work]
    exact .advanced (.bodyGood stage)

theorem keyStage_done (work : s.engine.work = some w) (stage : w.stage = .keys) : StageDone s w h (keyStage h s) := by
  unfold keyStage
  split
  · exact .refused work _ (by simp [stage]) (by decide)
  · next held =>
    have active : s.keys.store.current.state = .active := by
      by_contra idle
      exact held (noKeyFlag_iff.mpr (.inr idle))
    split
    · rw [handOutToRecord_eq work active]
      exact .handedOut stage
    · rw [waitForReservation_eq work]
      exact .awaits stage

theorem resultStage_done (work : s.engine.work = some w) (stage : w.stage = .result) :
    StageDone s w h (resultStage h w s) := by
  unfold resultStage
  split
  · rw [onWork_eq work]
    exact .result _ stage
  · exact .idle

theorem concludeStage_done (work : s.engine.work = some w) (stage : w.stage = .conclude) (body : List Byte)
    (c : Capture) {p : Products} (formed : w.products = some p) : StageDone s w h (concludeStage h body c p s) := by
  cases number : p.batch with
  | none =>
    simp only [concludeStage, number]
    exact .idle
  | some batch =>
    rw [concludeStage_eq work h body c number]
    exact .concluded stage formed number

/-- R89: every stage is one of the cases. -/
theorem runStage_done (work : s.engine.work = some w) (h : Hold) : StageDone s w h (runStage h w s) := by
  unfold runStage
  split
  · next stage => exact judgeStage_done work stage
  · next stage => exact resultStage_done work stage
  · next stage _ => exact laneKeyStage_done work stage _
  · next stage _ _ => exact unsealStage_done work stage _ _
  · next stage _ => exact bodyStage_done work stage _
  · next stage => exact keyStage_done work stage
  · next stage _ _ =>
    rw [computeStage_eq work]
    exact .computed stage
  · next stage _ _ =>
    rw [totalsStage_eq work]
    exact .committed stage
  · next stage _ _ formed => exact concludeStage_done work stage _ _ formed
  · exact .idle

end Sys2Proof.Proofs
end

section
/-! SUPPORT. The record in work stays sound (R84, R89, R95, R102, R106): what leaves it alone, what takes and issues it,
and that each of its stages keeps with it what the next one needs. -/

namespace Sys2Proof.Proofs

open Sys2Proof Sys2Proof.Machine Sys2Proof.Laws

variable {s t u : State} {w v : Work} {h : Hold} {fs : List Field} {e : Entry}

/-! ### What leaves the record in work alone -/

/-- The write-backs that wait for room (R106). -/
def waitingWriteBacks (p : PathFront) : List Entry := p.waiting.filter fun e => isWriteBack e.kind

/-- From `s` to `t` the record in work and the write-backs that wait are the same, and no key request comes to wait. -/
structure WorkKept (s t : State) : Prop where
  work       : t.engine.work = s.engine.work
  request    : t.keys.waiting = true → s.keys.waiting = true
  writeBacks : waitingWriteBacks t.path = waitingWriteBacks s.path

theorem noneWaits_of_stage (sound : WorkSound s) (work : s.engine.work = some w) (stage : w.stage ≠ .write) :
    waitingWriteBacks s.path = [] := by
  refine List.filter_eq_nil_iff.mpr fun e he isWriteBack => stage ?_
  obtain ⟨v, hv, issued⟩ := sound.waits.2 e he isWriteBack
  obtain rfl := Option.some_injective _ (work.symm.trans hv)
  exact issued

theorem noneWaits_of_idle (sound : WorkSound s) (idle : s.engine.work = none) :
    waitingWriteBacks s.path = [] := by
  refine List.filter_eq_nil_iff.mpr fun e he isWriteBack => ?_
  obtain ⟨v, hv, -⟩ := sound.waits.2 e he isWriteBack
  simp [idle] at hv

/-- R102: a key request waits for no other record than one at the reservation wait. -/
theorem reservation_of_request (sound : WorkSound s) (work : s.engine.work = some w) (waits : s.keys.waiting = true) :
    w.stage = .reservation := by
  obtain ⟨v, hv, stage⟩ := sound.request waits
  obtain rfl := Option.some_injective _ (work.symm.trans hv)
  exact stage

theorem noRequest_of_idle (sound : WorkSound s) (idle : s.engine.work = none) : s.keys.waiting = false := by
  by_contra waits
  obtain ⟨v, hv, -⟩ := sound.request (by simpa using waits)
  simp [idle] at hv

/-- A part in which no write-back waits: what is left to say of the record and of the key request. -/
theorem workSound_of_noneWaits (record : ∀ w ∈ t.engine.work, RecordSound w)
    (request : t.keys.waiting = true → ∃ w ∈ t.engine.work, w.stage = .reservation)
    (none : waitingWriteBacks t.path = []) : WorkSound t := by
  refine ⟨record, request, ?_, fun e he isWriteBack => ?_⟩
  · rw [← waitingWriteBacks, none]
    exact Nat.zero_le 1
  · exact absurd isWriteBack (List.filter_eq_nil_iff.mp none e he)

namespace WorkKept

theorem refl (s : State) : WorkKept s s := ⟨rfl, id, rfl⟩

theorem trans (h : WorkKept s t) (k : WorkKept t u) : WorkKept s u :=
  ⟨k.work.trans h.work, fun waits => h.request (k.request waits), k.writeBacks.trans h.writeBacks⟩

theorem ite {p : Prop} [Decidable p] (h : WorkKept s t) (k : WorkKept s u) : WorkKept s (if p then t else u) := by
  split <;> assumption

/-- The path front changes, and keeps the entries that wait. -/
theorem of_waiting (h : Touches fs s t) (waiting : t.path.waiting = s.path.waiting) (engine : .engine ∉ fs := by decide)
    (keys : .keys ∉ fs := by decide) : WorkKept s t :=
  ⟨by rw [h.engine engine], by rw [h.keys keys]; exact id, by rw [waitingWriteBacks, waiting]; rfl⟩

theorem of_touches (h : Touches fs s t) (engine : .engine ∉ fs := by decide) (keys : .keys ∉ fs := by decide)
    (path : .path ∉ fs := by decide) : WorkKept s t := of_waiting h (by rw [h.path path]) engine keys

theorem andTouches (h : WorkKept s t) (k : Touches fs t u) (engine : .engine ∉ fs := by decide)
    (keys : .keys ∉ fs := by decide) (path : .path ∉ fs := by decide) : WorkKept s u :=
  h.trans (of_touches k engine keys path)

/-- Acknowledgements and shown words are taken. -/
theorem of_words (h : Touches fs s t) (words : WordsTaken s t) (engine : .engine ∉ fs := by decide)
    (keys : .keys ∉ fs := by decide) : WorkKept s t := of_waiting h (by rw [words.rest]) engine keys

/-- A change of the key unit's working state that makes no request wait. -/
theorem keyChange {f : KeyUnit → KeyUnit} (request : ∀ k, (f k).waiting = true → k.waiting = true) (s : State) :
    WorkKept s (Machine.keyChange f s) := by
  rw [keyChange_eq]
  exact ⟨rfl, request s.keys, rfl⟩

/-- R9: an entry that is no write-back is issued. -/
theorem issued (other : isWriteBack e.kind = false) (s : State) : WorkKept s (offerEntry e s) := by
  rw [offerEntry_eq other]
  exact ⟨rfl, id, entryIssued_writeBacks s.path other⟩

theorem sound (k : WorkKept s t) (sound : WorkSound s) : WorkSound t := by
  obtain ⟨record, request, one, waits⟩ := sound
  refine ⟨k.work ▸ record, fun asked => k.work ▸ request (k.request asked), ?_, fun e he isWriteBack => ?_⟩
  · rw [← waitingWriteBacks, k.writeBacks]
    exact one
  · have waited : e ∈ waitingWriteBacks t.path := List.mem_filter.mpr ⟨he, isWriteBack⟩
    rw [k.writeBacks] at waited
    exact k.work ▸ waits e (List.mem_filter.mp waited).1 isWriteBack

end WorkKept

/-! ### Steps of the other blocks -/

theorem fillGap_work (w : Nat) (s : State) : WorkKept s (fillGap w s) := by
  refine .ite ?_ (.refl s)
  exact (((WorkKept.of_touches (setSlot_touches s _ _ _)).andTouches (onWindow_touches _ _ _)).andTouches
    (addCount_touches _ _ _ _)).trans (.issued rfl _)

theorem reportChannel_work (ch : Nat) (s : State) : WorkKept s (reportChannel ch s) := by
  refine .ite ?_ (.refl s)
  exact ((WorkKept.of_touches (onChannel_touches s ch contentTaken)).andTouches (reportLanes_touches _ ch)).trans
    (.issued rfl _)

theorem summaryStep_work (s : State) : WorkKept s (summaryStep s) := by
  unfold summaryStep
  split
  · exact (WorkKept.of_touches (onTotals_touches s _)).trans (.issued rfl _)
  · exact .refl s

theorem resultStep_work (s : State) : WorkKept s (resultStep s) := by
  unfold resultStep
  split
  · exact (WorkKept.of_touches (onDirectives_touches s _)).trans (.issued rfl _)
  · exact .refl s

theorem startClose_work (roll : Bool) (s : State) : WorkKept s (startClose roll s) := by
  have rolled : WorkKept s (rollStep roll s) :=
    .ite ((WorkKept.keyChange (f := promoteKey) (fun _ => id) s).andTouches (requestKeyWrite_touches _)) (.refl s)
  exact (rolled.andTouches (onTotals_touches _ _)).andTouches (requestWrite_touches _ _)

theorem runDirective_work (code : DirectiveCode) (s : State) : WorkKept s (runDirective code s) := by
  have taken (r : Option DirectiveResult) := WorkKept.of_touches (takeDirective_touches s r)
  have onTheLane (lane : Nat) {f : State → State} (effect : ∀ s, Touches [.lanes, .report] s (f s)) :=
    WorkKept.of_touches (laneDirective_touches s lane f effect)
  cases code with
  | incomplete => exact taken _
  | unknown => exact taken _
  | statusNow => exact (taken _).andTouches (onReport_touches _ _)
  | laneSuspend => exact onTheLane _ fun s => (onLane_touches s _ _).mono (by decide)
  | laneResume => exact onTheLane _ fun s => (onLane_touches s _ _).mono (by decide)
  | laneForget => exact onTheLane _ fun s => forgetOn_touches s _
  | batchClose => exact (taken _).trans (startClose_work _ _)

theorem grantOne_waiting (p : PathFront) : (grantOne p).waiting = p.waiting := by
  have stream : (grantStream p).waiting = p.waiting := by
    unfold grantStream
    split <;> rfl
  have internal : (grantInternal p).waiting = p.waiting := by
    unfold grantInternal
    split
    · split <;> rfl
    · rfl
  unfold grantOne
  split
  · rfl
  · split
    · exact stream
    · split
      · exact internal
      · exact stream

theorem answerPath_waiting (map : WindowMap) (b : Burst) (okay : Bool) (data : List Byte) (p : PathFront) :
    (answerPath map b okay data p).waiting = p.waiting := by
  unfold answerPath
  split
  · rw [showBurst_eq]
    rfl
  · split <;> rfl

theorem loadSlot_waiting (slot id : Nat) (key check : List Byte) (k : KeyUnit) :
    (loadSlot slot id key check k).waiting = k.waiting := by
  unfold loadSlot
  split <;> rfl

theorem endKeyWrite_waiting (completed : Bool) (r : Option Reservation) (k : KeyUnit) :
    (endKeyWrite completed r k).waiting = k.waiting := by
  unfold endKeyWrite raiseMark
  split
  · split
    · split <;> rfl
    · rfl
  · rfl

theorem startKeys_waiting (k : KeyStore) : (startKeys k).waiting = false := by
  unfold startKeys exhaustKey
  split
  · dsimp only
    split <;> rfl
  · rfl

/-! ### The take (R87, R88) -/

/-- R88: a record at its take. -/
theorem newWork_sound (q : QueueEntry) (a : Option Admission) : RecordSound (newWork q a) := by
  constructor <;> simp [newWork, pastAdmission]

theorem takeNext_workSound (sound : WorkSound s) : WorkSound (takeNext s) := by
  obtain same | ⟨q, h, idle, -, -, started⟩ := takeNext_cases s
  · exact same.symm ▸ sound
  · rw [started]
    have path := (startWork_touches s q h).path (by decide)
    refine workSound_of_noneWaits (fun w hw => ?_) (fun waits => ?_) (by rw [path]; exact noneWaits_of_idle sound idle)
    · obtain rfl := Option.some_injective _ hw
      exact newWork_sound q _
    · change s.keys.waiting = true at waits
      simp [noRequest_of_idle sound idle] at waits

theorem joinQueue_work (w slot : Nat) (expired : Bool) (s : State) : WorkKept s (joinQueue w slot expired s) :=
  ⟨rfl, id, rfl⟩

theorem queueSlot_workSound (sound : WorkSound s) (w slot : Nat) (expired : Bool) :
    WorkSound (queueSlot w slot expired s) := (joinQueue_work w slot expired _).sound (takeNext_workSound sound)

theorem expireNext_workSound (sound : WorkSound s) : WorkSound (expireNext s) := by
  unfold expireNext
  split
  · exact queueSlot_workSound sound _ _ _
  · exact sound

theorem takeSlotWrite_workSound (sound : WorkSound s) (sw : SlotWrite) : WorkSound (takeSlotWrite sw s) := by
  unfold takeSlotWrite
  split
  · exact (WorkKept.of_touches (addCount_touches s _ _ _)).sound sound
  · have merged := ((WorkKept.of_touches (ensureHold_touches s sw.window sw.slot)).andTouches
      (onHold_touches _ sw.window sw.slot
        fun h => recordHeader (windowOfMap s sw.window).slotSize (mergeBeats sw.beats h))).sound sound
    unfold mergeSlotWrite completionTest
    split
    · split
      · exact queueSlot_workSound merged _ _ _
      · exact merged
    · exact merged

/-! ### The write-back (R35, R106) -/

/-- R106: the write-back of the record in work is added, and the engine is idle. -/
theorem writeBackAdded_workSound (sound : WorkSound s) (work : s.engine.work = some w) (stage : w.stage = .write)
    {q : PathFront} (none : waitingWriteBacks q = []) (window slot : Nat) : WorkSound (writeBackAdded window slot q s) := by
  refine workSound_of_noneWaits (fun v hv => nomatch hv) (fun waits => ?_) none
  simpa [stage] using reservation_of_request sound work waits

theorem addLongestWaiting_workSound (sound : WorkSound s) (p : EntryKind → Bool) :
    WorkSound (addLongestWaiting p s) := by
  unfold addLongestWaiting
  split
  · exact sound
  · next e rest waits =>
    split
    · by_cases writeBack : isWriteBack e.kind = true
      · obtain ⟨window, slot, kind⟩ := exists_of_writeBack writeBack
        obtain ⟨w, work, stage⟩ := sound.waits.2 e (waits ▸ List.mem_cons_self) writeBack
        have noMore : waitingWriteBacks (waitingAdded e rest s.path) = [] := by
          have one := sound.waits.1
          simpa [waits, writeBack, waitingWriteBacks, waitingAdded] using one
        rw [addEntry_writeBack kind]
        exact writeBackAdded_workSound (q := waitingAdded e rest s.path) sound work stage noMore window slot
      · have other : isWriteBack e.kind = false := by simpa using writeBack
        rw [addEntry_eq other]
        have added : WorkKept s (onPath (waitingAdded e rest) s) :=
          ⟨rfl, id, by simp [waitingWriteBacks, waitingAdded, waits, other]⟩
        exact added.sound sound
    · exact sound

theorem issueWriteBack_workSound (sound : WorkSound s) : WorkSound (issueWriteBack s) := by
  unfold issueWriteBack
  split
  · exact sound
  · next noneWaits =>
    have none : waitingWriteBacks s.path = [] := by
      simpa [writeBackWaits, waitingWriteBacks, List.filter_eq_nil_iff] using noneWaits
    split
    · next w work =>
      split
      · next output built =>
        have stage : w.stage = .write := (sound.record w work).output.mp (by simp [built])
        unfold offerEntry
        split
        · rw [addEntry_writeBack (w := w.window) (slot := w.slot) rfl]
          refine writeBackAdded_workSound sound work stage ?_ _ _
          exact none
        · have one : waitingWriteBacks (entryWaits (writeBackEntry s w output) s).path = [writeBackEntry s w output] := by
            change (s.path.waiting ++ [_]).filter _ = _
            rw [List.filter_append, ← waitingWriteBacks, none]
            rfl
          change WorkSound (entryWaits (writeBackEntry s w output) s)
          refine ⟨sound.record, sound.request, ?_, fun _ _ _ => ⟨w, work, stage⟩⟩
          rw [← waitingWriteBacks, one]
          exact Nat.le_refl 1
      · exact sound
    · exact sound

/-! ### The stages (R89 to R105) -/

/-- A record that is neither decided nor at the write-back stage. -/
theorem recordSound_of_undecided (outcome : v.outcome = none) (output : v.output = none)
    (stage : v.stage ≠ .result ∧ v.stage ≠ .write) (admitted : v.stage ∈ pastAdmission → Admitted v)
    (body : v.stage ∈ [.body, .keys, .reservation, .compute, .totalsCommit, .conclude] → v.body ≠ none)
    (capture : v.stage ∈ [.compute, .totalsCommit, .conclude] → v.capture ≠ none)
    (products : v.stage ∈ [.totalsCommit, .conclude] → v.products ≠ none)
    (batch : v.stage = .conclude → ∀ p ∈ v.products, p.batch ≠ none) : RecordSound v :=
  ⟨by simp [output, stage.2], by simp [outcome, stage], admitted, body, capture, products, batch,
    fun r wrapped => by simp [outcome] at wrapped⟩

/-- Before its decision a sound record has neither an outcome nor an output. -/
theorem undecided_of_recordSound (sound : RecordSound w) (stage : w.stage ≠ .result ∧ w.stage ≠ .write) :
    w.outcome = none ∧ w.output = none := by
  have outcome := sound.outcome
  have output := sound.output
  simp only [stage, or_self, iff_false, Bool.not_eq_true, Option.isSome_eq_false_iff, Option.isNone_iff_eq_none]
    at outcome output
  exact ⟨outcome, output⟩

/-- R84, R90: a record that has ended otherwise than WRAPPED is at the write-back stage, with its output. -/
theorem recordSound_decided (w : Work) {d : Disposition} (r : Reason) (output : List Byte) (other : d ≠ .wrapped) :
    RecordSound { w with stage := .write, outcome := some (d, r), output := some output } := by
  constructor <;> simp [pastAdmission, other]

/-- An admitted record that has not captured a value yet. -/
theorem recordSound_of_uncaptured (outcome : v.outcome = none) (output : v.output = none)
    (stage : v.stage ∈ [.laneKeys, .unseal, .body, .keys, .reservation]) (admitted : Admitted v)
    (body : v.stage ∈ [.body, .keys, .reservation] → v.body ≠ none) : RecordSound v := by
  have open_ : (v.stage ≠ .result ∧ v.stage ≠ .write) ∧ v.stage ∉ [.compute, .totalsCommit, .conclude] := by
    revert stage
    cases v.stage <;> decide
  have later : v.stage ∈ [.body, .keys, .reservation, .compute, .totalsCommit, .conclude] →
      v.stage ∈ [.body, .keys, .reservation] := by
    revert open_
    cases v.stage <;> decide
  exact recordSound_of_undecided outcome output open_.1 (fun _ => admitted) (fun m => body (later m))
    (fun m => absurd m open_.2) (fun m => absurd (List.mem_cons_of_mem _ m) open_.2)
    (fun is => absurd (by simp [is]) open_.2)

/-- R89: what a stage that touches no other block keeps is what the next one needs. -/
theorem advances_recordSound (passes : Advances w v) (sound : RecordSound w) : RecordSound v := by
  obtain ⟨outcome, output⟩ := undecided_of_recordSound sound (by cases passes <;> simp [*])
  cases passes with
  | clear body stage admitted => exact recordSound_of_uncaptured outcome output (by simp) admitted (by simp)
  | sealed_ stage admitted => exact recordSound_of_uncaptured outcome output (by simp) admitted (by simp)
  | keysAnswered keys stage =>
    exact recordSound_of_uncaptured outcome output (by simp) (sound.admitted (by simp [stage, pastAdmission])) (by simp)
  | unsealed body stage =>
    exact recordSound_of_uncaptured outcome output (by simp) (sound.admitted (by simp [stage, pastAdmission])) (by simp)
  | bodyGood stage =>
    exact recordSound_of_uncaptured outcome output (by simp) (sound.admitted (by simp [stage, pastAdmission]))
      fun _ => sound.body (by simp [stage])

/-- R84, R102: a record that has captured a value. -/
theorem recordSound_captured (sound : RecordSound w) (stage : w.stage = .keys ∨ w.stage = .reservation) (c : Capture) :
    RecordSound { w with stage := .compute, capture := some c } := by
  obtain ⟨outcome, output⟩ := undecided_of_recordSound sound (by obtain stage | stage := stage <;> simp [stage])
  have admitted := sound.admitted (by obtain stage | stage := stage <;> simp [stage, pastAdmission])
  have body := sound.body (by obtain stage | stage := stage <;> simp [stage])
  exact recordSound_of_undecided outcome output (by simp) (fun _ => admitted) (fun _ => body) (by simp) (by simp)
    (by simp)

/-- What the stages make of the record in work, where no write-back of it waits. -/
theorem workSound_of_open (sound : WorkSound s) (work : s.engine.work = some w) (stage : w.stage ≠ .write)
    (now : t.engine.work = some v) (path : t.path = s.path) (record : RecordSound v)
    (request : t.keys.waiting = true → v.stage = .reservation) : WorkSound t := by
  refine workSound_of_noneWaits (fun u hu => ?_) (fun waits => ⟨v, now, request waits⟩) ?_
  · obtain rfl := Option.some_injective _ (now.symm.trans hu)
    exact record
  · rw [path]
    exact noneWaits_of_stage sound work stage

theorem valueHandedOut_waiting (s : State) (w : Work) : (valueHandedOut s w).keys.waiting = false := by
  unfold valueHandedOut lastTaken
  dsimp only
  split
  · split <;> rfl
  · rfl

/-- R101, R135: a value is handed out to a record at the key stage, or at the reservation wait. -/
theorem valueHandedOut_workSound (sound : WorkSound s) (work : s.engine.work = some w)
    (stage : w.stage = .keys ∨ w.stage = .reservation) : WorkSound (valueHandedOut s w) := by
  refine workSound_of_open sound work ?_ rfl rfl (recordSound_captured (sound.record w work) stage _) fun waits => ?_
  · obtain stage | stage := stage <;> simp [stage]
  · simp [valueHandedOut_waiting] at waits

/-- R84, R89, R95, R102: what a stage makes of a sound record. -/
theorem stageDone_workSound (done : StageDone s w h t) (sound : WorkSound s) (work : s.engine.work = some w) :
    WorkSound t := by
  have record := sound.record w work
  have noRequest (stage : w.stage ≠ .reservation) : ¬s.keys.waiting = true :=
    mt (reservation_of_request sound work) stage
  have undecided (stage : w.stage ≠ .result ∧ w.stage ≠ .write) := undecided_of_recordSound record stage
  cases done with
  | idle => exact sound
  | advanced passes =>
    refine workSound_of_open sound work ?_ rfl rfl (advances_recordSound passes record) fun waits => ?_
    · cases passes <;> simp [*]
    · exact absurd waits (noRequest (by cases passes <;> simp [*]))
  | decided body d r output stage other =>
    refine workSound_of_open sound work ?_ rfl rfl (recordSound_decided _ r output other) fun waits => ?_
    · rintro is
      simp [is] at stage
    · refine absurd waits (noRequest ?_)
      rintro is
      simp [is] at stage
  | enrolment a stage kind other =>
    obtain ⟨-, output⟩ := undecided (by simp [stage])
    refine workSound_of_open sound work (by simp [stage]) rfl rfl ?_ fun waits =>
      absurd waits (noRequest (by simp [stage]))
    constructor <;> simp [pastAdmission, other, output]
  | result output stage =>
    have decided : w.outcome.isSome = true := record.outcome.mpr (.inl stage)
    refine workSound_of_open sound work (by simp [stage]) rfl rfl ?_ fun waits =>
      absurd waits (noRequest (by simp [stage]))
    exact ⟨by simp, by simp [decided], by simp [pastAdmission], by simp, by simp, by simp, by simp, record.wrapped⟩
  | handedOut stage => exact valueHandedOut_workSound sound work (.inl stage)
  | awaits stage =>
    obtain ⟨outcome, output⟩ := undecided (by simp [stage])
    refine workSound_of_open sound work (by simp [stage]) rfl rfl ?_ fun _ => rfl
    exact recordSound_of_uncaptured outcome output (by simp) (record.admitted (by simp [stage, pastAdmission]))
      fun _ => record.body (by simp [stage])
  | computed stage =>
    obtain ⟨outcome, output⟩ := undecided (by simp [stage])
    refine workSound_of_open sound work (by simp [stage]) rfl rfl ?_ fun waits =>
      absurd waits (noRequest (by simp [stage]))
    exact recordSound_of_undecided outcome output (by simp) (fun _ => record.admitted (by simp [stage, pastAdmission]))
      (fun _ => record.body (by simp [stage])) (fun _ => record.capture (by simp [stage])) (by simp) (by simp)
  | committed stage =>
    obtain ⟨outcome, output⟩ := undecided (by simp [stage])
    have products := record.products (by simp [stage])
    refine workSound_of_open sound work (by simp [stage]) rfl rfl ?_ fun waits =>
      absurd waits (noRequest (by simp [stage]))
    exact recordSound_of_undecided outcome output (by simp) (fun _ => record.admitted (by simp [stage, pastAdmission]))
      (fun _ => record.body (by simp [stage])) (fun _ => record.capture (by simp [stage])) (by simpa using products)
      (by simp)
  | concluded stage formed number =>
    refine workSound_of_open sound work (by simp [stage]) rfl rfl ?_ fun waits =>
      absurd waits (noRequest (by simp [stage]))
    have admitted := record.admitted (by simp [stage, pastAdmission])
    have body := record.body (by simp [stage])
    have capture := record.capture (by simp [stage])
    exact ⟨by simp, by simp, by simp [pastAdmission], by simp, by simp, by simp, by simp,
      fun _ _ => ⟨admitted, body, capture, _, rfl, by simp [number], by simp⟩⟩

theorem stageStep_workSound (sound : WorkSound s) : WorkSound (stageStep s) := by
  unfold stageStep
  split
  · next w work =>
    split
    · next h _ => exact stageDone_workSound (runStage_done work h) sound work
    · exact sound
  · exact sound

/-! ### Store writes and frames (R102, R136, R145) -/

/-- R102: a waiting key request that ends with a refusal. -/
theorem endWaiting_workSound (sound : WorkSound s) (work : s.engine.work = some w) (stage : w.stage = .reservation)
    (kept : WorkKept s t) (r : Reason) (h : Hold) : WorkSound (endWaiting r h t) := by
  have now : t.engine.work = some w := kept.work.trans work
  unfold endWaiting
  rw [decideHeaderOnly_eq (s := onKeys _ t) now]
  exact workSound_of_open (kept.sound sound) now (by simp [stage]) rfl rfl (recordSound_decided _ r _ (by decide)) nofun

/-- R136: the waiting request is judged at the end of a reservation write. -/
theorem judgeWaiting_workSound (sound : WorkSound s) (completed : Bool) : WorkSound (judgeWaiting completed s) := by
  unfold judgeWaiting
  split
  · exact sound
  · next waits =>
    obtain ⟨w, work, stage⟩ := sound.request (by simpa using waits)
    split
    · exact sound
    · next h _ =>
      split
      · exact endWaiting_workSound sound work stage (.refl s) _ h
      · next held =>
        have active : s.keys.store.current.state = .active := by
          by_contra idle
          exact held (noKeyFlag_iff.mpr (.inr idle))
        split
        · exact endWaiting_workSound sound work stage (.refl s) _ h
        · split
          · rw [handOutToRecord_eq work active]
            exact valueHandedOut_workSound sound work (.inr stage)
          · exact (WorkKept.of_touches (requestWrite_touches s _)).sound sound

theorem keyWriteEnded_workSound (sound : WorkSound s) (r : Option Reservation) (forPort completed : Bool) :
    WorkSound (keyWriteEnded r forPort completed s) := by
  have changed : WorkKept s (keyChange (endKeyWrite completed r) s) :=
    .keyChange (fun k waits => endKeyWrite_waiting completed r k ▸ waits) s
  have told := (WorkKept.ite (p := forPort = true) (changed.andTouches (portOutcome_touches _ completed)) changed).sound
    sound
  unfold keyWriteEnded
  dsimp only
  split
  · exact judgeWaiting_workSound told completed
  · exact told

theorem endStoreWrite_workSound (sound : WorkSound s) (completed : Bool) : WorkSound (endStoreWrite completed s) := by
  unfold endStoreWrite
  split
  · next write _ =>
    have ended := (WorkKept.of_touches (onNv_touches s (endWriting write completed))).sound sound
    cases write with
    | keyStore _ r forPort => exact keyWriteEnded_workSound ended r forPort completed
    | batchNumber _ => exact (WorkKept.of_touches (numberWritten_touches _ completed)).sound ended
    | imageGroup _ _ => exact (WorkKept.of_touches (portOutcome_touches _ completed)).sound ended
    | imageLock => exact (WorkKept.of_touches (portOutcome_touches _ completed)).sound ended
    | erase => exact keyWriteEnded_workSound ended none true completed
  · exact sound

/-- R145: an ERASE ends a waiting key request. -/
theorem eraseStep_workSound (sound : WorkSound s) : WorkSound (eraseStep s) := by
  have erased : WorkKept s (oweStore (onKeys eraseKeys (onNv voidReservations s))) := ⟨rfl, nofun, rfl⟩
  unfold eraseStep
  dsimp only
  split
  · next waits _ =>
    obtain ⟨w, work, stage⟩ := sound.request waits
    exact endWaiting_workSound sound work stage erased _ _
  · exact erased.sound sound

theorem takeFrame_workSound (sound : WorkSound s) (bytes : List Byte) : WorkSound (takeFrame bytes s) := by
  have answered (n : Nat) (answer : List Byte) : WorkKept s (answerFrame n answer s) :=
    .of_touches (answerFrame_touches s n answer)
  have judged (wanted : Nat) (length : Byte) (clocked : List Byte) {act : State → State} (acts : WorkSound (act s)) :
      WorkSound (judgedFrame wanted length clocked act s) := by
    unfold judgedFrame
    split
    · exact (answered _ _).sound sound
    · exact acts
  have loaded (clocked : List Byte) : WorkKept s (loadKeyFrame clocked s) := by
    refine .ite ?_ (answered _ _)
    exact (((answered _ _).trans (.keyChange (fun k waits => loadSlot_waiting _ _ _ _ k ▸ waits) _)).andTouches
      (requestWrite_touches _ _)).andTouches (holdOutstanding_touches _)
  have erased (clocked : List Byte) : WorkSound (eraseFrame clocked s) :=
    ((WorkKept.of_touches (requestWrite_touches _ _)).andTouches (holdOutstanding_touches _)).sound
      (eraseStep_workSound ((answered _ _).sound sound))
  unfold takeFrame
  split
  · exact sound
  · split
    · unfold actOnFrame
      split
      · unfold actOnCommand
        split
        · exact (answered _ _).sound sound
        · split
          · exact judged _ _ _ ((answered _ _).sound sound)
          · exact judged _ _ _ ((loaded _).sound sound)
          · exact (WorkKept.of_touches (loadImageFrame_touches s _ _)).sound sound
          · exact judged _ _ _ ((WorkKept.of_touches (lockFrame_touches s _)).sound sound)
          · exact judged _ _ _ (erased _)
          · exact (answered _ _).sound sound
      · exact (answered _ _).sound sound
    · exact (WorkKept.of_touches (onPort_touches s _)).sound sound

/-! ### Resets and start-up (R13, R84, R146) -/

theorem resetPart_workSound (phase : Phase) (cause : ResetCause) (s : State) :
    WorkSound (resetPart phase cause s) := by
  have idle : (resetPart phase cause s).engine.work = none := rfl
  have noRequest : (resetPart phase cause s).keys.waiting = false := rfl
  refine workSound_of_noneWaits (fun w hw => ?_) (fun waits => ?_) rfl
  · simp [idle] at hw
  · simp [noRequest] at waits

theorem startBlocks_work (s : State) : WorkKept s (startBlocks s) := by
  have noRequest : (startBlocks s).keys.waiting = false := startKeys_waiting _
  exact ⟨rfl, fun waits => by simp [noRequest] at waits, rfl⟩

/-! ### The moves -/

/-- Every move keeps the record in work sound. -/
theorem Move.workSound {c : Instr} (move : Move c fs s t) (sound : WorkSound s) : WorkSound t := by
  have kept := move.touches
  cases move with
  | addLongest p => exact addLongestWaiting_workSound sound p
  | expire => exact expireNext_workSound sound
  | gap => exact (fillGap_work _ s).sound sound
  | report => exact (reportChannel_work _ s).sound sound
  | take => exact takeNext_workSound sound
  | directive => exact (runDirective_work _ s).sound sound
  | summary => exact (summaryStep_work s).sound sound
  | result => exact (resultStep_work s).sound sound
  | offer => exact (WorkKept.of_waiting kept rfl).sound sound
  | slotWrite sw => exact takeSlotWrite_workSound sound sw
  | write => exact (WorkKept.of_waiting kept rfl).sound sound
  | read => exact (WorkKept.of_waiting kept rfl).sound sound
  | left => exact (WorkKept.of_waiting kept rfl).sound sound
  | grant => exact (WorkKept.of_waiting kept (grantOne_waiting _)).sound sound
  | discard =>
    refine (WorkKept.of_waiting kept ?_).sound sound
    rw [(abandonedMemory_touches _ _ _).path (by decide)]
    rfl
  | answer =>
    refine (WorkKept.of_waiting kept ?_).sound sound
    rw [(answerMemory_touches _ _ _).path (by decide)]
    exact answerPath_waiting _ _ _ _ _
  | returnWord => exact (WorkKept.of_words kept (returnStep_words s)).sound sound
  | index => exact (WorkKept.of_words kept (indexStep_words s)).sound sound
  | capture => exact (WorkKept.of_words kept (captureStep_words s)).sound sound
  | writeBackAck => exact (WorkKept.of_words kept (writeBackAckStep_words s)).sound sound
  | voidAck => exact (WorkKept.of_words kept (voidAckStep_words s)).sound sound
  | statusAck => exact (WorkKept.of_words kept (statusAckStep_words s)).sound sound
  | summaryAck => exact (WorkKept.of_words kept (summaryAckStep_words s)).sound sound
  | resultAck => exact (WorkKept.of_words kept (resultAckStep_words s)).sound sound
  | stage => exact stageStep_workSound sound
  | writeBack => exact issueWriteBack_workSound sound
  | frame bytes => exact takeFrame_workSound sound bytes
  | storeEnd => exact endStoreWrite_workSound sound _
  | reset => exact resetPart_workSound _ _ s
  | start => exact (startBlocks_work s).sound sound
  | _ => exact (WorkKept.of_touches kept).sound sound

/-- Settles O60: every move keeps the record in work sound, and no queue of commands enters into it. -/
theorem workStaysSound : Obligations.WorkStaysSound := fun _ _ sound run =>
  step_keeps (inv := WorkSound) (fun _ _ _ _ move => move.workSound)
    (fun _ _ sound => ⟨sound.record, sound.request, sound.waits⟩) run sound

end Sys2Proof.Proofs
end

section
/-! SUPPORT. What a stage reaches of the other blocks (R89, R90, R95, R107 to R109, R128). -/

namespace Sys2Proof.Proofs

open Sys2Proof Sys2Proof.Machine Sys2Proof.Laws

variable {s t u : State} {w v : Work} {h : Hold}

/-! ### Lanes beside their events (R56, R77, R81) -/

/-- A lane entry without its events, its silence and its latch: what enrolments, directives and commits make of it. -/
def laneCore (l : Lane) : Lane :=
  { l with silence := 0, latch := false, enrolment := .clear, fault := .clear, silent := .clear, silentDue := false }

/-- The lane entries, without events and silence. -/
def laneCores (s : State) : List Lane := s.lanes.entries.map laneCore

/-- R81: the issue tests of the channels, beside the path front and the channels. -/
structure BlocksTold (s t : State) : Prop where
  engine : t.engine = s.engine
  intake : t.intake = s.intake
  lanes  : laneCores t = laneCores s

theorem reportChannel_told (ch : Nat) (s : State) : BlocksTold s (reportChannel ch s) := by
  unfold reportChannel
  split
  · unfold issueStatus
    rw [offerEntry_eq rfl]
    unfold reportLanes
    split
    · exact ⟨rfl, rfl, by simp [laneCores, laneCore, reportLane, onLanes, onChannel, onReport, Function.comp_def]⟩
    · exact ⟨rfl, rfl, rfl⟩
  · exact ⟨rfl, rfl, rfl⟩

theorem reportDue_told (s : State) : BlocksTold s (reportDue s) := by
  unfold reportDue whenRunning
  split
  · generalize 5 = n
    induction n with
    | zero => exact ⟨rfl, rfl, rfl⟩
    | succ n ih =>
      have last := reportChannel_told n (forBelow n reportChannel s)
      rw [forBelow_succ]
      exact ⟨last.engine.trans ih.engine, last.intake.trans ih.intake, last.lanes.trans ih.lanes⟩
  · exact ⟨rfl, rfl, rfl⟩

/-- R77, R90: an outcome that is reported leaves each lane as it is, but for its silence. -/
theorem outcomeReported_lanes (s : State) (h : Hold) (d : Disposition) :
    laneCores (outcomeReported s h d) = laneCores s := by
  unfold laneCores outcomeReported
  dsimp only
  split
  · exact map_updAt (f := laneCore) (g := hearLane) (fun _ => rfl) _ _
  · rfl

/-- What two entries that differ in events and silence alone have in common. -/
theorem fields_of_laneCore {l m : Lane} (same : laneCore m = laneCore l) :
    m.state = l.state ∧ m.offer = l.offer ∧ m.agreement = l.agreement ∧ m.deadline = l.deadline ∧
      m.suspended = l.suspended ∧ m.failures = l.failures ∧ m.high = l.high ∧ m.seen = l.seen ∧
      m.lastCounter = l.lastCounter := by
  simp only [laneCore, Lane.mk.injEq] at same
  simp [same]

theorem laneCore_of_laneCores {i : Nat} {l m : Lane} (same : laneCores t = laneCores s)
    (before : s.lanes.entries[i]? = some l) (after : t.lanes.entries[i]? = some m) : laneCore m = laneCore l := by
  have at_ := congrArg (·[i]?) same
  simpa [laneCores, before, after] using at_

/-! ### One stage (R89, R107 to R109) -/

/-- R89: the stages in their order. -/
def stageOrder : List (Stage × Stage) :=
  [(.judge, .result), (.judge, .laneKeys), (.judge, .body), (.laneKeys, .unseal), (.unseal, .body), (.body, .keys),
    (.keys, .reservation), (.keys, .compute), (.compute, .totalsCommit), (.totalsCommit, .conclude), (.judge, .write),
    (.laneKeys, .write), (.unseal, .write), (.body, .write), (.keys, .write), (.conclude, .write), (.result, .write)]

/-- What a stage of the record `w` with the hold `h` reaches, from `s` to `t`, and the record `v` that it leaves. -/
structure StageReach (s : State) (w : Work) (h : Hold) (t : State) (v : Work) : Prop where
  engine  : t.engine = { s.engine with work := some v }
  window  : v.window = w.window
  slot    : v.slot = w.slot
  next    : v.stage = w.stage ∨ (w.stage, v.stage) ∈ stageOrder
  wrapped : ∀ r, v.outcome = some (.wrapped, r) → w.outcome ≠ some (.wrapped, r) → w.stage = .conclude
  keys    : w.stage ≠ .keys → t.keys = s.keys ∧ t.nv = s.nv
  totals  : w.stage ≠ .totalsCommit → t.totals = s.totals
  lanes   : w.stage ≠ .compute → (w.stage = .judge → headerKind h ≤ 3) → laneCores t = laneCores s
  stored  : t.nv.keys = s.nv.keys ∧ t.nv.groups = s.nv.groups

theorem advances_next (passes : Advances w v) : (w.stage, v.stage) ∈ stageOrder := by
  cases passes <;> simp [*, stageOrder]

theorem advances_kept (passes : Advances w v) : v.window = w.window ∧ v.slot = w.slot ∧ v.outcome = w.outcome := by
  cases passes <;> exact ⟨rfl, rfl, rfl⟩

/-- R128: what a stage requests of the store leaves the stored image alone. -/
theorem valueHandedOut_stored (s : State) (w : Work) :
    (valueHandedOut s w).nv.keys = s.nv.keys ∧ (valueHandedOut s w).nv.groups = s.nv.groups := by
  unfold valueHandedOut
  dsimp only
  split <;> exact ⟨rfl, rfl⟩

theorem reservationAwaited_stored (s : State) (w : Work) :
    (reservationAwaited s w).nv.keys = s.nv.keys ∧ (reservationAwaited s w).nv.groups = s.nv.groups := by
  unfold reservationAwaited
  dsimp only
  split <;> exact ⟨rfl, rfl⟩

theorem stageDone_reach (done : StageDone s w h t) (work : s.engine.work = some w) : ∃ v, StageReach s w h t v := by
  cases done with
  | idle =>
    exact ⟨w, by rw [← work], rfl, rfl, .inl rfl, fun _ now before => absurd now before, fun _ => ⟨rfl, rfl⟩,
      fun _ => rfl, fun _ _ => rfl, rfl, rfl⟩
  | @advanced v passes =>
    obtain ⟨window, slot, outcome⟩ := advances_kept passes
    exact ⟨v, rfl, window, slot, .inr (advances_next passes), fun _ now before => absurd (outcome ▸ now) before,
      fun _ => ⟨rfl, rfl⟩, fun _ => rfl, fun _ _ => rfl, rfl, rfl⟩
  | decided body d r output stage other =>
    refine ⟨_, rfl, rfl, rfl, .inr ?_, fun _ now _ => ?_, fun _ => ⟨rfl, rfl⟩, fun _ => rfl,
      fun _ _ => outcomeReported_lanes s h d, rfl, rfl⟩
    · simp only [List.mem_cons, List.not_mem_nil, or_false] at stage
      obtain stage | stage | stage | stage | stage := stage <;> simp [stage, stageOrder]
    · simp [other] at now
  | enrolment a stage kind other =>
    refine ⟨_, rfl, rfl, rfl, .inr (by simp [stage, stageOrder]), fun _ now _ => ?_, fun _ => ⟨rfl, rfl⟩,
      fun _ => rfl, fun _ low => ?_, rfl, rfl⟩
    · simp [other] at now
    · exact absurd (low stage) (by omega)
  | result output stage =>
    exact ⟨_, rfl, rfl, rfl, .inr (by simp [stage, stageOrder]), fun _ now before => absurd now before,
      fun _ => ⟨rfl, rfl⟩, fun _ => rfl, fun _ _ => rfl, rfl, rfl⟩
  | handedOut stage =>
    exact ⟨_, rfl, rfl, rfl, .inr (by simp [stage, stageOrder]), fun _ now before => absurd now before,
      fun other => absurd stage other, fun _ => rfl, fun _ _ => rfl, valueHandedOut_stored s w⟩
  | awaits stage =>
    exact ⟨_, rfl, rfl, rfl, .inr (by simp [stage, stageOrder]), fun _ now before => absurd now before,
      fun other => absurd stage other, fun _ => rfl, fun _ _ => rfl, reservationAwaited_stored s w⟩
  | computed stage =>
    exact ⟨_, rfl, rfl, rfl, .inr (by simp [stage, stageOrder]), fun _ now before => absurd now before,
      fun _ => ⟨rfl, rfl⟩, fun _ => rfl, fun other => absurd stage other, rfl, rfl⟩
  | committed stage =>
    exact ⟨_, rfl, rfl, rfl, .inr (by simp [stage, stageOrder]), fun _ now before => absurd now before,
      fun _ => ⟨rfl, rfl⟩, fun other => absurd stage other, fun _ _ => rfl, rfl, rfl⟩
  | concluded stage =>
    exact ⟨_, rfl, rfl, rfl, .inr (by simp [stage, stageOrder]), fun _ _ _ => stage, fun _ => ⟨rfl, rfl⟩,
      fun _ => rfl, fun _ _ => outcomeReported_lanes s h .wrapped, rfl, rfl⟩

/-- Settles O33: what the stage reaches, and after it the issue tests, which tell the blocks and no more. -/
theorem stagesReachOnlyTheirBlocks : Obligations.StagesReachOnlyTheirBlocks := by
  intro s w h quiet work hold
  have run := exec_engineTake_stage (st := w.stage) ⟨quiet, work, rfl, hold⟩
  have ran := runStage_record s h w
  obtain ⟨v, reach⟩ := stageDone_reach (runStage_done work h) work
  generalize runStage h w s = u at run ran reach
  have told := reportDue_told u
  have tests := reportDue_touches u
  refine ⟨reportDue u, v, run, told.engine.trans reach.engine, reach.window, reach.slot, reach.next, reach.wrapped,
    fun other => ?_, fun other => (tests.totals (by decide)).trans (reach.totals other),
    fun other low i l m before after => ?_, told.intake.trans (ran.intake (by decide)),
    (tests.directives (by decide)).trans (ran.directives (by decide)),
    (tests.dram (by decide)).trans (ran.dram (by decide)), ?_, ?_,
    (tests.port (by decide)).trans (ran.port (by decide)),
    (tests.sweepCount (by decide)).trans (ran.sweepCount (by decide)),
    (tests.settings (by decide)).trans (ran.settings (by decide))⟩
  · rw [tests.keys (by decide), tests.nv (by decide)]
    exact reach.keys other
  · exact fields_of_laneCore (laneCore_of_laneCores (told.lanes.trans (reach.lanes other low)) before after)
  · rw [tests.nv (by decide)]
    exact reach.stored.1
  · rw [tests.nv (by decide)]
    exact reach.stored.2

end Sys2Proof.Proofs
end

section
/-! SUPPORT. ENGINE_TAKE at each stage of a card record, in a quiet state (R89 to R105). -/

namespace Sys2Proof.Proofs

open Sys2Proof Sys2Proof.Machine Sys2Proof.Laws

variable {s t : State} {w v : Work} {h : Hold} {st : Stage} {fs : List Field} {a : Admission}

/-! ### A stage and the issue tests (R90, R166) -/

/-- A stage that refuses the record, with a header-only output. -/
theorem exec_refused {d : Disposition} {r : Reason} (engineAt : EngineAt s st w h)
    (run : runStage h w s = decideHeaderOnly h d r s) :
    exec .engineTake s = .next (reportDue (recordRefused s w h d r)) := by
  rw [exec_engineTake_stage engineAt, run, decideHeaderOnly_eq engineAt.work]

/-- A stage that touches no channel makes no status write due. -/
theorem exec_stage_silent (engineAt : EngineAt s st w h) (run : runStage h w s = t) (kept : Touches fs s t)
    (phase : .phase ∉ fs := by decide) (settings : .settings ∉ fs := by decide) (report : .report ∉ fs := by decide) :
    exec .engineTake s = .next t := by
  rw [exec_engineTake_stage engineAt, run, reportDue_of_kept (quiet_reports engineAt.quiet) kept phase settings report]

/-- A stage that only leads the record on. -/
theorem exec_advanced (engineAt : EngineAt s st w h) (run : runStage h w s = withWork s v) :
    exec .engineTake s = .next (withWork s v) := exec_stage_silent engineAt run (withWork_touches s v)

/-! ### The judge stage (R91 to R95) -/

theorem judgeStage_expired (expired : h.expired = true) (copy : Option Admission) (s : State) :
    judgeStage h copy s =
      if h.lengthFault = true then decideHeaderOnly h .rejected .badLength s else decideHeaderOnly h .expired .none s := by
  unfold judgeStage
  rw [if_pos expired]

theorem judgeStage_misshapen {r : Reason} (fresh : h.expired = false) (reason : shapeReason h = some r)
    (copy : Option Admission) (s : State) : judgeStage h copy s = decideHeaderOnly h .rejected r s := by
  unfold judgeStage
  rw [fresh, if_neg (by simp), reason]

/-- R93: a shaped PLAIN record ends PASSED. -/
theorem judgeStage_plain (fresh : h.expired = false) (shaped : Shaped h) (plain : headerKind h = 1)
    (copy : Option Admission) (s : State) :
    judgeStage h copy s = decideRecord h .passed .none (passedOutput (sizeOf s h) h (headerLength h)) s := by
  unfold judgeStage
  rw [fresh, if_neg (by simp), shapeReason_of_shaped shaped]
  exact if_pos plain

/-- R94: a shaped card or enrolment record of a lane above 47 is refused. -/
theorem judgeStage_badLane (fresh : h.expired = false) (shaped : Shaped h) (kind : headerKind h ≠ 1)
    (lane : 47 < headerLane h) (copy : Option Admission) (s : State) :
    judgeStage h copy s = decideHeaderOnly h .rejected .badLane s := by
  unfold judgeStage
  rw [fresh, if_neg (by simp), shapeReason_of_shaped shaped]
  dsimp only
  rw [if_neg kind, if_pos lane]

/-- R95: a shaped card record of a lane 0 to 47 meets its admission copy. -/
theorem judgeStage_card (fresh : h.expired = false) (shaped : Shaped h) (card : headerKind h = 2 ∨ headerKind h = 3)
    (lane : headerLane h ≤ 47) (a : Admission) (s : State) :
    judgeStage h (some a) s = admissionStage h a s := by
  unfold judgeStage
  rw [fresh, if_neg (by simp), shapeReason_of_shaped shaped]
  dsimp only
  rw [if_neg (by omega), if_neg (by omega), if_neg (by omega)]

theorem admissionStage_refused {d : Disposition} {r : Reason} (out : admissionOutcome (headerKind h) a = some (d, r))
    (s : State) : admissionStage h a s = decideHeaderOnly h d r s := by
  simp only [admissionStage, out]

/-- R95: how a record ends by the sequence verdict of its copy. -/
def verdictOutcome : Verdict → Option (Disposition × Reason)
  | .badSeq => some (.rejected, .badSeq)
  | .duplicate => some (.duplicate, .none)
  | .stale => some (.stale, .none)
  | .accept => none

/-- R95: of a card record whose copy is ENROLLED, not suspended, and agrees its kind the sequence verdict decides. -/
theorem admissionOutcome_of_agreed {kind : Nat} (card : kind = 2 ∨ kind = 3) (enrolled : a.state = .enrolled)
    (active : a.suspended = false) (clear : kind = 2 → a.kinds.clear = true) (sealed_ : kind = 3 → a.kinds.sealed = true) :
    admissionOutcome kind a = verdictOutcome a.verdict := by
  have agreed : kindAgreed kind a.kinds = true := by
    obtain rfl | rfl := card
    · exact clear rfl
    · exact sealed_ rfl
  unfold admissionOutcome
  rw [if_neg (by simp [enrolled]), if_neg (by simp [active]), if_neg (by simp [agreed])]
  rfl

/-- Settles O29: the judge stage case by case, each a refusal or a pass of the record in work. -/
theorem judgeStageDecides : Obligations.JudgeStageDecides := by
  intro s w h engineAt
  have judged := runStage_judge engineAt.stage h s
  refine ⟨fun expired fault => ?_, fun expired fault => ?_, fun fresh kind => ?_, fun fresh low high version => ?_,
    fun fresh low high version misshapen => ?_, fun fresh shaped plain => ?_, fun fresh shaped card lane => ?_,
    fun a copy fresh shaped card lane => ?_⟩
  · exact exec_refused engineAt (judged.trans (by rw [judgeStage_expired expired, if_pos fault]))
  · exact exec_refused engineAt (judged.trans (by rw [judgeStage_expired expired, fault, if_neg (by simp)]))
  · exact exec_refused engineAt (judged.trans (judgeStage_misshapen fresh (shapeReason_badKind kind) _ s))
  · exact exec_refused engineAt
      (judged.trans (judgeStage_misshapen fresh (shapeReason_badVersion low high version) _ s))
  · exact exec_refused engineAt
      (judged.trans (judgeStage_misshapen fresh (shapeReason_badLength low high version misshapen) _ s))
  · rw [exec_engineTake_stage engineAt, judged, judgeStage_plain fresh shaped plain, decideRecord_eq engineAt.work]
    rfl
  · exact exec_refused engineAt (judged.trans (judgeStage_badLane fresh shaped card lane _ s))
  · have met : runStage h w s = admissionStage h a s := by
      rw [judged, copy, judgeStage_card fresh shaped card lane]
    have refused {d : Disposition} {r : Reason} (out : admissionOutcome (headerKind h) a = some (d, r)) :
        exec .engineTake s = .next (reportDue (recordRefused s w h d r)) :=
      exec_refused engineAt (met.trans (admissionStage_refused out s))
    refine ⟨fun absent => refused ?_, fun enrolled suspended => refused ?_, fun enrolled active kinds => refused ?_,
      fun enrolled active clear sealed_ => ?_, fun admits kind => ?_, fun admits kind => ?_⟩
    · simp [admissionOutcome, absent]
    · simp [admissionOutcome, enrolled, suspended]
    · have other : kindAgreed (headerKind h) a.kinds = false := by
        obtain ⟨kind, clear⟩ | ⟨kind, sealed_⟩ := kinds
        · simp [kindAgreed, kind, clear]
        · simp [kindAgreed, kind, sealed_]
      simp [admissionOutcome, enrolled, active, other]
    · have out := admissionOutcome_of_agreed card enrolled active clear sealed_
      refine ⟨fun verdict => refused ?_, fun verdict => refused ?_, fun verdict => refused ?_⟩ <;> rw [out, verdict, verdictOutcome]
    · refine exec_advanced engineAt (met.trans ?_)
      have passes : admissionOutcome (headerKind h) a = none :=
        (admissionOutcome_eq_none_iff card).mpr (kind ▸ admits)
      simp only [admissionStage, passes]
      rw [if_neg (by omega), onWork_eq engineAt.work]
    · refine exec_advanced engineAt (met.trans ?_)
      have passes : admissionOutcome (headerKind h) a = none :=
        (admissionOutcome_eq_none_iff card).mpr (kind ▸ admits)
      simp only [admissionStage, passes]
      rw [if_pos kind, passTo_eq engineAt.work]

/-! ### The sealed stages (R96 to R98) -/

theorem laneKeyHeld_iff {k : KeyStore} {lane : Nat} {key : KeySlot} (found : k.lanes[lane]? = some key) (id : Byte) :
    laneKeyHeld k lane id = true ↔ key.state = .loaded ∧ key.id = id.toNat := by
  simp [laneKeyHeld, List.getD_eq_getElem?_getD, found]

/-- Settles O30: the key request and the unsealing, each by the check that decides it. -/
theorem sealedStagesDecide : Obligations.SealedStagesDecide := by
  refine ⟨fun s w h a k engineAt copy found => ?_,
    fun s w h a unsealKey tagKey body tag engineAt copy answered bodyIs tagIs => ?_⟩
  · have run := runStage_laneKeys engineAt.stage copy h s
    have held := laneKeyHeld_iff found a.keyId
    refine ⟨fun other => exec_refused engineAt (run.trans (if_neg ?_)), fun loaded id => ?_⟩
    · rw [held]
      tauto
    · refine exec_advanced engineAt (run.trans ?_)
      rw [laneKeyStage, if_pos (held.mpr ⟨loaded, id⟩), onWork_eq engineAt.work]
      simp only [List.getD_eq_getElem?_getD, found, Option.getD_some, id, laneWorkingKeys]
  · have run := runStage_unseal engineAt.stage copy answered h s
    have unsealed (fresh : a.lastCounter < heldNat h 32 4) : runStage h w s =
        if tag ≠ heldBytes h 128 8 then decideHeaderOnly h .rejected .laneTag (withWork s { w with body := some body })
        else passTo .body (withWork s { w with body := some body }) := by
      rw [run, unsealStage, if_neg (by omega), onWork_eq engineAt.work, bodyIs, tagIs]
      rfl
    refine ⟨fun replayed => exec_refused engineAt (run.trans (if_pos replayed)), fun fresh differs => ?_,
      fun fresh same => ?_⟩
    · rw [exec_engineTake_stage engineAt, unsealed fresh, if_pos differs, decideHeaderOnly_withWork]
    · refine exec_advanced engineAt ((unsealed fresh).trans ?_)
      rw [if_neg (by simpa using same), passTo_eq rfl]
      rfl

/-! ### The body (R99, R100) -/

theorem allDigits_iff {l : List Byte} : allDigits l = true ↔ ∀ b ∈ l, b.toNat ≤ 9 := by simp [allDigits]

theorem judgeBody_badPan {body : List Byte} (bad : ¬CardNumberGood body) : judgeBody body = some .badPan := by
  unfold judgeBody
  dsimp only
  split
  · rfl
  · next length =>
    split
    · rfl
    · next digits =>
      rw [if_pos]
      by_contra check
      exact bad ⟨by omega, allDigits_iff.mp (by simpa using digits), by simpa using check⟩

/-- R99, R100: the tests after a good card number. -/
theorem judgeBody_of_card {body : List Byte} (card : CardNumberGood body) : judgeBody body =
    if !allDigits (slice body 20 4) then some .badBody
    else if expiryMonth body < 1 ∨ 12 < expiryMonth body then some .badBody
    else if !allDigits (slice body 24 3) then some .badBody
    else if 999 < bodyCurrency body then some .badBody
    else if 47 < remainderLength body then some .badBody
    else if 9999999999 < bodyAmount body then some .badAmount
    else none := by
  obtain ⟨length, digits, check⟩ := card
  unfold judgeBody
  dsimp only
  rw [if_neg (by omega), if_neg (by simp [allDigits_iff.mpr digits]), if_neg (by simp [check])]

theorem judgeBody_badBody {body : List Byte} (card : CardNumberGood body) (bad : ¬FieldsGood body) :
    judgeBody body = some .badBody := by
  rw [judgeBody_of_card card]
  split
  · rfl
  · next expiry =>
    split
    · rfl
    · next month =>
      split
      · rfl
      · next service =>
        split
        · rfl
        · next currency =>
          split
          · rfl
          · next remainder =>
            have month : 1 ≤ expiryMonth body ∧ expiryMonth body ≤ 12 := by omega
            exact absurd ⟨allDigits_iff.mp (by simpa using expiry), month, allDigits_iff.mp (by simpa using service),
              by omega, by omega⟩ bad

theorem judgeBody_of_fields {body : List Byte} (card : CardNumberGood body) (fields : FieldsGood body) :
    judgeBody body = if 9999999999 < bodyAmount body then some .badAmount else none := by
  obtain ⟨expiry, month, service, currency, remainder⟩ := fields
  rw [judgeBody_of_card card, if_neg (by simp [allDigits_iff.mpr expiry]), if_neg (by unfold expiryMonth; omega),
    if_neg (by simp [allDigits_iff.mpr service]), if_neg (by omega), if_neg (by omega)]

/-- Settles O31: the body by `judgeBody`'s three answers, the key request by its three. -/
theorem bodyAndKeyStagesDecide : Obligations.BodyAndKeyStagesDecide := by
  refine ⟨fun s w h body engineAt kept => ?_, fun s w h engineAt => ?_⟩
  · have run := runStage_body engineAt.stage kept h s
    have refused {r : Reason} (judged : judgeBody body = some r) :
        exec .engineTake s = .next (reportDue (recordRefused s w h .rejected r)) :=
      exec_refused engineAt (run.trans (by simp only [bodyStage, judged]))
    refine ⟨fun bad => refused (judgeBody_badPan bad), fun card bad => refused (judgeBody_badBody card bad),
      fun card fields amount => refused ?_, fun good => exec_advanced engineAt (run.trans ?_)⟩
    · rw [judgeBody_of_fields card fields, if_pos amount]
    · have judged : judgeBody body = none := by
        rw [judgeBody_of_fields good.card good.fields, if_neg (by have := good.amount; omega)]
      simp only [bodyStage, judged]
      exact passTo_eq engineAt.work _
  · have run := runStage_keys engineAt.stage h s
    have held (surrogate : s.keys.store.surrogate.state ≠ .empty) (active : s.keys.store.current.state = .active) :
        runStage h w s =
          if s.keys.currentC < s.keys.store.currentMark then handOutToRecord s else waitForReservation s := by
      rw [run, keyStage, if_neg (by simp [noKeyFlag_iff, surrogate, active])]
    refine ⟨fun none => exec_refused engineAt (run.trans (if_pos (noKeyFlag_iff.mpr none))), fun ready => ?_,
      fun surrogate active reached => ?_⟩
    · obtain ⟨surrogate, active, below⟩ := ready
      rw [exec_engineTake_stage engineAt, held surrogate active, if_pos below, handOutToRecord_eq engineAt.work active]
    · have awaited := waitForReservation_eq engineAt.work
      exact exec_stage_silent engineAt
        (by rw [held surrogate active, if_neg (by omega), awaited]; rfl) (awaited ▸ waitForReservation_touches s)

/-! ### The commits and the conclusion (R103 to R105) -/

/-- R74, R75: the commit to the lane, in full. -/
theorem commitLane_eq (q : Nat) (counter : Option Nat) (l : Lane) : commitLane q counter l = { l with
    high := max l.high q
    seen := if l.high < q then (l.seen <<< (q - l.high)) ||| 1
      else if l.high < q + 32 then l.seen ||| (1 <<< (l.high - q)) else l.seen
    lastCounter := counter.getD l.lastCounter } := by
  have marked : markSequence q l = { l with
      high := max l.high q
      seen := if l.high < q then (l.seen <<< (q - l.high)) ||| 1
        else if l.high < q + 32 then l.seen ||| (1 <<< (l.high - q)) else l.seen } := by
    unfold markSequence
    split
    · next later => rw [max_eq_right (by omega)]
    · next notLater =>
      rw [max_eq_left (by omega)]
      split <;> rfl
  cases counter with
  | none => exact marked
  | some c =>
    rw [commitLane, marked]
    rfl

/-- R75: only a sealed record carries a lane counter. -/
theorem commitLane_held (h : Hold) :
    commitLane (heldSequence h) (if headerKind h = 3 then some (heldNat h 32 4) else none) = fun l => { l with
      high := max l.high (heldSequence h)
      seen := if l.high < heldSequence h then (l.seen <<< (heldSequence h - l.high)) ||| 1
        else if l.high < heldSequence h + 32 then l.seen ||| (1 <<< (l.high - heldSequence h)) else l.seen
      lastCounter := if headerKind h = 3 then heldNat h 32 4 else l.lastCounter } := by
  funext l
  rw [commitLane_eq, apply_ite (Option.getD · l.lastCounter)]
  rfl

/-- Settles O32: the compute stage, the totals commit, the conclusion and the enrolment result, each in full. -/
theorem recordsAreCommittedAndConcluded : Obligations.RecordsAreCommittedAndConcluded := by
  refine ⟨fun s w h body c lane q laneIs qIs kept captured => ⟨fun engineAt => ?_, fun engineAt p formed => ?_,
    fun engineAt p batch tag formed number tagIs => ?_⟩, fun s w h d r engineAt outcome => ?_⟩
  · subst laneIs qIs
    have computed := computeStage_eq engineAt.work h body c
    rw [exec_stage_silent engineAt ((runStage_compute engineAt.stage kept captured h s).trans computed)
      (computed ▸ computeStage_touches s h body c), laneCommitted, commitLane_held]
  · subst laneIs
    have added := totalsStage_eq engineAt.work h body c
    rw [exec_stage_silent engineAt ((runStage_totalsCommit engineAt.stage kept captured h s).trans added)
      (added ▸ totalsStage_touches s h body c), totalsCommitted, formed]
    rfl
  · subst laneIs qIs
    rw [exec_engineTake_stage engineAt, runStage_conclude engineAt.stage kept captured formed,
      concludeStage_eq engineAt.work h body c number, tagIs]
    rfl
  · refine exec_advanced engineAt ((runStage_result engineAt.stage h s).trans ?_)
    simp only [resultStage, outcome]
    rw [onWork_eq engineAt.work]
    simp only [outcome]
    rfl

end Sys2Proof.Proofs
end

section
/-! SUPPORT. The engine's take: the entry that the arbiter selects, and its admission copy (R72, R73, R86 to R88). -/

namespace Sys2Proof.Proofs

open Sys2Proof Sys2Proof.Machine Sys2Proof.Laws

variable {s : State} {e f : QueueEntry} {h k : Hold}

/-! ### Selection (R86, R87) -/

theorem greatestBy_eq_none {α : Type} {key : α → Nat} {l : List α} (none : greatestBy key l = none) : l = [] := by
  cases l with
  | nil => rfl
  | cons a l =>
    unfold greatestBy at none
    split at none
    · cases none
    · split at none <;> cases none

theorem greatestBy_le {α : Type} {key : α → Nat} {l : List α} {x : α} (found : greatestBy key l = some x) :
    ∀ y ∈ l, key y ≤ key x := by
  induction l generalizing x with
  | nil => exact fun y hy => nomatch hy
  | cons a l ih =>
    unfold greatestBy at found
    split at found
    · next none =>
      obtain rfl := Option.some_injective _ found
      simp [greatestBy_eq_none none]
    · next z rest =>
      have below := ih rest
      split at found <;> obtain rfl := Option.some_injective _ found <;> intro y hy <;>
        obtain rfl | hy := List.mem_cons.mp hy
      · exact Nat.le_refl _
      · exact (below y hy).trans ‹_›
      · omega
      · exact below y hy

/-- R26, R87: the key of an entry whose hold has its completion serial. -/
theorem selectionKey_eq {m : BitVec 32} (hold : holdOf s e.window e.slot = some h) (serial : h.serial = some m) :
    selectionKey s e = s.settings.priorities.getD (headerClass h) 0 * 2 ^ 32 + (s.intake.serial - m).toNat := by
  simp only [selectionKey, hold, holdPriority, serialAge, serial]

/-- R87: no queued entry has a higher priority than the next one, and none of its priority an earlier serial. -/
theorem nextEntry_first {m n : BitVec 32} (next : nextEntry s = some e) (hold : holdOf s e.window e.slot = some h)
    (queued : f ∈ s.engine.queue) (other : holdOf s f.window f.slot = some k) (serial : h.serial = some m)
    (serialOther : k.serial = some n) :
    s.settings.priorities.getD (headerClass k) 0 < s.settings.priorities.getD (headerClass h) 0 ∨
      (s.settings.priorities.getD (headerClass k) 0 = s.settings.priorities.getD (headerClass h) 0 ∧
        (s.intake.serial - n).toNat ≤ (s.intake.serial - m).toNat) := by
  have least := greatestBy_le next f queued
  rw [selectionKey_eq hold serial, selectionKey_eq other serialOther] at least
  have bound := (s.intake.serial - m).isLt
  omega

/-! ### The admission copy (R72, R73) -/

theorem sequenceVerdict_eq (l : Lane) (q : Nat) : sequenceVerdict l q =
    if q = 0 then .badSeq
    else if l.high < q then .accept
    else if q + 32 ≤ l.high then .stale
    else if l.seen.getLsbD (l.high - q) = true then .duplicate else .accept := by
  unfold sequenceVerdict
  split
  · rfl
  · split
    · rfl
    · by_cases old : q + 32 ≤ l.high
      · rw [if_neg (by omega), if_pos old]
      · rw [if_pos (by omega), if_neg old]

theorem admissionCopy_eq (l : Lane) (q : Nat) : admissionCopy l q =
    { state := l.state
      suspended := l.suspended
      kinds := (l.agreement.map (·.kinds)).getD ⟨false, false⟩
      keyId := (l.agreement.map (·.keyId)).getD 0
      lastCounter := l.lastCounter
      verdict :=
        if q = 0 then .badSeq
        else if l.high < q then .accept
        else if q + 32 ≤ l.high then .stale
        else if l.seen.getLsbD (l.high - q) = true then .duplicate else .accept } := by
  rw [admissionCopy, sequenceVerdict_eq, agreedKinds]
  cases l.agreement <;> rfl

/-- R88: the admission query is made for a card record of a lane 0 to 47 that did not expire. -/
theorem admissionOf_eq (h : Hold) (s : State) : admissionOf h s =
    if (headerKind h = 2 ∨ headerKind h = 3) ∧ headerLane h ≤ 47 ∧ h.expired = false then
      some (admissionCopy (laneAt s (headerLane h)) (heldSequence h))
    else none := by
  simp only [admissionOf, Bool.not_eq_true']

/-! ### The command (R88) -/

theorem exec_engineTake_idle (done : ReportsDone s) (idle : s.engine.work = none) :
    exec .engineTake s = .next (takeNext s) := by
  change Host.Outcome.next (if s.engine.work = none then takeNext (whenRunning settleReports s) else _) = _
  rw [if_pos idle, whenRunning_settleReports_of done]

theorem takeNext_eq (idle : s.engine.work = none) (next : nextEntry s = some e)
    (hold : holdOf s e.window e.slot = some h) : takeNext s = startWork e h s := by
  simp only [takeNext, idle, next, hold]

/-- Settles O28: the arbiter's selection, the take in full, and the states in which ENGINE_TAKE finds nothing to do. -/
theorem engineTakesTheFirst : Obligations.EngineTakesTheFirst := by
  refine ⟨fun s e h l takes lane => ⟨greatestBy_mem takes.next, fun f queued k m n p q other serial serialOther hp hq =>
      ?_, ?_⟩, fun s done idle empty => ?_, fun s st w h engineAt waits => ?_⟩
  · subst hp hq
    exact nextEntry_first takes.next takes.hold queued other serial serialOther
  · rw [exec_engineTake_idle takes.done takes.idle, takeNext_eq takes.idle takes.next takes.hold]
    rw [startWork, admissionOf_eq, admissionCopy_eq, lane]
    rfl
  · rw [exec_engineTake_idle done idle, takeNext_of (.inr empty)]
  · have still : runStage h w s = s := by
      obtain rfl | rfl := waits
      · exact runStage_write engineAt.stage h s
      · exact runStage_reservation engineAt.stage h s
    exact exec_stage_silent engineAt still (.refl [] s)

end Sys2Proof.Proofs
end

section
/-! SUPPORT. The surrogate of a card number (R122 to R126): the check sum, the shifts that are drawn, and the number
that they give. -/

namespace Sys2Proof.Proofs

open Sys2Proof Sys2Proof.Machine Sys2Proof.Laws

/-! ### The check-digit rule (R122) -/

/-- R122: each digit counts by the parity of its index, here counted from `k`. -/
theorem digitSum_eq_sum_zipIdx (l : List Nat) (k : Nat) : digitSum (decide (k % 2 = 0)) l =
    ((l.zipIdx k).map fun x =>
      if x.2 % 2 = 0 then x.1 else if 2 * x.1 ≤ 9 then 2 * x.1 else 2 * x.1 - 9).sum := by
  induction l generalizing k with
  | nil => rfl
  | cons d l ih =>
    have parity : (!decide (k % 2 = 0)) = decide ((k + 1) % 2 = 0) := by
      rw [← decide_not, decide_eq_decide]
      omega
    rw [digitSum, parity, ih]
    simp [digitTerm]

theorem passesCheck_iff (digits : List Nat) : passesCheck digits = true ↔ digitSum true digits.reverse % 10 = 0 :=
  beq_iff_eq

theorem digitSum_append (odd : Bool) (a b : List Nat) :
    digitSum odd (a ++ b) = digitSum odd a + digitSum (a.length.bodd ^^ odd) b := by
  induction a generalizing odd with
  | nil => simp [digitSum]
  | cons d a ih => simp [digitSum, ih, Nat.add_assoc]

/-- R126: four places before the end a digit stands in an odd position, and counts as it is. -/
theorem digitSum_fifth {last : List Nat} (four : last.length = 4) (front : List Nat) (d : Nat) :
    digitSum true (front ++ d :: last).reverse =
      digitSum true last.reverse + (d + digitSum false front.reverse) := by
  simp [digitSum_append, four, digitSum, digitTerm]

/-- R126: raising that digit raises the sum by one modulo 10. -/
theorem raised_fails {front last : List Nat} {d : Nat} (four : last.length = 4)
    (passes : passesCheck (front ++ d :: last) = true) : passesCheck (front ++ (d + 1) % 10 :: last) = false := by
  rw [passesCheck_iff, digitSum_fifth four] at passes
  rw [← Bool.not_eq_true, passesCheck_iff, digitSum_fifth four]
  omega

/-! ### The adjustment (R126) -/

theorem updAt_append_cons {α : Type} (front : List α) (x : α) (last : List α) (f : α → α) :
    updAt (front ++ x :: last) front.length f = front ++ f x :: last := by
  induction front with
  | nil => rfl
  | cons y front ih => rw [List.cons_append, List.length_cons, updAt, ih]; rfl

theorem adjustDigits_fifth {last : List Nat} (four : last.length = 4) (front : List Nat) (d : Nat) :
    adjustDigits (front ++ d :: last) =
      if passesCheck (front ++ d :: last) = true then front ++ (d + 1) % 10 :: last else front ++ d :: last := by
  have place : (front ++ d :: last).length - 5 = front.length := by simp [four]
  rw [adjustDigits, place, updAt_append_cons]

/-- R126: before the last four digits the adjustment leaves digits of the same number, and the result fails. -/
theorem adjustDigits_fails (first : List Nat) {middle last : List Nat} (some : middle ≠ []) (four : last.length = 4)
    (digits : ∀ d ∈ middle, d ≤ 9) : ∃ middle', adjustDigits (first ++ middle ++ last) = first ++ middle' ++ last ∧
      middle'.length = middle.length ∧ (∀ d ∈ middle', d ≤ 9) ∧ passesCheck (first ++ middle' ++ last) = false := by
  obtain rfl | ⟨front, d, rfl⟩ := List.eq_nil_or_concat' middle
  · exact absurd rfl some
  · have regroup (x : Nat) : first ++ (front ++ [x]) ++ last = (first ++ front) ++ x :: last := by simp
    have adjusted := adjustDigits_fifth four (first ++ front) d
    rw [← regroup d] at adjusted
    split at adjusted
    · next passes =>
      refine ⟨front ++ [(d + 1) % 10], by rw [adjusted, regroup], by simp, fun x hx => ?_, ?_⟩
      · obtain kept | raised := List.mem_append.1 hx
        · exact digits x (List.mem_append_left _ kept)
        · rw [List.mem_singleton.1 raised]
          omega
      · rw [regroup] at passes ⊢
        exact raised_fails four passes
    · next fails => exact ⟨_, adjusted, rfl, digits, Bool.not_eq_true _ ▸ fails⟩

/-! ### The shifts (R124) -/

/-- R124: as many shifts as are asked for are drawn. -/
theorem drawShifts_length (key : List Byte) (fuel : Nat) (source : List Byte) (m : Nat) :
    (drawShifts key fuel source m).length = m := by
  induction fuel generalizing source m with
  | zero => simp [drawShifts]
  | succ fuel ih =>
    rw [drawShifts]
    split
    · next enough => exact List.length_take_of_le enough
    · next short => rw [List.length_append, ih]; omega

/-- R124: the shifts are the first that the sources in turn yield. -/
theorem drawShifts_eq_take (key : List Byte) {source : Nat → List Byte}
    (turn : ∀ j, source (j + 1) = transform key (source j)) {count fuel m : Nat} (within : count ≤ fuel)
    (enough : m ≤ ((List.range count).flatMap fun j => sourceShifts (source j)).length) :
    drawShifts key fuel (source 0) m = ((List.range count).flatMap fun j => sourceShifts (source j)).take m := by
  induction count generalizing source fuel m with
  | zero =>
    obtain rfl : m = 0 := by simpa using enough
    exact List.eq_nil_of_length_eq_zero (drawShifts_length _ _ _ _)
  | succ count ih =>
    obtain ⟨fuel, rfl⟩ : ∃ f, fuel = f + 1 := ⟨fuel - 1, by omega⟩
    simp only [List.range_succ_eq_map, List.flatMap_cons, List.flatMap_map, Nat.succ_eq_add_one] at enough ⊢
    rw [drawShifts]
    split
    · next first => rw [List.take_append_of_le_length first]
    · next short =>
      rw [List.length_append] at enough
      rw [← turn 0, ih (source := fun j => source (j + 1)) (fun j => turn (j + 1)) (by omega) (by omega),
        List.take_append, List.take_of_length_le (Nat.le_of_not_le short)]

theorem sourceShifts_eq_filterMap (source : List Byte) :
    sourceShifts source = source.filterMap fun b => if b.toNat < 250 then some (b.toNat % 10) else none := by
  simp [sourceShifts, ← List.filterMap_eq_filter, List.map_filterMap, Option.guard]

/-! ### The shifted number (R125) -/

variable {digits : List Nat}

/-- R125: shifts beyond the last middle digit have no part in the number. -/
theorem shiftDigits_take (digits shifts : List Nat) :
    shiftDigits digits (shifts.take (digits.length - 10)) = shiftDigits digits shifts := by
  have short : (List.zipWith (fun p k => (p + k) % 10) (slice digits 6 (digits.length - 10)) shifts).length ≤
      digits.length - 10 := by simp [slice]
  rw [shiftDigits, shiftDigits, ← List.take_of_length_le short, List.take_zipWith, slice, List.take_take, Nat.min_self]

/-- R123, R125, R126: between the first six and the last four digits stand as many digits as before, and the whole fails
the check. -/
theorem surrogateDigits_parts (key : List Byte) (atLeast : 12 ≤ digits.length) :
    ∃ middle, surrogateDigits key digits = digits.take 6 ++ middle ++ digits.drop (digits.length - 4) ∧
      middle.length = digits.length - 10 ∧ (∀ d ∈ middle, d ≤ 9) ∧ passesCheck (surrogateDigits key digits) = false := by
  rw [surrogateDigits, shiftDigits]
  generalize drawn : drawShifts key _ _ _ = shifts
  have count : shifts.length = digits.length - 10 := drawn ▸ drawShifts_length _ _ _ _
  generalize moves : List.zipWith _ (slice digits 6 (digits.length - 10)) shifts = moved
  have size : moved.length = digits.length - 10 := by simp [← moves, slice, count]; omega
  have small : ∀ d ∈ moved, d ≤ 9 := by
    intro d hd
    rw [← moves] at hd
    obtain ⟨i, inside, rfl⟩ := List.mem_iff_getElem.1 hd
    rw [List.getElem_zipWith]
    exact Nat.le_of_lt_succ (Nat.mod_lt _ (by decide))
  obtain ⟨middle, result, same, fine, fails⟩ := adjustDigits_fails (digits.take 6)
    (List.ne_nil_of_length_pos (by omega)) (last := digits.drop (digits.length - 4)) (by simp; omega) small
  exact ⟨middle, result, same.trans size, fine, result ▸ fails⟩

/-- R55, R123: the surrogate block written out. -/
theorem surrogateBlock_eq (atLeast : 12 ≤ digits.length) : surrogateBlock digits =
    (digits.length :: (digits.take 6 ++ digits.drop (digits.length - 4))).map (BitVec.ofNat 8) ++ [0, 0, 0, 0, 0] := by
  have size : (byteOf digits.length ::
      (digits.take 6 ++ digits.drop (digits.length - 4)).map byteOf).length = 11 := by simp; omega
  rw [surrogateBlock, padTo_of_le (by omega), size]
  rfl

/-- Settles O46: the parts of a surrogate, and its shifts as the first that the sources yield. -/
theorem surrogatesKeepTheEndsAndFailTheCheck : Obligations.SurrogatesKeepTheEndsAndFailTheCheck := by
  refine ⟨fun key digits atLeast _ small => ?_,
    fun key digits shifts moved source count atLeast _ first turn within shiftsIs enough movedIs => ?_, fun digits => ?_⟩
  · obtain ⟨middle, parts, size, fine, fails⟩ := surrogateDigits_parts key atLeast
    have six : (digits.take 6).length = 6 := by simp; omega
    have front : (digits.take 6 ++ middle).length = digits.length - 4 := by rw [List.length_append]; omega
    refine ⟨?_, ?_, ?_, fun d hd => ?_, fails⟩
    · rw [parts, List.length_append, front, List.length_drop]
      omega
    · rw [parts, List.append_assoc, List.take_left' six]
    · rw [parts, List.drop_left' front]
    · simp only [parts, List.mem_append] at hd
      obtain (ends | mid) | ends := hd
      · exact small d (List.mem_of_mem_take ends)
      · exact fine d mid
      · exact small d (List.mem_of_mem_drop ends)
  · have yielded : shifts = (List.range count).flatMap fun j => sourceShifts (source j) := by
      simp only [shiftsIs, sourceShifts_eq_filterMap, List.filterMap_flatMap]
    rw [← surrogateBlock_eq atLeast] at first
    rw [surrogateDigits, ← first, drawShifts_eq_take key turn (fuel := sourceLimit) within (yielded ▸ enough), ← yielded,
      shiftDigits_take]
    have shifted : shiftDigits digits shifts = moved := movedIs.symm
    have size : moved.length = digits.length := by
      rw [movedIs]
      simp
      omega
    rw [shifted, adjustDigits, size]
  · rw [passesCheck_iff, ← digitSum_eq_sum_zipIdx digits.reverse 0]
    rfl

end Sys2Proof.Proofs
end

section
/-! SUPPORT. Envelope, unsealing and tags (R114 to R121, R62): the chained tag by its chaining values, keystreams that
undo themselves, the plaintext byte by byte, and the blocks of R55 as layouts. -/

namespace Sys2Proof.Proofs

open Sys2Proof Sys2Proof.Machine Sys2Proof.Laws

variable {key : List Byte}

/-! ### The chained tag (R114) -/

/-- R114: the last of the chaining values, each made of the one before and its block. -/
theorem chainFrom_eq_last {blocks values : List (List Byte)} {v last : List Byte} (start : values[0]? = some v)
    (turn : ∀ (i : Nat) v b, values[i]? = some v → blocks[i]? = some b →
      values[i + 1]? = some (transform key (xorBytes v b)))
    (ends : values[blocks.length]? = some last) : chainFrom key v blocks = last := by
  induction blocks generalizing values v with
  | nil => exact Option.some.inj (start.symm.trans ends)
  | cons b blocks ih =>
    rw [chainFrom]
    refine ih (values := values.tail) ?_ (fun i v b hv hb => ?_) ?_
    · rw [List.getElem?_tail]
      exact turn 0 v b start rfl
    · rw [List.getElem?_tail] at hv ⊢
      exact turn (i + 1) v b hv hb
    · rwa [List.getElem?_tail]

/-! ### Keystreams (R118, R120) -/

theorem nextRoundKey_length_of_le (rcon : Byte) (h : 16 ≤ key.length) : (nextRoundKey rcon key).length = 16 := by
  simp [nextRoundKey, xorBytes, slice]
  omega

/-- R112: only the first 16 bytes of a key count, so a longer one too makes a block of a block. -/
theorem transform_length_of_le (h : 16 ≤ key.length) (block : List Byte) : (transform key block).length = 16 :=
  transformRounds_length 0x02 _ _ _ (nextRoundKey_length_of_le 0x01 h)

/-- The transforms of blocks 0 to `count - 1`, one after another. -/
theorem stream_length (h : 16 ≤ key.length) (count : Nat) (block : Nat → List Byte) :
    ((List.range count).flatMap fun j => transform key (block j)).length = count * 16 := by
  simp [List.length_flatMap, transform_length_of_le h]

@[simp] theorem xorBytes_length (a b : List Byte) : (xorBytes a b).length = min a.length b.length :=
  List.length_zipWith

/-- Bytes combined twice with a stream that covers them come back. -/
theorem xorBytes_xorBytes {a stream : List Byte} (covers : a.length ≤ stream.length) :
    xorBytes (xorBytes a stream) stream = a := by
  induction a generalizing stream with
  | nil => simp [xorBytes]
  | cons x a ih =>
    cases stream with
    | nil => simp at covers
    | cons y stream =>
      have rest := ih (Nat.le_of_succ_le_succ covers)
      simp only [xorBytes, List.zipWith_cons_cons] at rest ⊢
      rw [rest, BitVec.xor_assoc, BitVec.xor_self, BitVec.xor_zero]

/-- R120: 88 bytes are unsealed by the first 88 of the 96 keystream bytes. -/
theorem unsealBody_eq (key : List Byte) {bytes : List Byte} (size : bytes.length = 88)
    (lane sequence counter : Nat) : unsealBody key bytes lane sequence counter = xorBytes bytes
      ((List.range 6).flatMap fun j => transform key (laneStreamBlock lane sequence counter j)) := by
  rw [unsealBody, List.take_of_length_le (by simp [size])]

/-! ### The plaintext (R117) -/

theorem padTo_cons (n : Nat) (b : Byte) (l : List Byte) : padTo (n + 1) (b :: l) = b :: padTo n l := by
  simp only [padTo, zeros, List.cons_append, List.take_succ_cons, List.replicate_succ', ← List.append_assoc]
  rw [List.take_append_of_le_length (l₂ := [0]) (by simp)]

theorem slice_succ {body : List Byte} {start : Nat} (inside : start < body.length) (count : Nat) :
    slice body start (count + 1) = body.getD start 0 :: slice body (start + 1) count := by
  rw [slice, List.drop_eq_getElem_cons inside, List.take_succ_cons, List.getD_eq_getElem _ _ inside, slice]

theorem zeros_getD (n i : Nat) : (zeros n).getD i 0 = 0 := by
  simp only [zeros, List.getD_eq_getElem?_getD, List.getElem?_replicate]
  split <;> rfl

/-- Bytes beyond the end read as 0, whether a field was filled up to them or not. -/
theorem append_zeros_getD (l : List Byte) (n i : Nat) : (l ++ zeros n).getD i 0 = l.getD i 0 := by
  obtain inside | beyond := Nat.lt_or_ge i l.length
  · exact List.getD_append _ _ _ _ inside
  · rw [List.getD_append_right _ _ _ _ beyond, zeros_getD, List.getD_eq_default _ _ beyond]

theorem take_getD (l : List Byte) (n i : Nat) : (l.take n).getD i 0 = if i < n then l.getD i 0 else 0 := by
  simp only [List.getD_eq_getElem?_getD, List.getElem?_take]
  split <;> rfl

theorem padTo_slice_getD (body : List Byte) (n start count i : Nat) :
    (padTo n (slice body start count)).getD i 0 = if i < n ∧ i < count then body.getD (start + i) 0 else 0 := by
  have place : (body.drop start).getD i 0 = body.getD (start + i) 0 := by
    simp only [List.getD_eq_getElem?_getD, List.getElem?_drop]
  rw [padTo, take_getD, append_zeros_getD, slice, take_getD, place, ite_and]

/-- R117: card number, expiry with service code, and remainder; the first and the last with their length before them. -/
theorem envelopePlaintext_eq {body : List Byte} (size : body.length = 88) : envelopePlaintext body =
    padTo 20 (slice body 0 ((body.getD 0 0).toNat + 1)) ++ (padTo 7 (slice body 20 7) ++
      (padTo 48 (slice body 40 ((body.getD 40 0).toNat + 1)) ++ zeros 5)) := by
  have middle : padTo 7 (slice body 20 7) = slice body 20 4 ++ slice body 24 3 := by
    rw [padTo_of_length (by simp [slice, size]), slice, List.take_add (i := 4) (j := 3), List.drop_drop]
    rfl
  rw [middle, slice_succ (start := 0) (by omega), slice_succ (start := 40) (by omega), padTo_cons, padTo_cons]
  simp [envelopePlaintext, bodyByte, cardLength, remainderLength]

theorem envelopePlaintext_length {body : List Byte} (size : body.length = 88) :
    (envelopePlaintext body).length = 80 := by
  simp [envelopePlaintext_eq size, padTo_length, zeros]

/-- R117, R44: each byte of the plaintext, by the field in which it stands. -/
theorem envelopePlaintext_getD {body : List Byte} {i : Nat} (size : body.length = 88) (n : (body.getD 0 0).toNat ≤ 19)
    (r : (body.getD 40 0).toNat ≤ 47) : (envelopePlaintext body).getD i 0 =
      if i < (body.getD 0 0).toNat + 1 then body.getD i 0 else if i < 20 then 0 else if i < 27 then body.getD i 0
      else if i < 28 + (body.getD 40 0).toNat then body.getD (i + 13) 0 else 0 := by
  rw [envelopePlaintext_eq size]
  obtain card | past := Nat.lt_or_ge i 20
  · rw [List.getD_append _ _ _ _ (by rwa [padTo_length]), padTo_slice_getD, Nat.zero_add]
    simp only [card, true_and, if_true]
  rw [List.getD_append_right _ _ _ _ (by rwa [padTo_length]), padTo_length, if_neg (by omega), if_neg (by omega)]
  obtain expiry | past := Nat.lt_or_ge i 27
  · rw [List.getD_append _ _ _ _ (by rw [padTo_length]; omega), padTo_slice_getD, if_pos (by omega), if_pos expiry]
    congr 1
    omega
  rw [List.getD_append_right _ _ _ _ (by rw [padTo_length]; omega), padTo_length, if_neg (by omega)]
  obtain remainder | past := Nat.lt_or_ge i 75
  · rw [List.getD_append _ _ _ _ (by rw [padTo_length]; omega), padTo_slice_getD,
      show 40 + (i - 20 - 7) = i + 13 by omega]
    exact if_congr (by omega) rfl rfl
  · rw [List.getD_append_right _ _ _ _ (by rw [padTo_length]; omega), zeros_getD, if_neg (by omega)]

/-! ### The blocks (R55) -/

/-- A layout filled up to a block of 16 bytes shows its fields, and zeros where they end. -/
theorem block_shows {block : List Byte} {layout : List (Nat × Nat)} (written : block = padTo 16 (encode layout))
    (fits : width layout ≤ 16) :
    block.length = 16 ∧ Shows block (placed 0 (layout ++ [(16 - width layout, 0)])) := by
  subst written
  refine ⟨padTo_length _ _, ?_⟩
  rw [padTo_encode fits]
  exact shows_encode (List.Subset.refl _)

theorem acquirerBlock_eq (purpose keyId counter store : Nat) : acquirerBlock purpose keyId counter store =
    padTo 16 (encode [(1, purpose), (1, keyId), (3, counter), (4, store)]) := by
  simp [acquirerBlock, leBytes_one]

theorem laneBlock_eq (purpose lane counter keyId : Nat) : laneBlock purpose lane counter keyId =
    padTo 16 (encode [(1, purpose), (1, lane), (3, counter), (1, keyId), (3, 0), (1, counter / 256 ^ 3)]) := by
  simp [laneBlock, leBytes_one, leBytes_zero]

theorem envelopeStreamBlock_eq (lane sequence keyId counter j : Nat) :
    envelopeStreamBlock lane sequence keyId counter j =
      padTo 16 (encode [(1, lane), (4, sequence), (1, keyId), (3, counter), (1, j)]) := by
  simp [envelopeStreamBlock, leBytes_one]

theorem laneStreamBlock_eq (lane sequence counter j : Nat) : laneStreamBlock lane sequence counter j =
    padTo 16 (encode [(1, lane), (4, sequence), (4, counter), (1, j)]) := by
  simp [laneStreamBlock, leBytes_one]

theorem envelopeTagB1_eq (lane sequence keyId counter batch currency : Nat) :
    envelopeTagB1 lane sequence keyId counter batch currency =
      padTo 16 (encode [(1, lane), (4, sequence), (1, keyId), (3, counter), (4, batch), (2, currency)]) := by
  simp [envelopeTagB1, leBytes_one]

theorem envelopeTagB2_eq (body : List Byte) : envelopeTagB2 (bodyAmount body) (bodyRefund body) =
    padTo 16 (encode [(5, leNat (slice body 32 5)), (1, (body.getD 27 0).toNat % 2)]) := by
  simp [envelopeTagB2, leBytes_one, bodyRefund_bit, bodyAmount, bodyNat]

theorem laneTagB1_eq (kind lane cls sequence time counter : Nat) : laneTagB1 kind lane cls sequence time counter =
    padTo 16 (encode [(1, kind), (1, lane), (1, cls), (4, sequence), (4, time), (4, counter)]) := by
  simp [laneTagB1, leBytes_one]

/-- R119: the envelope tag over its two blocks and the five of the ciphertext. -/
theorem envelopeTag_eq (tagKey body : List Byte) {cipher : List Byte} (size : cipher.length = 80)
    (lane sequence keyId counter batch : Nat) : envelopeTag tagKey body cipher lane sequence keyId counter batch =
      chainedTag tagKey ([envelopeTagB1 lane sequence keyId counter batch (leNat (slice body 28 2)),
        envelopeTagB2 (bodyAmount body) (bodyRefund body)] ++ (List.range 5).map fun i => slice cipher (16 * i) 16) := by
  rw [envelopeTag, chunksOf_eq_slices (by decide) 5 size]
  rfl

/-- R121: the lane tag over its block and the sealed bytes filled up to six. -/
theorem laneTag_eq (tagKey : List Byte) {bytes : List Byte} (size : bytes.length = 88)
    (kind lane cls sequence time counter : Nat) : laneTag tagKey bytes kind lane cls sequence time counter =
      chainedTag tagKey ([laneTagB1 kind lane cls sequence time counter] ++
        (List.range 6).map fun i => slice (bytes ++ List.replicate 8 0) (16 * i) 16) := by
  rw [laneTag, chunksOf_eq_slices (by decide) 6 (padTo_length _ _), padTo_of_le (by omega), size]
  rfl

theorem answerNonce_eq (key nonce : List Byte) (lane : Nat) (serial : BitVec 32) : answerNonce key lane nonce serial =
    (transform key (padTo 16 (encode [(1, lane), (8, leNat nonce), (4, serial.toNat)]))).take 8 := by
  simp [answerNonce, leBytes_one, leBytes_leNat]

/-- Settles O47: the chain, the keystreams and the plaintext by the lemmas above, and every block as a layout. -/
theorem envelopesOpenAndTagsChain : Obligations.EnvelopesOpenAndTagsChain := by
  refine ⟨fun key blocks values _ start turn last ends => ?_,
    fun envKey body lane sequence keyId counter long size => ?_,
    fun unsealKey bytes lane sequence counter long size => ?_,
    fun body plaintext n r size nIs digitsFit rIs restFits plaintextIs => ?_,
    fun shows showsIff => ?_⟩
  · exact congrArg (List.take 8) (chainFrom_eq_last start turn ends)
  · have plain := envelopePlaintext_length size
    have stream := stream_length long 5 (envelopeStreamBlock lane sequence keyId counter)
    exact ⟨by rw [envelopeCipher, xorBytes_length, plain, stream]; rfl, xorBytes_xorBytes (by omega)⟩
  · have stream := stream_length long 6 (laneStreamBlock lane sequence counter)
    have unsealed := unsealBody_eq unsealKey size lane sequence counter
    have same : (unsealBody unsealKey bytes lane sequence counter).length = 88 := by
      rw [unsealed, xorBytes_length, size, stream]
      rfl
    exact ⟨unsealed, by rw [unsealBody_eq unsealKey same, unsealed, xorBytes_xorBytes (by omega)]⟩
  · subst plaintextIs nIs rIs
    exact ⟨envelopePlaintext_length size, fun i _ => envelopePlaintext_getD size digitsFit restFits⟩
  · simp only [showsIff]
    refine ⟨fun key keyId counter store => ⟨fun purpose => block_shows (acquirerBlock_eq ..) (by simp), rfl⟩,
      fun key lane counter keyId => ⟨fun purpose => block_shows (laneBlock_eq ..) (by simp), rfl⟩,
      fun lane sequence keyId counter j =>
        ⟨block_shows (envelopeStreamBlock_eq ..) (by simp), block_shows (laneStreamBlock_eq ..) (by simp)⟩,
      fun tagKey body cipher lane sequence keyId counter batch _ size =>
        ⟨_, _, block_shows (envelopeTagB1_eq ..) (by simp), block_shows (envelopeTagB2_eq body) (by simp),
          envelopeTag_eq tagKey body size lane sequence keyId counter batch⟩,
      fun tagKey bytes kind lane cls sequence time counter size =>
        ⟨_, block_shows (laneTagB1_eq ..) (by simp), laneTag_eq tagKey size kind lane cls sequence time counter⟩,
      fun key nonce lane serial _ => ⟨_, block_shows rfl (by simp), answerNonce_eq key nonce lane serial⟩⟩

end Sys2Proof.Proofs
end

section
/-! SUPPORT. Everything that the part can do to its key stores and to the counter of the key in use (R130 to R146): one
list of cases for the key unit and the store. Every move but a reset and start-up is a sequence of them. -/

namespace Sys2Proof.Proofs

open Sys2Proof Sys2Proof.Machine Sys2Proof.Laws

variable {s t u : State} {fs : List Field}

/-! ### One change -/

/-- R133, R135, R139, R140: what the key unit makes of its own working state. -/
inductive UnitChange (k : KeyUnit) : KeyUnit → Prop where
  | flags (counterStore waiting : Bool) : UnitChange k { k with counterStore := counterStore, waiting := waiting }
  | handOut (active : k.store.current.state = .active) (below : k.currentC < k.store.currentMark) :
      UnitChange k (handOutKey k)
  | promotion (staged : k.store.next.state = .loaded) : UnitChange k (promoteKey k)
  | load {slot id : Nat} {key check : List Byte} (judged : judgeLoad k.store slot id key check = .ok) :
      UnitChange k (loadSlot slot id key check k)

/-- R135: the reservation that a store write carries, where it is a reservation write. -/
def reservationOf : StoreWrite → Option Reservation
  | .keyStore _ r _ => r
  | _ => none

/-- R130, R136, R145: one change of the key unit or of the store: the unit changes alone, it is erased, a store write
begins, or the write in progress ends. -/
inductive KeyEvent (s t : State) : Prop where
  | unit (change : UnitChange s.keys t.keys) (stored : t.nv.keys = s.nv.keys) (writing : t.nv.writing = s.nv.writing)
  | erased (keys : t.keys = KeyUnit.reset) (stored : t.nv.keys = s.nv.keys)
      (writing : t.nv.writing = (voidReservations s.nv).writing)
  | begun (running : s.phase = .running) (free : s.nv.writing = none) (q : StoreRequest) (keys : t.keys = s.keys)
      (stored : t.nv.keys = s.nv.keys) (writing : t.nv.writing = some (beginWrite s.keys.store q))
  | ended {w : StoreWrite} (completed : Bool) (before : s.nv.writing = some w)
      (store : t.keys.store = (endKeyWrite completed (reservationOf w) s.keys).store)
      (counter : t.keys.currentC = s.keys.currentC) (stored : t.nv.keys = (endWriting w completed s.nv).keys)
      (writing : t.nv.writing = none)

/-- Changes of the key unit and the store one after another, in one phase of the part. -/
def KeyEvents : State → State → Prop := Relation.ReflTransGen fun s t => t.phase = s.phase ∧ KeyEvent s t

namespace KeyEvents

theorem refl : KeyEvents s s := Relation.ReflTransGen.refl

theorem trans (h : KeyEvents s t) (k : KeyEvents t u) : KeyEvents s u := Relation.ReflTransGen.trans h k

theorem single (phase : t.phase = s.phase) (event : KeyEvent s t) : KeyEvents s t :=
  Relation.ReflTransGen.single ⟨phase, event⟩

theorem of_touches (h : Touches fs s t) (phase : .phase ∉ fs := by decide) (keys : .keys ∉ fs := by decide)
    (nv : .nv ∉ fs := by decide) : KeyEvents s t := by
  refine single (h.phase phase) (.unit ?_ (by rw [h.nv nv]) (by rw [h.nv nv]))
  rw [h.keys keys]
  exact .flags _ _

theorem andTouches (h : KeyEvents s t) (k : Touches fs t u) (phase : .phase ∉ fs := by decide)
    (keys : .keys ∉ fs := by decide) (nv : .nv ∉ fs := by decide) : KeyEvents s u :=
  h.trans (of_touches k phase keys nv)

theorem ite {p : Prop} [Decidable p] (h : KeyEvents s t) (k : KeyEvents s u) : KeyEvents s (if p then t else u) := by
  split <;> assumption

/-- The key unit changes by itself, and no channel or other block has a part in it. -/
theorem onKeys {f : KeyUnit → KeyUnit} (change : UnitChange s.keys (f s.keys)) :
    KeyEvents s (Machine.onKeys f s) := single rfl (.unit change rfl rfl)

theorem keyChange {f : KeyUnit → KeyUnit} (change : UnitChange s.keys (f s.keys)) :
    KeyEvents s (Machine.keyChange f s) := by
  rw [keyChange_eq]
  exact single rfl (.unit change rfl rfl)

/-- R130: a request waits, and changes no key store. -/
theorem request (r : StoreRequest) (s : State) : KeyEvents s (requestWrite r s) :=
  single rfl (.unit (.flags _ _) rfl rfl)

end KeyEvents

/-! ### The stages and the wait (R101, R102, R135, R136) -/

theorem active_of_noKeyFlag {k : KeyStore} (held : ¬noKeyFlag k = true) : k.current.state = .active := by
  by_contra idle
  exact held (noKeyFlag_iff.mpr (.inr idle))

theorem handOutToRecord_keyEvents (active : s.keys.store.current.state = .active)
    (below : s.keys.currentC < s.keys.store.currentMark) : KeyEvents s (handOutToRecord s) := by
  have changed : KeyEvents s (keyChange handOutKey s) := .keyChange (.handOut active below)
  exact (KeyEvents.ite (changed.trans (.request _ _)) changed).andTouches (onWork_touches _ _)

theorem waitForReservation_keyEvents (s : State) : KeyEvents s (waitForReservation s) := by
  have waits : KeyEvents s (passTo .reservation (onKeys (fun k => { k with waiting := true }) s)) :=
    (KeyEvents.onKeys (.flags _ _)).andTouches (passTo_touches _ _)
  exact .ite waits (waits.trans (.request _ _))

theorem keyStage_keyEvents (h : Hold) (s : State) : KeyEvents s (keyStage h s) := by
  unfold keyStage
  split
  · exact .of_touches (decideHeaderOnly_touches s h _ _)
  · next held =>
    split
    · next below => exact handOutToRecord_keyEvents (active_of_noKeyFlag held) below
    · exact waitForReservation_keyEvents s

theorem runStage_keyEvents (h : Hold) (w : Work) (s : State) : KeyEvents s (runStage h w s) := by
  unfold runStage
  split
  · exact .of_touches (judgeStage_touches s h _)
  · exact .of_touches (resultStage_touches s h w)
  · exact .of_touches (laneKeyStage_touches s h _)
  · exact .of_touches (unsealStage_touches s h _ _)
  · exact .of_touches (bodyStage_touches s h _)
  · exact keyStage_keyEvents h s
  · exact .of_touches (computeStage_touches s h _ _)
  · exact .of_touches (totalsStage_touches s h _ _)
  · exact .of_touches (concludeStage_touches s h _ _ _)
  · exact .refl

theorem stageStep_keyEvents (s : State) : KeyEvents s (stageStep s) := by
  unfold stageStep
  split
  · split
    · exact runStage_keyEvents _ _ s
    · exact .refl
  · exact .refl

theorem endWaiting_keyEvents (r : Reason) (h : Hold) (s : State) : KeyEvents s (endWaiting r h s) :=
  (KeyEvents.onKeys (.flags _ _)).andTouches (decideHeaderOnly_touches _ _ _ _)

theorem judgeWaiting_keyEvents (completed : Bool) (s : State) : KeyEvents s (judgeWaiting completed s) := by
  unfold judgeWaiting
  split
  · exact .refl
  · split
    · exact .refl
    · split
      · exact endWaiting_keyEvents _ _ s
      · next held =>
        split
        · exact endWaiting_keyEvents _ _ s
        · split
          · next below => exact handOutToRecord_keyEvents (active_of_noKeyFlag held) below
          · exact .request _ s

/-! ### Store writes (R130, R131, R136) -/

theorem beginNextWrite_keyEvents (running : s.phase = .running) : KeyEvents s (beginNextWrite s) := by
  unfold beginNextWrite
  split
  · next free _ => exact .single rfl (.begun running free _ rfl rfl rfl)
  · exact .refl

theorem endKeyWrite_currentC (completed : Bool) (r : Option Reservation) (k : KeyUnit) :
    (endKeyWrite completed r k).currentC = k.currentC := by
  unfold endKeyWrite raiseMark
  split
  · split
    · split <;> rfl
    · rfl
  · rfl

@[simp] theorem endKeyWrite_none_store (completed : Bool) (k : KeyUnit) :
    (endKeyWrite completed none k).store = k.store := by
  cases completed <;> rfl

/-- A key store write, or the erase write, that ends in the store and in the key unit, and then for who waits. -/
theorem keyWriteEnded_keyEvents {w : StoreWrite} (before : s.nv.writing = some w) (forPort completed : Bool) :
    KeyEvents s (keyWriteEnded (reservationOf w) forPort completed (onNv (endWriting w completed) s)) := by
  have changed : KeyEvents s
      (keyChange (endKeyWrite completed (reservationOf w)) (onNv (endWriting w completed) s)) := by
    rw [keyChange_eq]
    exact .single rfl (.ended completed before rfl (endKeyWrite_currentC ..) rfl rfl)
  have told := KeyEvents.ite (p := forPort = true) (changed.andTouches (portOutcome_touches _ completed)) changed
  exact .ite (told.trans (judgeWaiting_keyEvents _ _)) told

/-- A write that is none of the key unit's ends in the store alone. -/
theorem endWriting_keyEvents {w : StoreWrite} (before : s.nv.writing = some w) (other : reservationOf w = none)
    (completed : Bool) : KeyEvents s (onNv (endWriting w completed) s) :=
  .single rfl (.ended completed before (by simp [other]) rfl rfl rfl)

theorem endStoreWrite_keyEvents (completed : Bool) (s : State) : KeyEvents s (endStoreWrite completed s) := by
  unfold endStoreWrite
  split
  · next w before =>
    cases w with
    | keyStore content r forPort => exact keyWriteEnded_keyEvents before forPort completed
    | batchNumber number => exact (endWriting_keyEvents before rfl completed).andTouches (numberWritten_touches _ _)
    | imageGroup group words => exact (endWriting_keyEvents before rfl completed).andTouches (portOutcome_touches _ _)
    | imageLock => exact (endWriting_keyEvents before rfl completed).andTouches (portOutcome_touches _ _)
    | erase => exact keyWriteEnded_keyEvents before true completed
  · exact .refl

/-! ### Frames (R133, R145) -/

theorem loadKeyFrame_keyEvents (clocked : List Byte) (s : State) : KeyEvents s (loadKeyFrame clocked s) := by
  unfold loadKeyFrame
  dsimp only
  split
  · next judged =>
    exact (((KeyEvents.of_touches (answerFrame_touches s _ _)).trans (.keyChange (.load judged))).trans
      (.request _ _)).andTouches (holdOutstanding_touches _)
  · exact .of_touches (answerFrame_touches s _ _)

theorem eraseStep_keyEvents (s : State) : KeyEvents s (eraseStep s) := by
  have erased : KeyEvents s (oweStore (onKeys eraseKeys (onNv voidReservations s))) :=
    .single rfl (.erased rfl rfl rfl)
  unfold eraseStep
  dsimp only
  split
  · exact erased.trans (endWaiting_keyEvents _ _ _)
  · exact erased

theorem eraseFrame_keyEvents (clocked : List Byte) (s : State) : KeyEvents s (eraseFrame clocked s) :=
  (((KeyEvents.of_touches (answerFrame_touches s _ _)).trans (eraseStep_keyEvents _)).trans
    (.request _ _)).andTouches (holdOutstanding_touches _)

theorem takeFrame_keyEvents (bytes : List Byte) (s : State) : KeyEvents s (takeFrame bytes s) := by
  have answered (n : Nat) (a : List Byte) : KeyEvents s (answerFrame n a s) := .of_touches (answerFrame_touches s n a)
  have requested (a : List Byte) (n : Nat) (r : StoreRequest) :
      KeyEvents s (holdOutstanding (requestWrite r (answerFrame n a s))) :=
    ((answered n a).trans (.request r _)).andTouches (holdOutstanding_touches _)
  have judged (wanted : Nat) (length : Byte) (clocked : List Byte) {act : State → State} (acts : KeyEvents s (act s)) :
      KeyEvents s (judgedFrame wanted length clocked act s) := by
    unfold judgedFrame
    split
    · exact answered _ _
    · exact acts
  unfold takeFrame
  refine .ite .refl (.ite ?_ (.of_touches (onPort_touches s _)))
  unfold actOnFrame
  split
  · next command length clocked =>
    unfold actOnCommand
    refine .ite (answered _ _) ?_
    split
    · exact judged _ _ _ (answered _ _)
    · exact judged _ _ _ (loadKeyFrame_keyEvents clocked s)
    · exact .ite (requested _ _ _) (answered _ _)
    · exact judged _ _ _ (.ite (answered _ _) (requested _ _ _))
    · exact judged _ _ _ (eraseFrame_keyEvents clocked s)
    · exact answered _ _
  · exact answered _ _

/-! ### Directives and the sweep (R131, R140) -/

theorem startClose_keyEvents (roll : Bool) (s : State) : KeyEvents s (startClose roll s) := by
  have rolled : KeyEvents s (rollStep roll s) := by
    unfold rollStep
    split
    · next staged =>
      obtain ⟨-, staged⟩ : roll = true ∧ s.keys.store.next.state = .loaded := by simpa using staged
      exact (KeyEvents.keyChange (.promotion staged)).trans (.request _ _)
    · exact .refl
  exact (rolled.andTouches (onTotals_touches _ _)).trans (.request _ _)

theorem runDirective_keyEvents (code : DirectiveCode) (s : State) : KeyEvents s (runDirective code s) := by
  have taken (r : Option DirectiveResult) : KeyEvents s (takeDirective r s) := .of_touches (takeDirective_touches s r)
  have onTheLane (lane : Nat) {f : State → State} (effect : ∀ s, Touches [.lanes, .report] s (f s)) :
      KeyEvents s (laneDirective lane f s) := .of_touches (laneDirective_touches s lane f effect)
  cases code with
  | incomplete => exact taken _
  | unknown => exact taken _
  | statusNow => exact (taken _).andTouches (onReport_touches _ _)
  | laneSuspend => exact onTheLane _ fun s => (onLane_touches s _ _).mono (by decide)
  | laneResume => exact onTheLane _ fun s => (onLane_touches s _ _).mono (by decide)
  | laneForget => exact onTheLane _ fun s => forgetOn_touches s _
  | batchClose => exact (taken _).trans (startClose_keyEvents _ _)

theorem sweepStep_keyEvents (s : State) : KeyEvents s (sweepStep s) := by
  have swept : KeyEvents s (onReport (fun r => r.map sweepOn)
      (onLanes (fun t => { t with entries := t.entries.map (sweepLane s.settings.silenceThreshold) })
        (onIntake (fun i => { i with windows := i.windows.map gapSweep })
          { s with sweepCount := s.sweepCount + 1 }))) := .single rfl (.unit (.flags _ _) rfl rfl)
  exact swept.trans (.ite (.ite (.request _ _) (.request _ _)) .refl)

/-! ### The moves -/

/-- What begins the key unit again, or changes the phase: a reset, the release of the reset input, start-up. -/
inductive Restart (s : State) : State → Prop where
  | reset {ph : Phase} (cause : ResetCause) (closed : ph ≠ .running) : Restart s (resetPart ph cause s)
  | release (held : s.phase = .held) : Restart s { s with phase := .starting }
  | start (starting : s.phase = .starting) : Restart s (startBlocks s)

/-- Every other move is a sequence of changes of the key unit and the store. -/
theorem Move.keyEvents {c : Instr} (move : Move c fs s t) : KeyEvents s t ∨ Restart s t := by
  have kept := move.touches
  cases move with
  | directive => exact .inl (runDirective_keyEvents _ s)
  | beginWrite running => exact .inl (beginNextWrite_keyEvents running)
  | stage => exact .inl (stageStep_keyEvents s)
  | sweep => exact .inl (sweepStep_keyEvents s)
  | frame bytes => exact .inl (takeFrame_keyEvents bytes s)
  | storeEnd => exact .inl (endStoreWrite_keyEvents _ s)
  | reset _ closed => exact .inr (.reset _ closed)
  | release _ held => exact .inr (.release held)
  | start _ starting => exact .inr (.start starting)
  | startWrite => exact .inl (.request _ s)
  | _ => exact .inl (.of_touches kept)

/-- An invariant of the key stores: what each change keeps, and a reset, its release and start-up, every step keeps. -/
theorem step_keeps_keys {inv : State → Prop} (changes : ∀ s t, t.phase = s.phase → KeyEvent s t → inv s → inv t)
    (restarts : ∀ s t, Restart s t → inv s → inv t) (taken : ∀ s rest, inv s → inv { s with pending := rest })
    (run : step s = .next t) (start : inv s) : inv t := by
  refine step_keeps (fun c fs s t move sound => ?_) taken run start
  obtain events | restart := move.keyEvents
  · clear move
    induction events with
    | refl => exact sound
    | tail _ last ih => exact changes _ _ last.1 last.2 ih
  · exact restarts s t restart sound

end Sys2Proof.Proofs
end

section
/-! SUPPORT. The acquirer slots stay legal (R129, R134, R142), and what is stored of the key in use covers the working
mark and C (R130, R135 to R137), change by change of the key unit and the store. -/

namespace Sys2Proof.Proofs

open Sys2Proof Sys2Proof.Machine Sys2Proof.Laws

variable {s t : State} {k k' : KeyUnit} {c d : KeyStore} {w : StoreWrite}

/-! ### The key stores of the part -/

/-- The write in progress carries this key store. -/
def CarriesKeys (writing : Option StoreWrite) (c : KeyStore) : Prop :=
  ∃ r forPort, writing = some (.keyStore c r forPort)

theorem mem_keyStores : c ∈ keyStores s ↔ c = s.keys.store ∨ c = s.nv.keys ∨ CarriesKeys s.nv.writing c := by
  unfold keyStores CarriesKeys
  cases s.nv.writing with
  | none => simp
  | some w => cases w <;> simp [eq_comm]

theorem working_mem (s : State) : s.keys.store ∈ keyStores s := mem_keyStores.mpr (.inl rfl)

theorem stored_mem (s : State) : s.nv.keys ∈ keyStores s := mem_keyStores.mpr (.inr (.inl rfl))

theorem carried_mem (carried : CarriesKeys s.nv.writing c) : c ∈ keyStores s := mem_keyStores.mpr (.inr (.inr carried))

/-- R145: the writes that an ERASE finds in progress carry what they carried. -/
theorem voidReservations_carries {n : NvStore} :
    CarriesKeys (voidReservations n).writing c ↔ CarriesKeys n.writing c := by
  unfold voidReservations CarriesKeys
  cases n.writing with
  | none => simp
  | some w => cases w <;> simp

theorem beginWrite_carries {q : StoreRequest} (carried : CarriesKeys (some (beginWrite d q)) c) :
    ∃ r, c = keyWriteContent d r := by
  obtain ⟨r, forPort, is⟩ := carried
  cases q with
  | keyStore r' forPort' =>
    refine ⟨r', ?_⟩
    simp [beginWrite] at is
    exact is.1.symm
  | _ => simp [beginWrite] at is

/-- R130, R190: a write that lands leaves the stored key store, brings the one it carries, or empties it. -/
theorem writeLands_keys (w : StoreWrite) (n : NvStore) : (writeLands w n).keys = n.keys ∨
    CarriesKeys (some w) (writeLands w n).keys ∨ (writeLands w n).keys = KeyStore.empty := by
  cases w with
  | keyStore content r forPort => exact .inr (.inl ⟨r, forPort, rfl⟩)
  | erase => exact .inr (.inr rfl)
  | _ => exact .inl rfl

theorem endWriting_keys (w : StoreWrite) (completed : Bool) (n : NvStore) : (endWriting w completed n).keys = n.keys ∨
    CarriesKeys (some w) (endWriting w completed n).keys ∨ (endWriting w completed n).keys = KeyStore.empty := by
  cases completed with
  | true => exact writeLands_keys w n
  | false => exact .inl rfl

theorem resetNv_keys (lands : Bool) (n : NvStore) : (resetNv lands n).keys = n.keys ∨
    CarriesKeys n.writing (resetNv lands n).keys ∨ (resetNv lands n).keys = KeyStore.empty := by
  obtain same | ⟨w, writing, landed⟩ := resetNv_eq lands n
  · exact .inl (by rw [same])
  · rw [landed, writing]
    exact writeLands_keys w n

theorem resetNv_writing (lands : Bool) (n : NvStore) : (resetNv lands n).writing = none := by
  obtain same | ⟨w, -, landed⟩ := resetNv_eq lands n
  · rw [same]
  · rw [landed]

/-- What a change leaves stored or under way was a key store of the part before, or is EMPTY, or is the content that a
write has just copied. -/
theorem KeyEvent.others (event : KeyEvent s t) (other : c = t.nv.keys ∨ CarriesKeys t.nv.writing c) :
    c ∈ keyStores s ∨ c = KeyStore.empty ∨ ∃ r, c = keyWriteContent s.keys.store r := by
  cases event with
  | unit change stored writing =>
    rw [stored, writing] at other
    exact .inl (mem_keyStores.mpr (.inr other))
  | erased keys stored writing =>
    rw [stored, writing, voidReservations_carries] at other
    exact .inl (mem_keyStores.mpr (.inr other))
  | begun running free q keys stored writing =>
    rw [stored, writing] at other
    exact other.elim (fun is => .inl (is ▸ stored_mem s)) fun carried => .inr (.inr (beginWrite_carries carried))
  | ended completed before store counter stored writing =>
    obtain rfl | ⟨_, _, carried⟩ := other
    · obtain same | carried | empty := endWriting_keys _ completed s.nv
      · exact .inl (by rw [stored, same]; exact stored_mem s)
      · exact .inl (by rw [stored]; exact carried_mem (before ▸ carried))
      · exact .inr (.inl (stored.trans empty))
    · rw [writing] at carried
      cases carried

/-- What a reset leaves stored was a key store of the part before, or is EMPTY; no write is in progress then. -/
theorem resetPart_others (ph : Phase) (cause : ResetCause)
    (other : c = (resetPart ph cause s).nv.keys ∨ CarriesKeys (resetPart ph cause s).nv.writing c) :
    c ∈ keyStores s ∨ c = KeyStore.empty := by
  obtain rfl | ⟨_, _, carried⟩ := other
  · obtain same | carried | empty := resetNv_keys (Config.cutWriteLands s.freeCount) s.nv
    · exact .inl (mem_keyStores.mpr (.inr (.inl same)))
    · exact .inl (carried_mem carried)
    · exact .inr empty
  · have none := resetNv_writing (Config.cutWriteLands s.freeCount) s.nv
    have carried : (resetNv (Config.cutWriteLands s.freeCount) s.nv).writing = _ := carried
    rw [none] at carried
    cases carried

/-! ### Legal acquirer slots (R129, R134, R142) -/

theorem empty_legal : AcquirerLegal KeyStore.empty := by
  constructor <;> simp [KeyStore.empty, KeySlot.empty]

/-- R137: a raised mark leaves the slots as they are. -/
theorem acquirerLegal_mark (legal : AcquirerLegal c) (m : Nat) : AcquirerLegal { c with currentMark := m } :=
  ⟨legal.current, legal.next, legal.staged, legal.inUse⟩

theorem keyWriteContent_legal (legal : AcquirerLegal c) (r : Option Reservation) :
    AcquirerLegal (keyWriteContent c r) := by
  unfold keyWriteContent
  split
  · split
    · exact acquirerLegal_mark legal _
    · exact legal
  · exact legal

theorem endKeyWrite_legal (legal : AcquirerLegal k.store) (completed : Bool) (r : Option Reservation) :
    AcquirerLegal (endKeyWrite completed r k).store := by
  unfold endKeyWrite raiseMark
  split
  · split
    · split
      · exact acquirerLegal_mark legal _
      · exact legal
    · exact legal
  · exact legal

/-- R139: the promoted key is ACTIVE under the highest id ever active, and none is staged. -/
theorem promoteKey_legal (k : KeyUnit) : AcquirerLegal (promoteKey k).store := by
  constructor <;> simp [promoteKey, KeySlot.empty]

/-- R139: an ACTIVE key that is exhausted. -/
theorem exhaustKey_legal (legal : AcquirerLegal k.store) (active : k.store.current.state = .active) :
    AcquirerLegal (exhaustKey k).store := by
  unfold exhaustKey
  dsimp only
  split
  · exact promoteKey_legal _
  · exact ⟨by simp, legal.next, legal.staged, fun _ => legal.inUse (by simp [active])⟩

theorem handOutKey_legal (legal : AcquirerLegal k.store) (active : k.store.current.state = .active) :
    AcquirerLegal (handOutKey k).store := by
  unfold handOutKey
  split
  · exact exhaustKey_legal (k := { k with waiting := false }) legal active
  · exact legal

/-- R132: what a load answered OK has passed. -/
theorem judgeLoad_ok {slot id : Nat} {key check : List Byte} (judged : judgeLoad c slot id key check = .ok) :
    (slot ≤ 1 → c.highestId < id) ∧ (slot = 0 → c.next.state = .loaded → id < c.next.id) := by
  unfold judgeLoad at judged
  split_ifs at judged with _ _ _ old late
  exact ⟨fun low => by_contra fun under => old ⟨low, by omega⟩,
    fun first loaded => by_contra fun notBelow => late ⟨first, loaded, by omega⟩⟩

/-- R132 to R134: a load answered OK. -/
theorem loadSlot_legal {slot id : Nat} {key check : List Byte} (legal : AcquirerLegal k.store)
    (judged : judgeLoad k.store slot id key check = .ok) : AcquirerLegal (loadSlot slot id key check k).store := by
  obtain ⟨above, below⟩ := judgeLoad_ok judged
  unfold loadSlot
  split
  · exact ⟨by simp, legal.next, below rfl, fun _ => le_rfl⟩
  · exact ⟨legal.current, .inr rfl, fun _ => above le_rfl, legal.inUse⟩
  all_goals exact ⟨legal.current, legal.next, legal.staged, legal.inUse⟩

theorem UnitChange.legal (change : UnitChange k k') (legal : AcquirerLegal k.store) : AcquirerLegal k'.store := by
  cases change with
  | flags => exact legal
  | handOut active => exact handOutKey_legal legal active
  | promotion => exact promoteKey_legal k
  | load judged => exact loadSlot_legal legal judged

theorem active_of_exhaustedAtStart (exhausted : exhaustedAtStart c = true) : c.current.state = .active := by
  simp only [exhaustedAtStart, Bool.and_eq_true, beq_iff_eq] at exhausted
  exact exhausted.1

/-- R146: start-up. -/
theorem startKeys_legal (legal : AcquirerLegal c) : AcquirerLegal (startKeys c).store := by
  unfold startKeys
  split
  · next exhausted => exact exhaustKey_legal (k := rebuildKeys c) legal (active_of_exhaustedAtStart exhausted)
  · exact legal

theorem KeyEvent.working_legal (event : KeyEvent s t) (legal : AcquirerLegal s.keys.store) :
    AcquirerLegal t.keys.store := by
  cases event with
  | unit change => exact change.legal legal
  | erased keys => exact keys ▸ empty_legal
  | begun _ _ _ keys => exact keys ▸ legal
  | ended completed _ store => exact store ▸ endKeyWrite_legal legal completed _

theorem KeyEvent.acquirersLegal (event : KeyEvent s t) (legal : AcquirersLegal s) : AcquirersLegal t := fun c mem => by
  obtain rfl | other := mem_keyStores.mp mem
  · exact event.working_legal (legal _ (working_mem s))
  · obtain before | rfl | ⟨r, rfl⟩ := event.others other
    · exact legal c before
    · exact empty_legal
    · exact keyWriteContent_legal (legal _ (working_mem s)) r

theorem Restart.acquirersLegal (restart : Restart s t) (legal : AcquirersLegal s) : AcquirersLegal t := by
  cases restart with
  | reset cause closed =>
    intro c mem
    obtain rfl | other := mem_keyStores.mp mem
    · exact empty_legal
    · obtain before | rfl := resetPart_others _ cause other
      · exact legal c before
      · exact empty_legal
  | release => exact legal
  | start =>
    intro c mem
    obtain rfl | other := mem_keyStores.mp mem
    · exact startKeys_legal (legal _ (stored_mem s))
    · exact legal c (mem_keyStores.mpr (.inr other))

/-- Settles O54: every change of the key unit and the store keeps every key store legal. -/
theorem acquirerSlotsStayLegal : Obligations.AcquirerSlotsStayLegal := fun _ _ legal run =>
  step_keeps_keys (fun _ _ _ event => event.acquirersLegal) (fun _ _ restart => restart.acquirersLegal)
    (fun _ _ => id) run legal

end Sys2Proof.Proofs
end

section
/-! SUPPORT. What is stored of the key in use, or being written, covers the working mark, and the working mark covers C
(R130, R135 to R137). -/

namespace Sys2Proof.Proofs

open Sys2Proof Sys2Proof.Machine Sys2Proof.Laws

variable {s t : State} {k k' : KeyUnit} {c d : KeyStore} {w : StoreWrite}

/-! ### A key store that covers another (R137) -/

/-- R137: the mark of a key in use is at least 1. -/
def MarkPositive (c : KeyStore) : Prop := c.current.state ≠ .empty → 1 ≤ c.currentMark

/-- R137: the mark of a key in use is at least 1, and where `d` holds the same key, at least the mark there. -/
structure Covers (c d : KeyStore) : Prop where
  positive : MarkPositive c
  atLeast  : sameKey c d → d.currentMark ≤ c.currentMark

/-- A key store covers itself when the mark of its key is at least 1. -/
theorem covers_self (positive : MarkPositive c) : Covers c c := ⟨positive, fun _ => le_rfl⟩

theorem empty_covers (d : KeyStore) : Covers KeyStore.empty d :=
  ⟨fun held => absurd rfl held, fun same => absurd rfl same.1⟩

/-- An EMPTY key store asks for no mark of what is stored. -/
theorem Covers.empty (covers : Covers c d) : Covers c KeyStore.empty :=
  ⟨covers.positive, fun same => absurd rfl same.2.1⟩

/-- A key whose mark stands at 1 asks for no more of what is stored than that. -/
theorem Covers.first {e : KeyStore} (covers : Covers c d) (one : e.currentMark = 1) : Covers c e :=
  ⟨covers.positive, fun same => one ▸ covers.positive same.1⟩

/-- The key in use and its mark are what is covered: the other slots do not count. -/
theorem Covers.of_eq {e : KeyStore} (covers : Covers c d) (held : e.current.state ≠ .empty → d.current.state ≠ .empty)
    (id : e.current.id = d.current.id) (mark : e.currentMark = d.currentMark) : Covers c e :=
  ⟨covers.positive, fun same => mark ▸ covers.atLeast ⟨same.1, held same.2.1, same.2.2.trans id⟩⟩

/-! ### The key unit's own changes (R133, R135, R139) -/

/-- R135, R137: C is within the mark while the key is ACTIVE. -/
def WithinMark (k : KeyUnit) : Prop := k.store.current.state = .active → k.currentC ≤ k.store.currentMark

/-- R145, R146: with every slot EMPTY there is no counter to keep within its mark. -/
theorem reset_within : WithinMark KeyUnit.reset := by
  simp [WithinMark, KeyUnit.reset, KeyStore.empty, KeySlot.empty]

theorem promoteKey_within (k : KeyUnit) : WithinMark (promoteKey k) := fun _ => le_rfl

theorem exhaustKey_within (k : KeyUnit) : WithinMark (exhaustKey k) := by
  unfold exhaustKey
  dsimp only
  split
  · exact promoteKey_within _
  · exact nofun

theorem handOutKey_within (below : k.currentC < k.store.currentMark) : WithinMark (handOutKey k) := by
  unfold handOutKey
  split
  · exact exhaustKey_within _
  · exact fun _ => below

/-- R133: only ACQ_CURRENT's load reaches its key, mark and C, which begin at 1. -/
theorem loadSlot_current (slot id : Nat) (key check : List Byte) (k : KeyUnit) :
    ((loadSlot slot id key check k).store.currentMark = 1 ∧ (loadSlot slot id key check k).currentC = 1) ∨
      ((loadSlot slot id key check k).store.current = k.store.current ∧
        (loadSlot slot id key check k).store.currentMark = k.store.currentMark ∧
        (loadSlot slot id key check k).currentC = k.currentC) := by
  unfold loadSlot
  split
  · exact .inl ⟨rfl, rfl⟩
  all_goals exact .inr ⟨rfl, rfl, rfl⟩

theorem loadSlot_within (slot id : Nat) (key check : List Byte) (within : WithinMark k) :
    WithinMark (loadSlot slot id key check k) := by
  obtain ⟨mark, counter⟩ | ⟨current, mark, counter⟩ := loadSlot_current slot id key check k
  · intro _
    rw [mark, counter]
  · intro active
    rw [mark, counter]
    exact within (current ▸ active)

theorem UnitChange.within (change : UnitChange k k') (within : WithinMark k) : WithinMark k' := by
  cases change with
  | flags => exact within
  | handOut _ below => exact handOutKey_within below
  | promotion => exact promoteKey_within k
  | load => exact loadSlot_within _ _ _ _ within

/-- R139: exhaustion keeps the key and its mark, or brings a key whose mark stands at 1. -/
theorem exhaustKey_covered (covers : Covers c k.store) (active : k.store.current.state = .active) :
    Covers c (exhaustKey k).store := by
  unfold exhaustKey
  dsimp only
  split
  · exact covers.first rfl
  · exact covers.of_eq (fun _ => by simp [active]) rfl rfl

theorem handOutKey_covered (covers : Covers c k.store) (active : k.store.current.state = .active) :
    Covers c (handOutKey k).store := by
  unfold handOutKey
  split
  · exact exhaustKey_covered (k := { k with waiting := false }) covers active
  · exact covers

theorem loadSlot_covered (slot id : Nat) (key check : List Byte) (covers : Covers c k.store) :
    Covers c (loadSlot slot id key check k).store := by
  obtain ⟨mark, -⟩ | ⟨current, mark, -⟩ := loadSlot_current slot id key check k
  · exact covers.first mark
  · exact covers.of_eq (fun held => current ▸ held) (by rw [current]) mark

/-- What covers the working key store goes on covering it: the unit itself never raises a mark above 1. -/
theorem UnitChange.covered (change : UnitChange k k') (covers : Covers c k.store) : Covers c k'.store := by
  cases change with
  | flags => exact covers
  | handOut active => exact handOutKey_covered covers active
  | promotion => exact covers.first rfl
  | load => exact loadSlot_covered _ _ _ _ covers

theorem exhaustKey_positive (positive : MarkPositive k.store) (active : k.store.current.state = .active) :
    1 ≤ (exhaustKey k).store.currentMark := by
  unfold exhaustKey
  dsimp only
  split
  · exact le_rfl
  · exact positive (by simp [active])

/-- R137: the mark of the working key stays at least 1. -/
theorem UnitChange.positive (change : UnitChange k k') (positive : MarkPositive k.store) : MarkPositive k'.store := by
  cases change with
  | flags => exact positive
  | handOut active =>
    unfold handOutKey
    split
    · exact fun _ => exhaustKey_positive (k := { k with waiting := false }) positive active
    · exact positive
  | promotion => exact fun _ => le_rfl
  | load =>
    obtain ⟨mark, -⟩ | ⟨current, mark, -⟩ := loadSlot_current _ _ _ _ k
    · exact fun _ => mark.ge
    · rw [MarkPositive, current, mark]
      exact positive

/-! ### Reservations (R130, R135, R136) -/

/-- R130, R135: where a store write carries the key of its reservation, it carries at least the reserved mark. -/
def Reserves (c : KeyStore) (r : Option Reservation) : Prop :=
  ∀ v, r = some v → c.current.state ≠ .empty → c.current.id = v.keyId → v.mark ≤ c.currentMark

/-- R130: the copied content holds the working key, under a mark that is no lower. -/
theorem keyWriteContent_eq (c : KeyStore) (r : Option Reservation) :
    ∃ m, c.currentMark ≤ m ∧ keyWriteContent c r = { c with currentMark := m } := by
  unfold keyWriteContent
  split
  · split
    · exact ⟨_, le_max_left _ _, rfl⟩
    · exact ⟨_, le_rfl, rfl⟩
  · exact ⟨_, le_rfl, rfl⟩

theorem keyWriteContent_covers (covers : Covers c c) (r : Option Reservation) : Covers (keyWriteContent c r) c := by
  obtain ⟨m, raised, content⟩ := keyWriteContent_eq c r
  rw [content]
  exact ⟨fun held => (covers.positive held).trans raised, fun _ => raised⟩

theorem keyWriteContent_reserves (c : KeyStore) (r : Option Reservation) : Reserves (keyWriteContent c r) r := by
  rintro v rfl held same
  unfold keyWriteContent at held same ⊢
  dsimp only at held same ⊢
  split at held
  · next key =>
    rw [if_pos key]
    exact le_max_right _ _
  · next other =>
    rw [if_neg other] at same
    exact absurd ⟨held, same⟩ other

/-- R136: a completed reservation leaves the working key store, or raises the mark of its own key. -/
theorem raiseMark_eq (r : Option Reservation) (k : KeyUnit) : raiseMark r k = k ∨
    ∃ v, r = some v ∧ k.store.current.id = v.keyId ∧
      raiseMark r k = { k with store := { k.store with currentMark := max k.store.currentMark v.mark } } := by
  unfold raiseMark
  split
  · next v =>
    split
    · next key => exact .inr ⟨v, rfl, key.2.2, rfl⟩
    · exact .inl rfl
  · exact .inl rfl

theorem raiseMark_covered (covers : Covers c k.store) {r : Option Reservation} (reserves : Reserves c r) :
    Covers c (raiseMark r k).store := by
  obtain same | ⟨v, reservation, key, raised⟩ := raiseMark_eq r k
  · rwa [same]
  · rw [raised]
    refine ⟨covers.positive, fun same => ?_⟩
    exact max_le (covers.atLeast same) (reserves v reservation same.1 (same.2.2.trans key))

theorem raiseMark_within (within : WithinMark k) (r : Option Reservation) : WithinMark (raiseMark r k) := by
  obtain same | ⟨v, -, -, raised⟩ := raiseMark_eq r k
  · rwa [same]
  · rw [raised]
    exact fun active => (within active).trans (le_max_left _ _)

theorem raiseMark_positive (positive : MarkPositive k.store) (r : Option Reservation) :
    MarkPositive (raiseMark r k).store := by
  obtain same | ⟨v, -, -, raised⟩ := raiseMark_eq r k
  · rwa [same]
  · rw [raised]
    exact fun held => (positive held).trans (le_max_left _ _)

/-- The write in progress, where it is a reservation write, carries the reserved mark. -/
def WriteReserves (writing : Option StoreWrite) : Prop :=
  ∀ content r forPort, writing = some (.keyStore content r forPort) → Reserves content r

theorem none_reserves : WriteReserves none := fun _ _ _ writing => by cases writing

theorem beginWrite_reserves (c : KeyStore) (q : StoreRequest) : WriteReserves (some (beginWrite c q)) := by
  rintro content r forPort is
  cases q with
  | keyStore r' forPort' =>
    simp only [beginWrite, Option.some.injEq, StoreWrite.keyStore.injEq] at is
    obtain ⟨rfl, rfl, -⟩ := is
    exact keyWriteContent_reserves c _
  | _ => simp [beginWrite] at is

/-- R145: an ERASE voids a reservation and leaves its key id and mark. -/
theorem voidReservations_reserves {n : NvStore} (reserves : WriteReserves n.writing) :
    WriteReserves (voidReservations n).writing := by
  rintro content r forPort is v rfl held same
  obtain ⟨w, before, voided⟩ := Option.map_eq_some_iff.mp is
  cases w with
  | keyStore content' r' forPort' =>
    simp only [StoreWrite.keyStore.injEq, Option.map_eq_some_iff] at voided
    obtain ⟨rfl, ⟨v', rfl, rfl⟩, rfl⟩ := voided
    exact reserves _ _ _ before v' rfl held same
  | _ => simp at voided

/-! ### The invariant (R137) -/

theorem marksHold_of (idle : t.phase ≠ .running → t.nv.writing = none) (within : WithinMark t.keys)
    (positive : MarkPositive t.keys.store)
    (others : ∀ c, c = t.nv.keys ∨ CarriesKeys t.nv.writing c → Covers c t.keys.store)
    (reserves : WriteReserves t.nv.writing) : MarksHold t := by
  have covers : ∀ c ∈ keyStores t, Covers c t.keys.store := fun c mem => by
    obtain rfl | other := mem_keyStores.mp mem
    · exact covers_self positive
    · exact others c other
  exact ⟨idle, fun c mem => (covers c mem).positive, within, fun c mem => (covers c mem).atLeast,
    fun content r forPort writing => reserves content (some r) forPort writing r rfl⟩

theorem covers_of_marksHold (hold : MarksHold s) (mem : c ∈ keyStores s) : Covers c s.keys.store :=
  ⟨hold.positive c mem, hold.stored c mem⟩

theorem reserves_of_marksHold (hold : MarksHold s) : WriteReserves s.nv.writing := by
  rintro content r forPort writing v rfl
  exact hold.carried content v forPort writing

/-- R136: what a write leaves in the store covers the working key store, its mark raised by the completed write. -/
theorem endWriting_covers (hold : MarksHold s) (before : s.nv.writing = some w) (completed : Bool) :
    Covers (endWriting w completed s.nv).keys (endKeyWrite completed (reservationOf w) s.keys).store := by
  have stored : Covers s.nv.keys s.keys.store := covers_of_marksHold hold (stored_mem s)
  cases completed with
  | false => exact stored
  | true =>
    cases w with
    | keyStore content r forPort =>
      have carried : Covers content s.keys.store := covers_of_marksHold hold (carried_mem ⟨r, forPort, before⟩)
      exact raiseMark_covered (k := { s.keys with counterStore := false }) carried
        (reserves_of_marksHold hold content r forPort before)
    | erase => exact empty_covers _
    | _ => exact stored

theorem endKeyWrite_within (within : WithinMark k) (completed : Bool) (r : Option Reservation) :
    WithinMark (endKeyWrite completed r k) := by
  cases completed with
  | false => exact within
  | true => exact raiseMark_within (k := { k with counterStore := false }) within r

theorem endKeyWrite_positive (positive : MarkPositive k.store) (completed : Bool) (r : Option Reservation) :
    MarkPositive (endKeyWrite completed r k).store := by
  cases completed with
  | false => exact positive
  | true => exact raiseMark_positive (k := { k with counterStore := false }) positive r

theorem KeyEvent.marksHold (phase : t.phase = s.phase) (event : KeyEvent s t) (hold : MarksHold s) : MarksHold t := by
  have positive : MarkPositive s.keys.store := hold.positive _ (working_mem s)
  have covers {c : KeyStore} (before : c = s.nv.keys ∨ CarriesKeys s.nv.writing c) : Covers c s.keys.store :=
    covers_of_marksHold hold (mem_keyStores.mpr (.inr before))
  cases event with
  | unit change stored writing =>
    refine marksHold_of (by rw [phase, writing]; exact hold.idle) (change.within hold.counter)
      (change.positive positive) (fun c other => change.covered (covers ?_)) (writing ▸ reserves_of_marksHold hold)
    rwa [stored, writing] at other
  | erased keys stored writing =>
    refine marksHold_of (fun closed => ?_) (keys ▸ reset_within)
      (by rw [keys]; exact (empty_covers KeyStore.empty).positive) (fun c other => ?_)
      (writing ▸ voidReservations_reserves (reserves_of_marksHold hold))
    · rw [writing, voidReservations, hold.idle (phase ▸ closed)]
      rfl
    · rw [stored, writing, voidReservations_carries] at other
      exact keys ▸ (covers other).empty
  | begun running free q keys stored writing =>
    refine marksHold_of (fun closed => absurd (phase.trans running) closed) (keys ▸ hold.counter) (keys ▸ positive)
      (fun c other => ?_) (writing ▸ beginWrite_reserves _ q)
    rw [keys]
    obtain rfl | carried := other
    · exact covers (.inl stored)
    · rw [writing] at carried
      obtain ⟨r, rfl⟩ := beginWrite_carries carried
      exact keyWriteContent_covers (covers_self positive) r
  | @ended w completed before store counter stored writing =>
    refine marksHold_of (fun _ => writing) ?_ (store ▸ endKeyWrite_positive positive completed _)
      (fun c other => ?_) (writing ▸ none_reserves)
    · have within := endKeyWrite_within hold.counter completed (reservationOf w)
      unfold WithinMark at within ⊢
      rwa [store, counter, ← endKeyWrite_currentC completed (reservationOf w) s.keys]
    · obtain rfl | ⟨_, _, carried⟩ := other
      · rw [stored, store]
        exact endWriting_covers hold before completed
      · rw [writing] at carried
        cases carried

/-! ### Resets and start-up (R137, R146) -/

theorem startKeys_within (c : KeyStore) : WithinMark (startKeys c) := by
  unfold startKeys
  split
  · exact exhaustKey_within _
  · exact fun _ => le_rfl

theorem startKeys_covered (covers : Covers c d) : Covers c (startKeys d).store := by
  unfold startKeys
  split
  · next exhausted => exact exhaustKey_covered (k := rebuildKeys d) covers (active_of_exhaustedAtStart exhausted)
  · exact covers

theorem startKeys_positive (positive : MarkPositive c) : MarkPositive (startKeys c).store := by
  unfold startKeys
  split
  · next exhausted =>
    exact fun _ => exhaustKey_positive (k := rebuildKeys c) positive (active_of_exhaustedAtStart exhausted)
  · exact positive

theorem Restart.marksHold (restart : Restart s t) (hold : MarksHold s) : MarksHold t := by
  cases restart with
  | @reset ph cause closed =>
    have none : (resetPart ph cause s).nv.writing = none := resetNv_writing _ _
    refine marksHold_of (fun _ => none) reset_within (empty_covers KeyStore.empty).positive (fun c other => ?_)
      (by rw [none]; exact none_reserves)
    obtain before | rfl := resetPart_others ph cause other
    · exact (covers_of_marksHold hold before).empty
    · exact empty_covers _
  | release held =>
    have none : s.nv.writing = none := hold.idle (by simp [held])
    exact ⟨fun _ => none, hold.positive, hold.counter, hold.stored, hold.carried⟩
  | start starting =>
    have none : s.nv.writing = none := hold.idle (by simp [starting])
    have positive : MarkPositive s.nv.keys := hold.positive _ (stored_mem s)
    refine marksHold_of (fun closed => absurd rfl closed) (startKeys_within _) (startKeys_positive positive)
      (fun c other => ?_) (reserves_of_marksHold (s := s) hold)
    obtain rfl | ⟨_, _, carried⟩ := other
    · exact startKeys_covered (covers_self positive)
    · have carried : s.nv.writing = _ := carried
      rw [none] at carried
      cases carried

/-- Settles O55: every change of the key unit and the store keeps what is stored above the working mark, and C within
it. -/
theorem storedMarksCoverTheCounter : Obligations.StoredMarksCoverTheCounter := fun _ _ hold run =>
  step_keeps_keys (fun _ _ phase event => event.marksHold phase) (fun _ _ restart => restart.marksHold)
    (fun _ _ hold => ⟨hold.idle, hold.positive, hold.counter, hold.stored, hold.carried⟩) run hold

end Sys2Proof.Proofs
end

section
/-! SUPPORT. The store writes of the part in a quiet state: how each begins, how each ends, and what the end of a
reservation write makes of the key request that waits (R102, R130, R131, R135, R136). -/

namespace Sys2Proof.Proofs

open Sys2Proof Sys2Proof.Machine Sys2Proof.Laws

variable {s u : State} {w : Work} {h : Hold} {content : KeyStore} {r : Option Reservation} {forPort completed : Bool}

/-! ### The begin (R130, R135) -/

theorem exec_storeWriteBegin (running : s.phase = .running) (done : DirectiveDone s) :
    exec .storeWriteBegin s = .next (beginNextWrite s) := by
  change Host.Outcome.next (whenRunning settleStore s) = _
  rw [whenRunning_running _ running, settleStore, settleDirective_of running done]

/-- R130: the write requested first begins. -/
theorem beginNextWrite_first {q : StoreRequest} {rest : List StoreRequest} (free : s.nv.writing = none)
    (requests : s.nv.requests = q :: rest) : beginNextWrite s =
      { s with nv := { s.nv with requests := rest, writing := some (beginWrite s.keys.store q) } } := by
  unfold beginNextWrite
  rw [free, requests]
  rfl

/-- Settles O38: the first request by what it asks for, and the states in which nothing begins. -/
theorem storeWritesBeginInOrder : Obligations.StoreWritesBeginInOrder := by
  refine ⟨fun s q rest done running free requests => ?_, fun s nothing => ?_⟩
  · rw [exec_storeWriteBegin running done, beginNextWrite_first free requests]
    cases q with
    | keyStore reservation forPort => cases reservation <;> rfl
    | _ => rfl
  · obtain closed | ⟨done, busy⟩ := nothing
    · exact congrArg Host.Outcome.next (whenRunning_closed _ closed)
    · by_cases running : s.phase = .running
      · rw [exec_storeWriteBegin running done, beginNextWrite_of busy]
      · exact congrArg Host.Outcome.next (whenRunning_closed _ running)

/-! ### The end (R130, R131, R155, R184) -/

theorem exec_storeWriteEnd {write : StoreWrite} (quiet : Quiet s) (writing : s.nv.writing = some write)
    (completed : Bool) : exec (.storeWriteEnd completed) s =
      .next (reportDue (requesterActs write completed (onNv (endWriting write completed) s))) := by
  change Host.Outcome.next (event (endStoreWrite completed) s) = _
  rw [event_of _ quiet, endStoreWrite, writing]

/-- The end of a write whose requester tells no channel of it. -/
theorem exec_storeWriteEnd_silent {write : StoreWrite} {fs : List Field} (quiet : Quiet s)
    (writing : s.nv.writing = some write)
    (kept : Touches fs (onNv (endWriting write completed) s)
      (requesterActs write completed (onNv (endWriting write completed) s)))
    (phase : .phase ∉ fs := by decide) (settings : .settings ∉ fs := by decide) (report : .report ∉ fs := by decide) :
    exec (.storeWriteEnd completed) s =
      .next (requesterActs write completed (onNv (endWriting write completed) s)) := by
  have touched : Touches (.nv :: fs) s (requesterActs write completed (onNv (endWriting write completed) s)) :=
    ((onNv_touches s _).mono (by simp)).andThen kept fun _ mem => List.mem_cons_of_mem _ mem
  rw [exec_storeWriteEnd quiet writing, reportDue_of_kept (quiet_reports quiet) touched (by simpa using phase)
    (by simpa using settings) (by simpa using report)]

/-- R144: a change that leaves both acquirer slots and C is key attention for NO_KEY and COUNTER_STORE alone. -/
theorem keyAttention_of_acquirers (cfg : Settings) (k k' : KeyUnit) (current : k'.store.current = k.store.current)
    (next : k'.store.next = k.store.next) (counter : k'.currentC = k.currentC) : keyAttention cfg k k' =
      (noKeyFlag k.store != noKeyFlag k'.store || k.counterStore != k'.counterStore) := by
  have warning : warningFlag cfg k' = warningFlag cfg k := by rw [warningFlag, warningFlag, current, counter]
  simp [keyAttention, current, next, warning]

/-- R131, R136: the end of a key store write sets COUNTER_STORE by its outcome, and at most the working mark with it. -/
theorem endKeyWrite_marks (completed : Bool) (r : Option Reservation) (k : KeyUnit) : ∃ m, endKeyWrite completed r k =
    { k with store := { k.store with currentMark := m }, counterStore := !completed } := by
  cases completed with
  | false => exact ⟨k.store.currentMark, rfl⟩
  | true =>
    obtain same | ⟨v, -, -, raised⟩ := raiseMark_eq r { k with counterStore := false }
    · exact ⟨k.store.currentMark, same⟩
    · exact ⟨_, raised⟩

/-- R131, R144: the end of a key store write is key attention exactly where COUNTER_STORE changes. -/
theorem endKeyWrite_attention (cfg : Settings) (completed : Bool) (r : Option Reservation) (k : KeyUnit) :
    keyAttention cfg k (endKeyWrite completed r k) = true ↔ k.counterStore = completed := by
  obtain ⟨m, marks⟩ := endKeyWrite_marks completed r k
  rw [keyAttention_of_acquirers _ _ _ (by rw [marks]) (by rw [marks]) (by rw [marks]), marks]
  cases k.counterStore <;> cases completed <;> simp [noKeyFlag]

/-- R136: a completed write takes its reservation's mark, in full. -/
theorem raiseMark_some (v : Reservation) (k : KeyUnit) : raiseMark (some v) k =
    { k with
      store := if v.live = true ∧ k.store.current.state ≠ .empty ∧ k.store.current.id = v.keyId then
          { k.store with currentMark := max k.store.currentMark v.mark }
        else k.store } := by
  unfold raiseMark
  dsimp only
  split <;> rfl

/-- R131, R136: the key unit at the end of a key store write, in full. -/
theorem endKeyWrite_eq (completed : Bool) (r : Option Reservation) (k : KeyUnit) : endKeyWrite completed r k =
    { k with
      counterStore := !completed
      store := match r with
        | none => k.store
        | some v =>
          if completed = true ∧ v.live = true ∧ k.store.current.state ≠ .empty ∧ k.store.current.id = v.keyId then
            { k.store with currentMark := max k.store.currentMark v.mark }
          else k.store } := by
  cases r with
  | none => cases completed <;> rfl
  | some v =>
    cases completed with
    | false => simp [endKeyWrite]
    | true => simp [endKeyWrite, raiseMark_some]

/-- R131, R136: the end of a key store write in the store, the key unit and the port, before a waiting request is
judged. -/
theorem keyWriteSettled_eq (s : State) (content : KeyStore) (r : Option Reservation) (forPort completed : Bool) :
    (if forPort then portOutcome completed
        (keyChange (endKeyWrite completed r) (onNv (endWriting (.keyStore content r forPort) completed) s))
      else keyChange (endKeyWrite completed r) (onNv (endWriting (.keyStore content r forPort) completed) s)) =
    keyWriteSettled s content r forPort completed := by
  rw [keyChange_eq, if_congr (endKeyWrite_attention _ _ _ _) rfl rfl, endKeyWrite_eq]
  cases forPort <;> cases completed <;> rfl

theorem exec_keyWriteEnd (quiet : Quiet s) (writing : s.nv.writing = some (.keyStore content r forPort)) :
    exec (.storeWriteEnd completed) s = .next (reportDue
      (if r.isSome then judgeWaiting completed (keyWriteSettled s content r forPort completed)
        else keyWriteSettled s content r forPort completed)) := by
  rw [exec_storeWriteEnd quiet writing, requesterActs, keyWriteEnded, keyWriteSettled_eq]

/-- R102: without a request that waits there is nothing to judge. -/
theorem judgeWaiting_of_none (none : s.keys.waiting = false) (completed : Bool) : judgeWaiting completed s = s := by
  simp [judgeWaiting, none]

theorem keyWriteSettled_waiting (s : State) (content : KeyStore) (r : Option Reservation) (forPort completed : Bool) :
    (keyWriteSettled s content r forPort completed).keys.waiting = s.keys.waiting := rfl

/-- R145, R190: the erase write ends in the store, the key unit and the port. -/
theorem eraseWriteEnded_eq (s : State) (completed : Bool) :
    requesterActs .erase completed (onNv (endWriting .erase completed) s) = { s with
      nv := if completed then
          { s.nv with
            keys := KeyStore.empty
            control := 0
            locked := false
            groups := [6, 21, 9, 10, 49].map fun n => List.replicate n 0
            lastClosed := 0
            writing := none }
        else { s.nv with writing := none }
      keys := { s.keys with counterStore := !completed }
      report := if s.keys.counterStore = completed then updAt s.report 4 oweOn else s.report
      port := { s.port with
        outstanding := false
        lastOutcome := if completed then .completed else .failed } } := by
  unfold requesterActs keyWriteEnded
  rw [keyChange_eq, if_congr (endKeyWrite_attention _ _ _ _) rfl rfl, endKeyWrite_eq]
  cases completed <;> rfl

/-- Settles O39: a key store write by `exec_keyWriteEnd`, the erase write by `eraseWriteEnded_eq`, and the others, which
tell no channel. -/
theorem storeWritesEnd : Obligations.StoreWritesEnd := by
  intro s completed quiet
  refine ⟨fun content r forPort writing none => ?_, fun number writing => ?_, fun group words writing => ?_,
    fun writing => ?_, fun writing => ?_, fun free => ?_⟩
  · rw [exec_keyWriteEnd quiet writing]
    obtain rfl | none := none
    · rfl
    · rw [judgeWaiting_of_none ((keyWriteSettled_waiting ..).trans none), ite_self]
  · rw [exec_storeWriteEnd_silent quiet writing (numberWritten_touches _ completed)]
    cases completed <;> rfl
  · rw [exec_storeWriteEnd_silent quiet writing (portOutcome_touches _ completed)]
    cases completed with
    | false => rfl
    | true =>
      by_cases first : group = 0 <;>
        simp [requesterActs, portOutcome, endWriting, writeLands, onPort, onNv, first]
  · rw [exec_storeWriteEnd_silent quiet writing (portOutcome_touches _ completed)]
    cases completed <;> rfl
  · rw [exec_storeWriteEnd quiet writing, eraseWriteEnded_eq]
  · change Host.Outcome.next (event (endStoreWrite completed) s) = _
    rw [event_of _ quiet, endStoreWrite, free, reportDue_of (quiet_reports quiet).2]

/-! ### The wait (R102, R136) -/

/-- R102: a waiting request that ends with a refusal, in full. -/
theorem endWaiting_eq (work : s.engine.work = some w) (r : Reason) (h : Hold) :
    endWaiting r h s = { recordRefused s w h .rejected r with keys := { s.keys with waiting := false } } := by
  unfold endWaiting
  rw [decideHeaderOnly_eq (s := onKeys _ s) work]
  rfl

theorem workHold_eq (work : s.engine.work = some w) (hold : holdOf s w.window w.slot = some h) :
    workHold s = some h := by
  simp [workHold, work, hold]

/-- The waiting request of the record in work, with its hold, judged in the order of R136. -/
theorem judgeWaiting_eq (waits : s.keys.waiting = true) (work : s.engine.work = some w)
    (hold : holdOf s w.window w.slot = some h) (completed : Bool) : judgeWaiting completed s =
      if noKeyFlag s.keys.store then endWaiting .noKey h s
      else if !completed then endWaiting .counterStore h s
      else if s.keys.currentC < s.keys.store.currentMark then handOutToRecord s
      else requestWrite (.keyStore (some (reservationFor s.keys false)) false) s := by
  simp [judgeWaiting, waits, workHold_eq work hold]

/-- Settles O40: the four cases of `judgeWaiting_eq`, in the working state that the end of the write leaves. -/
theorem reservationEndJudgesTheWait : Obligations.ReservationEndJudgesTheWait := by
  intro s u completed forPort content v w h quiet writing waits work hold settled
  have ends : exec (.storeWriteEnd completed) s = .next (reportDue (judgeWaiting completed u)) := by
    rw [exec_keyWriteEnd quiet writing, settled]
    rfl
  have waits : u.keys.waiting = true := settled ▸ waits
  have work : u.engine.work = some w := settled ▸ work
  have hold : holdOf u w.window w.slot = some h := settled ▸ hold
  have flag (surrogate : u.keys.store.surrogate.state ≠ .empty) (active : u.keys.store.current.state = .active) :
      ¬noKeyFlag u.keys.store = true := by simp [noKeyFlag_iff, surrogate, active]
  rw [ends, judgeWaiting_eq waits work hold]
  refine ⟨fun noKey => ?_, fun surrogate active failed => ?_, fun ready landed => ?_,
    fun surrogate active landed atMark => ?_⟩
  · rw [if_pos (noKeyFlag_iff.mpr noKey), endWaiting_eq work]
  · rw [if_neg (flag surrogate active), if_pos (by simp [failed]), endWaiting_eq work]
  · rw [if_neg (flag ready.surrogate ready.active), if_neg (by simp [landed]), if_pos ready.value,
      handOutToRecord_eq work ready.active]
  · rw [if_neg (flag surrogate active), if_neg (by simp [landed]), if_neg (by omega)]
    rfl

end Sys2Proof.Proofs
end

section
/-! SUPPORT. LOAD_KEY and ERASE at an open port in a quiet state (R132 to R134, R144, R145, R187, R190). -/

namespace Sys2Proof.Proofs

open Sys2Proof Sys2Proof.Machine Sys2Proof.Laws

variable {s : State} {w : Work} {h : Hold} {k : KeyUnit} {slot id : Nat} {key check : List Byte} {clocked : List Byte}

/-! ### Frames (R182, R183, R185) -/

/-- R183: an answer of a status alone, in full. -/
theorem answerFrame_status (n : Nat) (st : PortStatus) (s : State) :
    answerFrame n (statusAnswer st) s = frameAnswered s n (statusCode st) := rfl

theorem frameAnswered_touches (s : State) (n st : Nat) : Touches [.port] s (frameAnswered s n st) :=
  onPort_touches s fun p => { p with
    shiftedOut := (p.answer.getD [0] ++ zeros n).take n
    answer := some [BitVec.ofNat 8 st] }

/-- An answer alone makes no status write due. -/
theorem reportDue_frameAnswered (quiet : Quiet s) (n st : Nat) :
    reportDue (frameAnswered s n st) = frameAnswered s n st :=
  reportDue_of_kept (quiet_reports quiet) (frameAnswered_touches s n st)

/-- R185: a frame of the right length is acted on at a port with nothing outstanding. -/
theorem judgedFrame_acts {wanted : Nat} {length : Byte} (fits : length.toNat = wanted)
    (free : s.port.outstanding = false) (clocked : List Byte) (act : State → State) :
    judgedFrame wanted length clocked act s = act s := by
  simp [judgedFrame, frameRefusal, fits, free]

/-- R182: at an open port a frame with a command byte and a length byte is acted on as that command. -/
theorem event_takeFrame (port : PortFree s) (command length : Byte) (clocked : List Byte) :
    event (takeFrame (command :: length :: clocked)) s = reportDue (actOnCommand command length clocked s) := by
  rw [event_of _ port.quiet, takeFrame, if_neg (List.cons_ne_nil _ _), if_pos port.open_, actOnFrame]

theorem exec_loadKey (port : PortFree s) (whole : 21 ≤ clocked.length) :
    exec (.loadKey 21 clocked) s = .next (reportDue (loadKeyFrame clocked s)) := by
  have acts : actOnCommand 2 21 clocked s = loadKeyFrame clocked s :=
    (if_neg (show ¬clocked.length < 21 by omega)).trans (judgedFrame_acts rfl port.free clocked _)
  exact congrArg Host.Outcome.next ((event_takeFrame port 2 21 clocked).trans (by rw [acts]))

theorem exec_erase (port : PortFree s) (clocked : List Byte) :
    exec (.erase 0 clocked) s = .next (reportDue (eraseFrame clocked s)) := by
  have acts : actOnCommand 5 0 clocked s = eraseFrame clocked s :=
    (if_neg (Nat.not_lt_zero _)).trans (judgedFrame_acts rfl port.free clocked _)
  exact congrArg Host.Outcome.next ((event_takeFrame port 5 0 clocked).trans (by rw [acts]))

/-! ### The judgement of a load (R132) -/

theorem judgeLoad_badSlot (k : KeyStore) (above : 51 < slot) : judgeLoad k slot id key check = .badSlot := if_pos above

theorem judgeLoad_badCheck (k : KeyStore) (listed : slot ≤ 51) (wrong : checkValue key ≠ check) :
    judgeLoad k slot id key check = .badCheck := by
  rw [judgeLoad, if_neg (by omega), if_pos wrong]

/-- R132, R134: what a key id has to pass. -/
def IdFree (k : KeyStore) (slot id : Nat) : Prop :=
  id ≠ 0 ∧ (slot ≤ 1 → k.highestId < id) ∧ (slot = 0 → k.next.state = .loaded → id < k.next.id)

theorem judgeLoad_badId {k : KeyStore} (listed : slot ≤ 51) (right : checkValue key = check)
    (taken : ¬IdFree k slot id) : judgeLoad k slot id key check = .badId := by
  rw [judgeLoad, if_neg (by omega), if_neg (not_not_intro right)]
  split_ifs with zero old late busy
  · rfl
  · rfl
  · rfl
  all_goals exact absurd ⟨zero, fun low => by_contra fun under => old ⟨low, by omega⟩,
    fun first loaded => by_contra fun notBelow => late ⟨first, loaded, by omega⟩⟩ taken

/-- R132: a load with a good key and a free id is refused for an ACTIVE ACQ_CURRENT alone. -/
theorem judgeLoad_free {k : KeyStore} (listed : slot ≤ 51) (right : checkValue key = check) (free : IdFree k slot id) :
    judgeLoad k slot id key check = if slot = 0 ∧ k.current.state = .active then .slotBusy else .ok := by
  obtain ⟨nonzero, above, below⟩ := free
  have notOld : ¬(slot ≤ 1 ∧ id ≤ k.highestId) := fun ⟨low, old⟩ => absurd (above low) (by omega)
  have notLate : ¬(slot = 0 ∧ k.next.state = .loaded ∧ k.next.id ≤ id) :=
    fun ⟨first, loaded, late⟩ => absurd (below first loaded) (by omega)
  rw [judgeLoad, if_neg (by omega), if_neg (not_not_intro right), if_neg nonzero, if_neg notOld, if_neg notLate]

/-! ### The effect of a load (R133, R144) -/

theorem loadSlot_current_attention (cfg : Settings) (idle : k.store.current.state ≠ .active) :
    keyAttention cfg k (loadSlot 0 id key check k) = true := by
  simp [keyAttention, loadSlot, idle]

theorem loadSlot_next_attention (cfg : Settings) (k : KeyUnit) : keyAttention cfg k (loadSlot 1 id key check k) =
    decide (k.store.next.state ≠ .loaded ∨ k.store.next.id ≠ id) := by
  have warning : warningFlag cfg (loadSlot 1 id key check k) = warningFlag cfg k := rfl
  have noKey : noKeyFlag (loadSlot 1 id key check k).store = noKeyFlag k.store := rfl
  rw [Bool.eq_iff_iff]
  simp only [keyAttention, warning, noKey]
  simp [loadSlot]

theorem loadSlot_surrogate_attention (cfg : Settings) (k : KeyUnit) :
    keyAttention cfg k (loadSlot 2 id key check k) =
      decide (k.store.surrogate.state = .empty ∧ k.store.current.state = .active) := by
  rw [keyAttention_of_acquirers cfg k (loadSlot 2 id key check k) rfl rfl rfl]
  rw [Bool.eq_iff_iff]
  by_cases active : k.store.current.state = .active
  · simp [noKeyFlag, loadSlot, active]
  · have idle : (k.store.current.state != .active) = true := bne_iff_ne.mpr active
    simp [noKeyFlag, loadSlot, active, idle]

theorem loadSlot_batch_attention (cfg : Settings) (k : KeyUnit) :
    keyAttention cfg k (loadSlot 3 id key check k) = false := by
  rw [keyAttention_of_acquirers cfg k (loadSlot 3 id key check k) rfl rfl rfl]
  simp [noKeyFlag, loadSlot]

theorem loadSlot_lane_attention (cfg : Settings) (k : KeyUnit) (lane : Nat) :
    keyAttention cfg k (loadSlot (lane + 4) id key check k) = false := by
  rw [keyAttention_of_acquirers cfg k (loadSlot (lane + 4) id key check k) rfl rfl rfl]
  simp [noKeyFlag, loadSlot]

/-- R133, R184: an accepted load, in full. -/
theorem acceptLoad_eq (p : LoadPayload) (s : State) : acceptLoad p s = { s with
    keys := loadSlot p.slot p.id p.key p.check s.keys
    nv := { s.nv with requests := s.nv.requests ++ [.keyStore none true] }
    report := if keyAttention s.settings s.keys (loadSlot p.slot p.id p.key p.check s.keys) = true then
      updAt s.report 4 oweOn else s.report
    port := { s.port with outstanding := true } } := by
  unfold acceptLoad
  rw [keyChange_eq]
  rfl

theorem exec_loadKey_refused (port : PortFree s) (whole : 21 ≤ clocked.length) {a : LoadAnswer} (refuses : a ≠ .ok)
    (judged : loadAnswer s (loadPayload clocked) = a) : exec (.loadKey 21 clocked) s =
      .next (frameAnswered s (clocked.length + 2) (statusCode (loadStatus a))) := by
  rw [exec_loadKey port whole, loadKeyFrame, judged, answerFrame_status, if_neg refuses,
    reportDue_frameAnswered port.quiet]
  rfl

theorem exec_loadKey_ok (port : PortFree s) (whole : 21 ≤ clocked.length) {k : KeyUnit} {attention : Bool}
    (judged : loadAnswer s (loadPayload clocked) = .ok)
    (loaded : loadSlot (loadPayload clocked).slot (loadPayload clocked).id (loadPayload clocked).key
      (loadPayload clocked).check s.keys = k)
    (told : keyAttention s.settings s.keys k = attention) : exec (.loadKey 21 clocked) s =
      .next (reportDue { frameAnswered s (clocked.length + 2) 1 with
        keys := k
        nv := { s.nv with requests := s.nv.requests ++ [.keyStore none true] }
        report := if attention then updAt s.report 4 oweOn else s.report
        port := { (frameAnswered s (clocked.length + 2) 1).port with outstanding := true } }) := by
  subst loaded told
  rw [exec_loadKey port whole, loadKeyFrame, judged, answerFrame_status, if_pos rfl, acceptLoad_eq]
  rfl

/-- Settles O43: the refusals in their order, and the effect of an OK load slot by slot. -/
theorem loadsAreJudgedAndTaken : Obligations.LoadsAreJudgedAndTaken := by
  intro s clocked slot id key check answered ok port whole isSlot isId isKey isCheck answers oks good isGood free isFree
  have payload : loadPayload clocked = ⟨slot, id, key, check⟩ := by
    rw [isSlot, isId, isKey, isCheck]
    rfl
  have judgement : loadAnswer s (loadPayload clocked) = judgeLoad s.keys.store slot id key check := by
    rw [payload]
    rfl
  have right (g : good) : slot ≤ 51 ∧ checkValue key = check := isGood.mp g
  have refused {a : LoadAnswer} (refuses : a ≠ .ok) (judged : judgeLoad s.keys.store slot id key check = a) :
      exec (.loadKey 21 clocked) s = .next (answered (statusCode (loadStatus a))) := by
    rw [answers]
    exact exec_loadKey_refused port whole refuses (judgement.trans judged)
  have taken (g : good) (f : free) (open_ : ¬(slot = 0 ∧ s.keys.store.current.state = .active)) {k : KeyUnit}
      {attention : Bool} (loaded : loadSlot slot id key check s.keys = k)
      (told : keyAttention s.settings s.keys k = attention) :
      exec (.loadKey 21 clocked) s = .next (ok k attention) := by
    have judged := judgeLoad_free (right g).1 (right g).2 (isFree.mp f)
    rw [if_neg open_] at judged
    rw [oks, answers]
    exact exec_loadKey_ok port whole (judgement.trans judged) (by rw [payload]; exact loaded) told
  refine ⟨fun above => ?_, fun listed bad => ?_, fun g notFree => ?_, fun g f first active => ?_,
    fun g f first idle => ?_, fun g f second => ?_, fun g f third => ?_, fun g f fourth => ?_, fun lane g f is => ?_⟩
  · exact refused (by decide) (judgeLoad_badSlot _ above)
  · exact refused (by decide) (judgeLoad_badCheck _ listed fun check => bad (isGood.mpr ⟨listed, check⟩))
  · exact refused (by decide) (judgeLoad_badId (right g).1 (right g).2 fun f => notFree (isFree.mpr f))
  · refine refused (a := .slotBusy) (by decide) ?_
    rw [judgeLoad_free (right g).1 (right g).2 (isFree.mp f), if_pos ⟨first, active⟩]
  · subst first
    exact taken g f (fun both => idle both.2) rfl (loadSlot_current_attention _ idle)
  · subst second
    exact taken g f (by simp) rfl (loadSlot_next_attention _ _)
  · subst third
    exact taken g f (by simp) rfl (loadSlot_surrogate_attention _ _)
  · subst fourth
    exact taken g f (by simp) rfl (loadSlot_batch_attention _ _)
  · obtain rfl : slot = lane + 4 := by omega
    exact taken g f (by simp) rfl (loadSlot_lane_attention _ _ lane)

/-! ### ERASE (R145, R190) -/

/-- The request and the port do not look at the record that is refused before them. -/
theorem requested_recordRefused (r : StoreRequest) (s : State) (w : Work) (h : Hold) (d : Disposition) (why : Reason) :
    holdOutstanding (requestWrite r (recordRefused s w h d why)) =
      recordRefused (holdOutstanding (requestWrite r s)) w h d why := rfl

/-- R102, R145: of a request that waits the erase leaves nothing but the refused record. -/
theorem endWaiting_erased (erased : s.keys = KeyUnit.reset) (work : s.engine.work = some w) (r : Reason) (h : Hold) :
    endWaiting r h s = recordRefused s w h .rejected r := by
  have idle : ({ s.keys with waiting := false } : KeyUnit) = s.keys := by rw [erased]; rfl
  rw [endWaiting_eq work, idle]
  rfl

theorem eraseStep_idle (none : s.keys.waiting = false) :
    eraseStep s = oweStore (onKeys eraseKeys (onNv voidReservations s)) := by
  rw [eraseStep, none]

theorem eraseStep_waiting (waits : s.keys.waiting = true) (work : s.engine.work = some w)
    (hold : holdOf s w.window w.slot = some h) :
    eraseStep s = recordRefused (oweStore (onKeys eraseKeys (onNv voidReservations s))) w h .rejected .noKey := by
  rw [eraseStep, waits, workHold_eq work hold]
  exact endWaiting_erased (s := oweStore (onKeys eraseKeys (onNv voidReservations s))) rfl work .noKey h

theorem eraseFrame_eq (clocked : List Byte) (s : State) : eraseFrame clocked s =
    holdOutstanding (requestWrite .erase (eraseStep (frameAnswered s (clocked.length + 2) 1))) := rfl

/-- Settles O45: the erase in the two cases of the request that waits. -/
theorem eraseEmptiesTheKeyUnit : Obligations.EraseEmptiesTheKeyUnit := by
  intro s u clocked port is
  have erased : holdOutstanding (requestWrite .erase
      (oweStore (onKeys eraseKeys (onNv voidReservations (frameAnswered s (clocked.length + 2) 1))))) = u := by
    rw [is]
    rfl
  refine ⟨fun none => ?_, fun waits w h work hold => ?_⟩
  · rw [exec_erase port, eraseFrame_eq, eraseStep_idle (s := frameAnswered s _ _) none, erased]
  · rw [exec_erase port, eraseFrame_eq, eraseStep_waiting (s := frameAnswered s _ _) waits work hold,
      requested_recordRefused, erased]

end Sys2Proof.Proofs
end

section
/-! SUPPORT. BATCH_CLOSE in full: the start of a close, with and without a promotion (R140, R153 to R155, R180). -/

namespace Sys2Proof.Proofs

open Sys2Proof Sys2Proof.Machine Sys2Proof.Laws

variable {s : State} {roll : Bool}

/-! ### The roll (R140, R144, R154) -/

/-- R144: a promotion is key attention, since it empties a LOADED ACQ_NEXT. -/
theorem promoteKey_attention (cfg : Settings) {k : KeyUnit} (staged : k.store.next.state = .loaded) :
    keyAttention cfg k (promoteKey k) = true := by
  simp [keyAttention, promoteKey, KeySlot.empty, staged]

/-- R140: a roll onto a LOADED ACQ_NEXT, in full. -/
theorem rollStep_loaded (staged : s.keys.store.next.state = .loaded) : rollStep true s = { s with
    keys := promoteKey s.keys
    nv := { s.nv with requests := s.nv.requests ++ [.keyStore none false] }
    report := updAt s.report 4 oweOn } := by
  have rolls : (true && s.keys.store.next.state == .loaded) = true := by simp [staged]
  rw [rollStep, if_pos rolls, keyChange_eq, if_pos (promoteKey_attention _ staged)]
  rfl

/-- R140: without the roll flag, or without a staged key, the key unit does nothing. -/
theorem rollStep_unpromoted (still : roll = false ∨ s.keys.store.next.state ≠ .loaded) : rollStep roll s = s := by
  refine if_neg ?_
  rw [Bool.and_eq_true, beq_iff_eq]
  exact fun ⟨asked, staged⟩ => still.elim (by simp [asked]) (· staged)

/-- R154: the answer kept with the close. -/
theorem rollAnswerOf_eq (roll : Bool) (k : KeyUnit) : rollAnswerOf roll k =
    if roll = false then .notAsked
    else if k.store.next.state = .loaded then .promoted k.store.next.id else .noNextKey := by
  simp only [rollAnswerOf, Bool.not_eq_true']

/-! ### The close (R152, R153, R155) -/

/-- R153: the totals unit at the start of a close, in full. -/
theorem openNextBatch_eq (roll : Bool) (k : KeyUnit) (t : Totals) : openNextBatch (rollAnswerOf roll k) t = { t with
    batch := Batch.fresh (if t.batch.number = 4294967295 then 1 else t.batch.number + 1) false
    lastClosed := t.batch.number
    summaryReady := false
    close := some
      { snapshot := t.batch
        roll := if roll = false then .notAsked
          else if k.store.next.state = .loaded then .promoted k.store.next.id else .noNextKey
        numberOutcome := none
        summary := none } } := by
  rw [rollAnswerOf_eq]
  rfl

/-- R140, R155: the start of a close that promotes the staged key: the key store write is requested before the batch
number's. -/
theorem startClose_promoting (staged : s.keys.store.next.state = .loaded) : startClose true s = { s with
    totals := openNextBatch (rollAnswerOf true s.keys) s.totals
    keys := promoteKey s.keys
    nv := { s.nv with
      requests := s.nv.requests ++ [.keyStore none false, .batchNumber s.totals.batch.number] }
    report := updAt s.report 4 oweOn } := by
  rw [startClose, rollStep_loaded staged, List.append_cons _ _ [StoreRequest.batchNumber _]]
  rfl

/-- R155: the start of a close that promotes no key. -/
theorem startClose_plain (still : roll = false ∨ s.keys.store.next.state ≠ .loaded) : startClose roll s = { s with
    totals := openNextBatch (rollAnswerOf roll s.keys) s.totals
    nv := { s.nv with requests := s.nv.requests ++ [.batchNumber s.totals.batch.number] } } := by
  rw [startClose, rollStep_unpromoted still]
  rfl

/-- R180: a BATCH_CLOSE that can be taken starts a close with the roll flag of byte 1. -/
theorem exec_batchClose (done : TakeDone s) (due : directiveDue s.directives = true)
    (code : codeOf (doneCapture s.directives) = .batchClose)
    (flag : (captureByte (doneCapture s.directives) 1).getLsbD 0 = roll) :
    exec .batchClose s = .next (reportDue (startClose roll (takeDirective none s))) := by
  have run := directiveCommand_due done due
  rw [code, runDirective, flag] at run
  exact congrArg Host.Outcome.next run

/-- Settles O19: a close that promotes the staged key, and one that promotes none. -/
theorem batchCloseStartsTheClose : Obligations.BatchCloseStartsTheClose := by
  intro s roll done waits idle code flag
  refine ⟨_, exec_batchClose done (directiveDue_iff.mpr ⟨waits, idle⟩) code flag, ?_⟩
  by_cases promotes : roll = true ∧ s.keys.store.next.state = .loaded
  · obtain ⟨rfl, staged⟩ := promotes
    rw [startClose_promoting (s := takeDirective none s) staged]
    exact ⟨openNextBatch_eq true s.keys s.totals, fun _ _ => ⟨rfl, rfl, rfl⟩,
      fun still => still.elim (absurd · (by decide)) (absurd staged), rfl⟩
  · have still : roll = false ∨ s.keys.store.next.state ≠ .loaded := by
      rwa [not_and_or, Bool.not_eq_true] at promotes
    rw [startClose_plain (s := takeDirective none s) still]
    exact ⟨openNextBatch_eq roll s.keys s.totals, fun asked staged => absurd ⟨asked, staged⟩ promotes,
      fun _ => ⟨rfl, rfl, rfl⟩, rfl⟩

end Sys2Proof.Proofs
end

section
/-! SUPPORT. What raises counts, flags, releases and totals, each in full (R38, R80, R149 to R151, R162, R164, R165). -/

namespace Sys2Proof.Proofs

open Sys2Proof Sys2Proof.Machine Sys2Proof.Laws

/-! ### The nine counts (R52, R164) -/

/-- R52: the place of a count among the nine of a window status block. -/
def countPlace : CountId → Nat
  | .wrapped => 0
  | .passed => 1
  | .duplicateStale => 2
  | .rejected => 3
  | .expiredSkipped => 4
  | .overrun => 5
  | .collision => 6
  | .exhausted => 7
  | .writeFaults => 8

/-- R164: an addition raises the count of its place alone. -/
theorem countsList_bumpCount (id : CountId) (n : Nat) (c : Counts) :
    countsList (bumpCount id n c) = updAt (countsList c) (countPlace id) fun k => min 65535 (k + n) := by
  cases id <;> rfl

theorem countsList_reduceCounts (a b : Counts) :
    countsList (reduceCounts a b) = List.zipWith (· - ·) (countsList a) (countsList b) := rfl

/-! ### One channel (R38, R164, R165) -/

section
variable {c : Channel}

/-- R165: the sweeps since dirty return to 0 only where the channel was clean. -/
theorem markDirty_eq (c : Channel) :
    markDirty c = { c with dirty := true, sweeps := if c.dirty then c.sweeps else 0 } := by
  obtain ⟨present, nextTag, reportedTag, armed, pending, dirty, rest⟩ := c
  cases dirty <;> rfl

theorem countOn_present_eq (present : c.present = true) (id : CountId) (n : Nat) :
    countOn id n c = markDirty { c with counts := bumpCount id n c.counts } := if_pos present

theorem releaseOn_present_eq (present : c.present = true) :
    releaseOn c = markDirty { c with releases := min 64 (c.releases + 1) } := if_pos present

theorem dirtyOn_present_eq (present : c.present = true) : dirtyOn c = markDirty c := if_pos present

theorem oweOn_present_eq (present : c.present = true) : oweOn c = { c with owed := true } := if_pos present

theorem raiseReturnIgnored_present_eq (present : c.present = true) : raiseReturnIgnored c =
    { (if c.returnIgnored = .clear then dirtyOn c else c) with returnIgnored := .pending } := by
  rw [raiseReturnIgnored, if_pos present, dirtyOn_present_eq present]

theorem raiseWriteFault_window_eq (present : c.present = true) : raiseWriteFault false c =
    { (if c.writeFault = .clear then dirtyOn c else c) with writeFault := .pending } := by
  rw [raiseWriteFault, if_pos present, dirtyOn_present_eq present]
  rfl

theorem raiseWriteFault_store_eq (present : c.present = true) : raiseWriteFault true c =
    { (if c.writeFault = .clear then oweOn c else c) with writeFault := .pending } := by
  rw [raiseWriteFault, if_pos present, oweOn_present_eq present]
  rfl

/-- R38, R165: one release or more make the channel dirty, and 64 of them are counted. -/
theorem releaseTimes_succ_eq (present : c.present = true) (k : Nat) :
    releaseTimes (k + 1) c = markDirty { c with releases := min 64 (c.releases + (k + 1)) } := by
  induction k generalizing c with
  | zero => rw [releaseTimes, releaseTimes, releaseOn_present_eq present]
  | succ k ih =>
    have stop : min 64 (min 64 (c.releases + 1) + (k + 1)) = min 64 (c.releases + (k + 1 + 1)) := by omega
    rw [releaseTimes, ih ((releaseOn_present c).trans present), releaseOn_present_eq present]
    simp [markDirty_eq, stop]

/-- R162: a channel that does not exist keeps nothing. -/
theorem absent_keeps (absent : c.present = false) (id : CountId) (n : Nat) (store : Bool) :
    countOn id n c = c ∧ releaseTimes n c = c ∧ dirtyOn c = c ∧ oweOn c = c ∧ raiseReturnIgnored c = c ∧
      raiseWriteFault store c = c := by
  have not_present : ¬c.present = true := by simp [absent]
  have released (n : Nat) : releaseTimes n c = c := by
    induction n with
    | zero => rfl
    | succ n ih => rw [releaseTimes, releaseOn, if_neg not_present, ih]
  exact ⟨if_neg not_present, released n, if_neg not_present, if_neg not_present, if_neg not_present,
    if_neg not_present⟩

end

/-- Settles O27: the additions by `countsList_bumpCount` and `releaseTimes_succ_eq`, the flags by their equations. -/
theorem countsAndTotalsSaturate : Obligations.CountsAndTotalsSaturate := by
  refine ⟨fun c id n i present listed => ?_, fun c k present => ?_, fun c present => ?_,
    fun c id n store absent => absent_keeps absent id n store, fun countMaximum sumMaximum amount t add is => ?_,
    fun first last k => ⟨rfl, rfl⟩⟩
  · obtain rfl : i = countPlace id := by
      cases id <;> simpa [countPlace] using listed
    rw [countOn_present_eq present, markDirty_eq]
    refine ⟨fun j => ?_, rfl⟩
    dsimp only
    rw [countsList_bumpCount, updAt_getElem?]
    simp only [eq_comm]
  · cases k with
    | zero => rfl
    | succ k => rw [releaseTimes_succ_eq present, markDirty_eq, if_neg (Nat.succ_ne_zero k)]
  · exact ⟨(dirtyOn_present_eq present).trans (markDirty_eq c), oweOn_present_eq present,
      raiseReturnIgnored_present_eq present, raiseWriteFault_window_eq present, raiseWriteFault_store_eq present⟩
  · obtain rfl : add = addTotal := by
      funext maximum n u
      exact is maximum n u
    exact ⟨rfl, rfl⟩

end Sys2Proof.Proofs
end

section
/-! SUPPORT. What each operation of the reporting unit makes of a sound channel (R162 to R173), and that every move
keeps the five channels sound. -/

namespace Sys2Proof.Proofs

open Sys2Proof Sys2Proof.Machine Sys2Proof.Laws

/-! ### Lists of counts (R163, R164) -/

theorem forall_mem_updAt {α : Type} {P : α → Prop} {f : α → α} {l : List α} (all : ∀ x ∈ l, P x)
    (keeps : ∀ x, P x → P (f x)) (i : Nat) : ∀ x ∈ updAt l i f, P x := fun x mem => by
  obtain ⟨j, found⟩ := List.mem_iff_getElem?.mp mem
  rw [updAt_getElem?] at found
  split at found
  · obtain ⟨y, before, rfl⟩ := Option.map_eq_some_iff.mp found
    exact keeps y (all y (List.mem_of_getElem? before))
  · exact all x (List.mem_of_getElem? found)

/-- R164: what lies below counts lies below them where one is raised. -/
theorem forall₂_le_updAt {a b : List Nat} {f : Nat → Nat} (below : List.Forall₂ (· ≤ ·) a b)
    (raises : ∀ n ∈ b, n ≤ f n) (i : Nat) : List.Forall₂ (· ≤ ·) a (updAt b i f) := by
  induction below generalizing i with
  | nil => exact .nil
  | @cons m n a b le rest ih =>
    cases i with
    | zero => exact .cons (le.trans (raises n List.mem_cons_self)) rest
    | succ i => exact .cons le (ih (fun n mem => raises n (List.mem_cons_of_mem _ mem)) i)

theorem zipWith_sub_bounded {a b : List Nat} {bound : Nat} (bounded : ∀ n ∈ a, n ≤ bound) :
    ∀ n ∈ List.zipWith (· - ·) a b, n ≤ bound := by
  induction a generalizing b with
  | nil => simp
  | cons m a ih =>
    cases b with
    | nil => simp
    | cons k b =>
      obtain ⟨first, rest⟩ := List.forall_mem_cons.mp bounded
      exact List.forall_mem_cons.mpr ⟨(Nat.sub_le m k).trans first, ih rest⟩

theorem countsBelow_refl (c : Counts) : countsBelow c c := List.forall₂_refl _

theorem countsBelow_zero (c : Counts) : countsBelow Counts.zero c := by
  simp [countsBelow, countsList, Counts.zero]

/-! ### One channel (R162 to R173) -/

section
variable {c d : Channel}

/-- The soundness of a channel looks at neither its flags, nor what it owes, nor what is in flight. -/
theorem channelSound_of_flags (h : ChannelSound c) (flags : d = { c with
    dirty := d.dirty
    owed := d.owed
    inFlight := d.inFlight
    returnIgnored := d.returnIgnored
    writeFault := d.writeFault }) : ChannelSound d := by
  rw [flags]
  exact ⟨h.protocol, h.tag, h.reported, h.releases, h.sweeps, h.counts, h.snapshot⟩

/-- R165: a channel that becomes dirty has 0 sweeps since dirty. -/
theorem markDirty_sound (h : ChannelSound c) : ChannelSound (markDirty c) := by
  unfold markDirty
  split
  · exact h
  · exact ⟨h.protocol, h.tag, h.reported, h.releases, Nat.zero_le _, h.counts, h.snapshot⟩

/-- R164: a raised count stops at 65,535, and stays at or above its snapshot. -/
theorem bumpCount_sound (h : ChannelSound c) (id : CountId) (n : Nat) :
    ChannelSound { c with counts := bumpCount id n c.counts } where
  protocol := h.protocol
  tag := h.tag
  reported := h.reported
  releases := h.releases
  sweeps := h.sweeps
  counts := by
    rw [countsList_bumpCount]
    exact forall_mem_updAt h.counts (fun k _ => Nat.min_le_left ..) _
  snapshot := by
    rw [countsBelow, countsList_bumpCount]
    exact forall₂_le_updAt h.snapshot (fun k mem => Nat.le_min.mpr ⟨h.counts k mem, Nat.le_add_right k n⟩) _

theorem countOn_sound (h : ChannelSound c) (id : CountId) (n : Nat) : ChannelSound (countOn id n c) := by
  unfold countOn
  split
  · exact markDirty_sound (bumpCount_sound h id n)
  · exact h

theorem releaseOn_sound (h : ChannelSound c) : ChannelSound (releaseOn c) := by
  unfold releaseOn
  split
  · exact markDirty_sound
      ⟨h.protocol, h.tag, h.reported, Nat.min_le_left .., h.sweeps, h.counts, h.snapshot⟩
  · exact h

theorem releaseTimes_sound (k : Nat) (h : ChannelSound c) : ChannelSound (releaseTimes k c) := by
  induction k generalizing c with
  | zero => exact h
  | succ k ih => exact ih (releaseOn_sound h)

theorem oweOn_sound (h : ChannelSound c) : ChannelSound (oweOn c) := by
  unfold oweOn
  split
  · exact channelSound_of_flags h rfl
  · exact h

theorem dirtyOn_sound (h : ChannelSound c) : ChannelSound (dirtyOn c) := by
  unfold dirtyOn
  split
  · exact markDirty_sound h
  · exact h

theorem raiseReturnIgnored_sound (h : ChannelSound c) : ChannelSound (raiseReturnIgnored c) := by
  unfold raiseReturnIgnored
  split
  · have told : ChannelSound (if c.returnIgnored = .clear then markDirty c else c) := by
      split
      · exact markDirty_sound h
      · exact h
    exact channelSound_of_flags told rfl
  · exact h

theorem raiseWriteFault_sound (isStore : Bool) (h : ChannelSound c) : ChannelSound (raiseWriteFault isStore c) := by
  unfold raiseWriteFault
  split
  · have told : ChannelSound (if c.writeFault = .clear then
        (if isStore then { c with owed := true } else markDirty c) else c) := by
      split
      · split
        · exact channelSound_of_flags h rfl
        · exact markDirty_sound h
      · exact h
    exact channelSound_of_flags told rfl
  · exact h

/-- R167: the snapshot that is taken is the counts themselves, and the reported tag is the next one. -/
theorem contentTaken_sound (h : ChannelSound c) : ChannelSound (contentTaken c) where
  protocol := h.protocol
  tag := h.tag
  reported := h.tag.2
  releases := Nat.zero_le _
  sweeps := Nat.zero_le _
  counts := h.counts
  snapshot := countsBelow_refl _

/-- R163: the tag after 255 is 1. -/
theorem tagAfter_range (t : Nat) : 1 ≤ tagAfter t ∧ tagAfter t ≤ 255 := by
  unfold tagAfter
  omega

/-- R169: an acknowledged channel is pending, whether it was armed before or pending. -/
theorem statusAcknowledged_sound (isStore okay : Bool) (h : ChannelSound c) :
    ChannelSound (statusAcknowledged isStore okay c) := by
  have pending : (c.armed || c.pending) = true := by
    rw [h.protocol]
    exact Bool.not_or_self _
  have acknowledged : ChannelSound { c with
      inFlight := false, pending := c.armed || c.pending, armed := false, nextTag := tagAfter c.nextTag } :=
    ⟨by simp [pending], tagAfter_range _, h.reported, h.releases, h.sweeps, h.counts, h.snapshot⟩
  unfold statusAcknowledged
  dsimp only
  split
  · exact acknowledged
  · exact raiseWriteFault_sound isStore acknowledged

/-- R172 to R174: a return word arms the channel; one that matches only reduces the counts. -/
theorem returnTaken_sound (tag : Nat) (h : ChannelSound c) : ChannelSound (returnTaken tag c) := by
  unfold returnTaken
  dsimp only
  split
  · exact ⟨rfl, h.tag, h.reported, h.releases, h.sweeps,
      zipWith_sub_bounded (b := countsList c.snapshot) h.counts, countsBelow_zero _⟩
  · split <;> exact ⟨rfl, h.tag, h.reported, h.releases, h.sweeps, h.counts, h.snapshot⟩

theorem sweepOn_sound (h : ChannelSound c) : ChannelSound (sweepOn c) := by
  unfold sweepOn
  split
  · exact ⟨h.protocol, h.tag, h.reported, h.releases, Nat.min_le_left .., h.counts, h.snapshot⟩
  · exact h

theorem channel_reset_sound (present : Bool) : ChannelSound (Channel.reset present) where
  protocol := rfl
  tag := by simp [Channel.reset]
  reported := Nat.zero_le _
  releases := Nat.zero_le _
  sweeps := Nat.zero_le _
  counts := by simp [Channel.reset, Counts.zero, countsList]
  snapshot := countsBelow_zero _

end

/-! ### The reporting unit -/

/-- From `s` to `t` a sound reporting unit stays sound. -/
def ChannelsKept (s t : State) : Prop := ChannelsSound s → ChannelsSound t

namespace ChannelsKept

variable {s t u : State} {fs : List Field}

theorem refl (s : State) : ChannelsKept s s := id

theorem trans (h : ChannelsKept s t) (k : ChannelsKept t u) : ChannelsKept s u := k ∘ h

theorem ite {p : Prop} [Decidable p] (h : ChannelsKept s t) (k : ChannelsKept s u) :
    ChannelsKept s (if p then t else u) := by split <;> assumption

theorem of_touches (h : Touches fs s t) (report : .report ∉ fs) : ChannelsKept s t := fun sound =>
  ⟨h.report report ▸ sound.count, h.report report ▸ sound.all_⟩

theorem andTouches (h : ChannelsKept s t) (k : Touches fs t u) (report : .report ∉ fs) :
    ChannelsKept s u := h.trans (of_touches k report)

/-- An update of one channel. -/
theorem onChannel {f : Channel → Channel} (keeps : ∀ {c}, ChannelSound c → ChannelSound (f c)) (ch : Nat) (s : State) :
    ChannelsKept s (onChannel ch f s) := fun sound =>
  ⟨(updAt_length _ _ _).trans sound.count, forall_mem_updAt sound.all_ (fun _ => keeps) ch⟩

/-- An update of every channel. -/
theorem onEvery {f : Channel → Channel} (keeps : ∀ {c}, ChannelSound c → ChannelSound (f c)) (s : State) :
    ChannelsKept s (onReport (fun r => r.map f) s) := fun sound =>
  ⟨(List.length_map _).trans sound.count, List.forall_mem_map.mpr fun c mem => keeps (sound.all_ c mem)⟩

end ChannelsKept

variable (s : State)

/-! ### Counts, dues and flags raised by the other blocks (R80, R144, R164) -/

theorem addCount_channels (w : Nat) (id : CountId) (n : Nat) : ChannelsKept s (addCount w id n s) :=
  .onChannel (fun sound => countOn_sound sound id n) w s

theorem oweStore_channels : ChannelsKept s (oweStore s) := .onChannel oweOn_sound 4 s

theorem keyChange_channels (f : KeyUnit → KeyUnit) : ChannelsKept s (keyChange f s) := by
  have changed := ChannelsKept.of_touches (onKeys_touches s f) (by decide)
  exact .ite (changed.trans (oweStore_channels _)) changed

theorem timeoutLane_channels (lane : Nat) : ChannelsKept s (timeoutLane lane s) :=
  .ite ((ChannelsKept.of_touches (onLane_touches s lane timeoutConfirm) (by decide)).trans (oweStore_channels _))
    (.refl s)

theorem silentLane_channels (lane : Nat) : ChannelsKept s (silentLane lane s) :=
  .ite ((ChannelsKept.of_touches (onLane_touches s lane silenceLane) (by decide)).trans (oweStore_channels _)) (.refl s)

theorem fillGap_channels (w : Nat) : ChannelsKept s (fillGap w s) := by
  have marked := (ChannelsKept.of_touches (setSlot_touches s w (slotOfIndex (windowSlots s w) (windowSlots s w).release)
    .writing) (by decide)).andTouches (onWindow_touches _ w fun t => { t with gapAge := 0 }) (by decide)
  have counted := marked.trans (addCount_channels _ w .expiredSkipped 1)
  exact .ite (counted.andTouches (offerEntry_touches _ _) (by decide)) (.refl s)

theorem takeSlotWrite_channels (sw : SlotWrite) : ChannelsKept s (takeSlotWrite sw s) := by
  unfold takeSlotWrite
  split
  · exact addCount_channels s _ _ _
  · exact .of_touches (mergeSlotWrite_touches s sw) (by decide)

theorem slotDone_channels (w slot : Nat) (okay : Bool) : ChannelsKept s (slotDone w slot okay s) := by
  have done := ChannelsKept.of_touches (setSlot_touches s w slot .done) (by decide)
  have counted := ChannelsKept.ite (p := okay = true) done (done.trans (addCount_channels _ w .writeFaults 1))
  exact (counted.andTouches (onWindow_touches _ w _) (by decide)).trans (.onChannel (releaseTimes_sound _) w _)

theorem storeFaultUnless_channels (okay : Bool) : ChannelsKept s (storeFaultUnless okay s) :=
  .ite (.refl s) (.onChannel (raiseWriteFault_sound true) 4 s)

theorem sweepStep_channels : ChannelsKept s (sweepStep s) := by
  have counted : ChannelsKept s { s with sweepCount := s.sweepCount + 1 } := fun sound => ⟨sound.count, sound.all_⟩
  exact (((counted.andTouches (onIntake_touches _ _) (by decide)).andTouches (onLanes_touches _ _) (by decide)).trans
    (.onEvery sweepOn_sound _)).andTouches (retryWrite_touches _) (by decide)

/-! ### Blocks, acknowledgements and return words (R166 to R174) -/

theorem reportChannel_channels (ch : Nat) : ChannelsKept s (reportChannel ch s) :=
  .ite (((ChannelsKept.onChannel contentTaken_sound ch s).andTouches (reportLanes_touches _ _) (by decide)).andTouches
    (offerEntry_touches _ _) (by decide)) (.refl s)

theorem writeBackAckStep_channels : ChannelsKept s (writeBackAckStep s) := by
  unfold writeBackAckStep
  split
  · next taken =>
    have acked := ChannelsKept.of_touches (takeAck_touches s taken) (by decide)
    exact (acked.andTouches (freeHold_touches _ _ _) (by decide)).trans (slotDone_channels _ _ _ _)
  · exact .refl s

theorem voidAckStep_channels : ChannelsKept s (voidAckStep s) := by
  unfold voidAckStep
  split
  · next taken =>
    exact (ChannelsKept.of_touches (takeAck_touches s taken) (by decide)).trans (slotDone_channels _ _ _ _)
  · exact .refl s

theorem statusAckStep_channels : ChannelsKept s (statusAckStep s) := by
  unfold statusAckStep
  split
  · next taken =>
    exact (ChannelsKept.of_touches (takeAck_touches s taken) (by decide)).trans
      (.onChannel (statusAcknowledged_sound _ _) _ _)
  · exact .refl s

theorem summaryAckStep_channels : ChannelsKept s (summaryAckStep s) := by
  unfold summaryAckStep
  split
  · next taken =>
    have acked := ChannelsKept.of_touches (takeAck_touches s taken) (by decide)
    split
    · exact (((acked.andTouches (onTotals_touches _ _) (by decide)).trans (.onChannel dirtyOn_sound 4 _)).trans
        (storeFaultUnless_channels _ _)).andTouches (giveResult_touches _ _) (by decide)
    · exact acked
  · exact .refl s

theorem resultAckStep_channels : ChannelsKept s (resultAckStep s) := by
  unfold resultAckStep
  split
  · next taken =>
    have acked := ChannelsKept.of_touches (takeAck_touches s taken) (by decide)
    exact ((acked.andTouches (onDirectives_touches _ _) (by decide)).trans (.onChannel dirtyOn_sound 4 _)).trans
      (storeFaultUnless_channels _ _)
  · exact .refl s

theorem handConsumed_channels (ch : Nat) (b : Beat) : ChannelsKept s (handConsumed ch b s) :=
  .ite (.refl s) (.ite (.of_touches (onWindow_touches s _ _) (by decide)) (.onChannel raiseReturnIgnored_sound ch s))

theorem returnStep_channels : ChannelsKept s (returnStep s) := by
  unfold returnStep
  split
  · exact .refl s
  · next r rest _ =>
    have taken : ChannelsKept s (onPath (fun p => { p with shownReturns := rest }) s) :=
      .of_touches (onPath_touches s _) (by decide)
    have handed := taken.trans (handConsumed_channels _ r.ch r.beat)
    exact .ite ((ChannelsKept.ite (handed.andTouches (onLanes_touches _ _) (by decide)) handed).trans
      (.onChannel (returnTaken_sound _) _ _)) taken

/-! ### Directives (R69, R70, R180, R181) -/

theorem startClose_channels (roll : Bool) : ChannelsKept s (startClose roll s) := by
  have rolled : ChannelsKept s (rollStep roll s) :=
    .ite ((keyChange_channels s _).andTouches (requestKeyWrite_touches _) (by decide)) (.refl s)
  exact (rolled.andTouches (onTotals_touches _ _) (by decide)).andTouches (requestWrite_touches _ _) (by decide)

theorem forgetOn_channels (lane : Nat) : ChannelsKept s (forgetOn lane s) := by
  have forgotten := ChannelsKept.of_touches (onLane_touches s lane forgetLane) (by decide)
  exact .ite forgotten (forgotten.trans (oweStore_channels _))

theorem laneDirective_channels (lane : Nat) {f : State → State} (effect : ∀ s, ChannelsKept s (f s)) :
    ChannelsKept s (laneDirective lane f s) := by
  have taken (r : Option DirectiveResult) := ChannelsKept.of_touches (takeDirective_touches s r) (by decide)
  exact .ite (taken _) ((taken _).trans (effect _))

theorem runDirective_channels (code : DirectiveCode) : ChannelsKept s (runDirective code s) := by
  have taken (r : Option DirectiveResult) := ChannelsKept.of_touches (takeDirective_touches s r) (by decide)
  have suspended (flag : Bool) (lane : Nat) (s : State) :=
    ChannelsKept.of_touches (onLane_touches s lane (setSuspended flag)) (by decide)
  cases code with
  | incomplete => exact taken _
  | unknown => exact taken _
  | statusNow => exact (taken _).trans (.onEvery oweOn_sound _)
  | laneSuspend => exact laneDirective_channels s _ (suspended true _)
  | laneResume => exact laneDirective_channels s _ (suspended false _)
  | laneForget => exact laneDirective_channels s _ fun s => forgetOn_channels s _
  | batchClose => exact (taken _).trans (startClose_channels _ _)

/-! ### The record in work (R90, R94, R101) -/

theorem reportDecision_channels (h : Hold) (d : Disposition) : ChannelsKept s (reportDecision h d s) := by
  have counted : ChannelsKept s (countOutcome h.window d s) := by
    unfold countOutcome
    split
    · exact addCount_channels s _ _ _
    · exact .refl s
  exact .ite (counted.andTouches (onLane_touches _ _ _) (by decide)) counted

theorem decideRecord_channels (h : Hold) (d : Disposition) (r : Reason) (output : List Byte) :
    ChannelsKept s (decideRecord h d r output s) :=
  (reportDecision_channels s h d).andTouches (onWork_touches _ _) (by decide)

theorem decideHeaderOnly_channels (h : Hold) (d : Disposition) (r : Reason) :
    ChannelsKept s (decideHeaderOnly h d r s) := decideRecord_channels s h d r _

theorem admissionStage_channels (h : Hold) (a : Admission) : ChannelsKept s (admissionStage h a s) := by
  unfold admissionStage
  split
  · exact decideHeaderOnly_channels s _ _ _
  · exact .ite (.of_touches (passTo_touches s _) (by decide)) (.of_touches (onWork_touches s _) (by decide))

theorem enrolmentStage_channels (h : Hold) : ChannelsKept s (enrolmentStage h s) := by
  have entered : ChannelsKept s (enterEnrolment (headerLane h) (enrolmentAnswer h s) s) := by
    have changed := ChannelsKept.of_touches (onLanes_touches s fun t => { t with
      entries := updAt t.entries (headerLane h) fun _ => (enrolmentAnswer h s).lane
      answerSerial := if (enrolmentAnswer h s).usedSerial then t.answerSerial + 1 else t.answerSerial }) (by decide)
    exact .ite (changed.trans (oweStore_channels _)) changed
  exact (entered.trans (reportDecision_channels _ _ _)).andTouches (onWork_touches _ _) (by decide)

theorem judgeStage_channels (h : Hold) (a : Option Admission) : ChannelsKept s (judgeStage h a s) := by
  have refused (d : Disposition) (r : Reason) := decideHeaderOnly_channels s h d r
  unfold judgeStage
  refine .ite (.ite (refused _ _) (refused _ _)) ?_
  split
  · exact refused _ _
  · refine .ite (decideRecord_channels s _ _ _ _) (.ite (refused _ _) (.ite (enrolmentStage_channels s h) ?_))
    split
    · exact admissionStage_channels s h _
    · exact .refl s

theorem unsealStage_channels (h : Hold) (a : Admission) (keys : List Byte × List Byte) :
    ChannelsKept s (unsealStage h a keys s) := by
  have formed (f : Work → Work) : ChannelsKept s (onWork f s) := .of_touches (onWork_touches s f) (by decide)
  exact .ite (decideHeaderOnly_channels s _ _ _)
    (.ite ((formed _).trans (decideHeaderOnly_channels _ _ _ _))
      ((formed _).andTouches (passTo_touches _ _) (by decide)))

theorem bodyStage_channels (h : Hold) (body : List Byte) : ChannelsKept s (bodyStage h body s) := by
  unfold bodyStage
  split
  · exact decideHeaderOnly_channels s _ _ _
  · exact .of_touches (passTo_touches s _) (by decide)

/-- R144: a hand-out that is key attention makes STORE owe a write. -/
theorem handOutToRecord_channels : ChannelsKept s (handOutToRecord s) := by
  have changed := keyChange_channels s handOutKey
  have told := ChannelsKept.ite (p := lastValue s.keys = true)
    (changed.andTouches (requestKeyWrite_touches _) (by decide)) changed
  exact told.andTouches (onWork_touches _ _) (by decide)

theorem concludeStage_channels (h : Hold) (body : List Byte) (c : Capture) (p : Products) :
    ChannelsKept s (concludeStage h body c p s) := by
  unfold concludeStage
  split
  · exact (ChannelsKept.of_touches (onWork_touches s _) (by decide)).trans (decideRecord_channels _ _ _ _ _)
  · exact .refl s

theorem runStage_channels (h : Hold) (w : Work) : ChannelsKept s (runStage h w s) := by
  have refused (d : Disposition) (r : Reason) := decideHeaderOnly_channels s h d r
  unfold runStage
  split
  · exact judgeStage_channels s h _
  · exact .of_touches (resultStage_touches s h w) (by decide)
  · exact .ite (.of_touches (onWork_touches s _) (by decide)) (refused _ _)
  · exact unsealStage_channels s h _ _
  · exact bodyStage_channels s h _
  · exact .ite (refused _ _)
      (.ite (handOutToRecord_channels s) (.of_touches (waitForReservation_touches s) (by decide)))
  · exact .of_touches (computeStage_touches s h _ _) (by decide)
  · exact .of_touches (totalsStage_touches s h _ _) (by decide)
  · exact concludeStage_channels s h _ _ _
  · exact .refl s

theorem stageStep_channels : ChannelsKept s (stageStep s) := by
  unfold stageStep
  split
  · split
    · exact runStage_channels s _ _
    · exact .refl s
  · exact .refl s

/-! ### Store writes and frames (R102, R133, R136, R145) -/

theorem endWaiting_channels (r : Reason) (h : Hold) : ChannelsKept s (endWaiting r h s) :=
  (ChannelsKept.of_touches (onKeys_touches s _) (by decide)).trans (decideHeaderOnly_channels _ _ _ _)

theorem judgeWaiting_channels (completed : Bool) : ChannelsKept s (judgeWaiting completed s) := by
  unfold judgeWaiting
  refine .ite (.refl s) ?_
  split
  · exact .refl s
  · exact .ite (endWaiting_channels s _ _) (.ite (endWaiting_channels s _ _) (.ite (handOutToRecord_channels s)
      (.of_touches (requestWrite_touches s _) (by decide))))

theorem keyWriteEnded_channels (r : Option Reservation) (forPort completed : Bool) :
    ChannelsKept s (keyWriteEnded r forPort completed s) := by
  have changed := keyChange_channels s (endKeyWrite completed r)
  have told := ChannelsKept.ite (p := forPort)
    (changed.andTouches (portOutcome_touches _ completed) (by decide)) changed
  exact .ite (told.trans (judgeWaiting_channels _ _)) told

theorem endStoreWrite_channels (completed : Bool) : ChannelsKept s (endStoreWrite completed s) := by
  unfold endStoreWrite
  split
  · next w _ =>
    refine (ChannelsKept.of_touches (onNv_touches s (endWriting w completed)) (by decide)).trans ?_
    cases w with
    | keyStore _ r forPort => exact keyWriteEnded_channels _ r forPort completed
    | batchNumber _ => exact .of_touches (numberWritten_touches _ completed) (by decide)
    | imageGroup _ _ => exact .of_touches (portOutcome_touches _ completed) (by decide)
    | imageLock => exact .of_touches (portOutcome_touches _ completed) (by decide)
    | erase => exact keyWriteEnded_channels _ none true completed
  · exact .refl s

theorem loadKeyFrame_channels (clocked : List Byte) : ChannelsKept s (loadKeyFrame clocked s) := by
  have answered (a : List Byte) := ChannelsKept.of_touches (answerFrame_touches s (frameBytes clocked) a) (by decide)
  have accepted (p : LoadPayload) (u : State) : ChannelsKept u (acceptLoad p u) :=
    ((keyChange_channels u _).andTouches (requestWrite_touches _ _) (by decide)).andTouches
      (holdOutstanding_touches _) (by decide)
  exact .ite ((answered _).trans (accepted _ _)) (answered _)

theorem eraseFrame_channels (clocked : List Byte) : ChannelsKept s (eraseFrame clocked s) := by
  have erased (u : State) : ChannelsKept u (eraseStep u) := by
    have k := ((ChannelsKept.of_touches (onNv_touches u voidReservations) (by decide)).andTouches
      (onKeys_touches _ eraseKeys) (by decide)).trans (oweStore_channels _)
    unfold eraseStep
    dsimp only
    split
    · exact k.trans (endWaiting_channels _ _ _)
    · exact k
  exact (((ChannelsKept.of_touches (answerFrame_touches s _ _) (by decide)).trans (erased _)).andTouches
    (requestWrite_touches _ _) (by decide)).andTouches (holdOutstanding_touches _) (by decide)

/-- R144, R145: of the frames a LOAD_KEY and an ERASE reach the channels. -/
theorem takeFrame_channels (bytes : List Byte) : ChannelsKept s (takeFrame bytes s) := by
  have answered (n : Nat) (a : List Byte) := ChannelsKept.of_touches (answerFrame_touches s n a) (by decide)
  have judged (wanted : Nat) (length : Byte) (clocked : List Byte) {act : State → State}
      (acts : ChannelsKept s (act s)) : ChannelsKept s (judgedFrame wanted length clocked act s) := by
    unfold judgedFrame
    split
    · exact answered _ _
    · exact acts
  unfold takeFrame
  refine .ite (.refl s) (.ite ?_ (.of_touches (onPort_touches s _) (by decide)))
  unfold actOnFrame
  split
  · next command length clocked =>
    unfold actOnCommand
    refine .ite (answered _ _) ?_
    split
    · exact judged _ _ _ (answered _ _)
    · exact judged _ _ _ (loadKeyFrame_channels s _)
    · exact .of_touches (loadImageFrame_touches s _ _) (by decide)
    · exact judged _ _ _ (.of_touches (lockFrame_touches s _) (by decide))
    · exact judged _ _ _ (eraseFrame_channels s _)
    · exact answered _ _
  · exact answered _ _

/-! ### The moves -/

/-- R162, R166: at the end of start-up each channel is as after a reset, but that it may owe a write. -/
theorem startBlocks_channels : ChannelsSound (startBlocks s) where
  count := by simp [startBlocks, startChannels]
  all_ := List.forall_mem_map.mpr fun _ _ => oweOn_sound (channel_reset_sound _)

variable {s}

/-- The moves that reach the channels, each; a reset leaves none that exists (R162). -/
theorem Move.channels {c : Instr} {fs : List Field} {t : State} (move : Move c fs s t) : ChannelsKept s t := by
  have kept := move.touches
  cases move with
  | gap => exact fillGap_channels s _
  | timeout lane => exact timeoutLane_channels s lane
  | silent lane => exact silentLane_channels s lane
  | report => exact reportChannel_channels s _
  | directive => exact runDirective_channels s _
  | slotWrite sw => exact takeSlotWrite_channels s sw
  | returnWord => exact returnStep_channels s
  | writeBackAck => exact writeBackAckStep_channels s
  | voidAck => exact voidAckStep_channels s
  | statusAck => exact statusAckStep_channels s
  | summaryAck => exact summaryAckStep_channels s
  | resultAck => exact resultAckStep_channels s
  | stage => exact stageStep_channels s
  | sweep => exact sweepStep_channels s
  | frame bytes => exact takeFrame_channels s bytes
  | storeEnd => exact endStoreWrite_channels s _
  | reset =>
    exact fun _ => ⟨rfl, fun c mem => (List.eq_of_mem_replicate mem : c = Channel.reset false) ▸ channel_reset_sound _⟩
  | start => exact fun _ => startBlocks_channels s
  | _ => exact .of_touches kept (by decide)

/-- Settles O56: every move keeps the channels sound, and no queue of commands enters into it. -/
theorem channelsStaySound : Obligations.ChannelsStaySound := fun _ _ sound run =>
  step_keeps (fun _ _ _ _ move => move.channels) (fun _ _ sound => ⟨sound.count, sound.all_⟩) run sound

end Sys2Proof.Proofs
end

section
/-! SUPPORT. The issue test and the block that it issues, in full, and the two commands of status writes (R9, R81, R166
to R168). -/

namespace Sys2Proof.Proofs

open Sys2Proof Sys2Proof.Machine Sys2Proof.Laws

variable {s : State} {ch : Nat}

/-! ### The taking of a block's content (R81, R167) -/

theorem reportCondition_eq (c : Condition) : reportCondition c = if c = .pending then .reported else c := by
  cases c <;> rfl

theorem contentTaken_eq (c : Channel) : contentTaken c = { c with
    snapshot := c.counts
    reportedTag := c.nextTag
    returnIgnored := if c.returnIgnored = .pending then .reported else c.returnIgnored
    writeFault := if c.writeFault = .pending then .reported else c.writeFault
    dirty := false
    owed := false
    releases := 0
    sweeps := 0
    inFlight := true } := by
  simp only [contentTaken, reportCondition_eq]

theorem reportLane_eq (l : Lane) : reportLane l = { l with
    enrolment := if l.enrolment = .pending then .reported else l.enrolment
    fault := if l.fault = .pending then .reported else l.fault
    silent := if l.silent = .pending then .reported else l.silent } := by
  simp only [reportLane, reportCondition_eq]

/-- R81: a STORE block reports every lane, and a window's block none. -/
theorem reportLanes_eq (ch : Nat) (s : State) : reportLanes ch s = { s with
    lanes := if ch = 4 then { s.lanes with entries := s.lanes.entries.map reportLane } else s.lanes } := by
  unfold reportLanes
  split <;> rfl

/-- R166 to R168: what issuing a channel's block leaves, in full. -/
theorem issueStatus_eq (ch : Nat) (s : State) : issueStatus ch s = blockIssued s ch := by
  rw [issueStatus, offerEntry_eq rfl, reportLanes_eq, funext contentTaken_eq, funext reportLane_eq]
  rfl

/-! ### The issue test (R166) -/

theorem coalesceReached_iff {cfg : Settings} {c : Channel} : coalesceReached cfg ch c = true ↔
    c.dirty = true ∧ (if ch = 4 then cfg.storeCoalesceTime else cfg.coalesceTime) ≤ c.sweeps := by
  rw [coalesceReached, Bool.and_eq_true, decide_eq_true_iff]
  rfl

theorem issueDue_iff : issueDue s.settings ch (channelAt s ch) = true ↔ ChannelDue s ch := by
  simp [issueDue, ChannelDue, coalesceReached_iff, and_assoc, or_assoc]

theorem issueDue_eq_false_iff : issueDue s.settings ch (channelAt s ch) = false ↔ ¬ChannelDue s ch := by
  rw [← issueDue_iff, Bool.not_eq_true]

theorem reportChannel_due_eq (due : ChannelDue s ch) : reportChannel ch s = blockIssued s ch := by
  rw [reportChannel, if_pos (issueDue_iff.mpr due), issueStatus_eq]

theorem reportChannel_not_due (idle : ¬ChannelDue s ch) : reportChannel ch s = s :=
  reportChannel_of (issueDue_eq_false_iff.mpr idle)

/-- R166: the third case of the issue test alone. -/
theorem coalesceStep_reached (due : ChannelDue s ch) (reached : coalesceReached s.settings ch (channelAt s ch) = true) :
    coalesceStep ch s = blockIssued s ch := by
  rw [coalesceStep, if_pos (by rw [issueDue_iff.mpr due, reached]; rfl), issueStatus_eq]

theorem coalesceStep_of (still : ¬ChannelDue s ch ∨ ¬coalesceReached s.settings ch (channelAt s ch) = true) :
    coalesceStep ch s = s := by
  refine if_neg ?_
  rw [Bool.and_eq_true, issueDue_iff]
  exact fun ⟨due, reached⟩ => still.elim (· due) (· reached)

/-! ### What a sweep leaves due (R29, R31, R66, R78) -/

theorem nextExpiring_isSome : (nextExpiring s).isSome = true ↔
    ∃ h ∈ s.intake.holds, slotState s h.window h.slot = some .filling ∧
      s.settings.holdExpiry ≤ (s.sweepCount - h.openedAt).toNat := by
  rw [Option.isSome_iff_ne_none, ne_eq, nextExpiring, leastBy_eq_none, List.filter_eq_nil_iff]
  simp only [holdExpiring_iff]
  push Not
  rfl

theorem sweepPending_iff : sweepPending s = true ↔
    (∃ h ∈ s.intake.holds, slotState s h.window h.slot = some .filling ∧
      s.settings.holdExpiry ≤ (s.sweepCount - h.openedAt).toNat) ∨
    (∃ w < 4, ∃ t, t = windowSlots s w ∧ s.settings.holdExpiry ≤ t.gapAge ∧
      t.slots[t.release.toNat % t.slots.length]? = some .free) ∨
    ∃ lane < 48, ((laneAt s lane).state = .confirming ∧ (laneAt s lane).deadline = some s.sweepCount) ∨
      (laneAt s lane).silentDue = true := by
  simp only [sweepPending, Bool.or_eq_true, nextExpiring_isSome, List.any_eq_true, List.mem_range, gapDue_iff,
    confirmExpired_iff, exists_eq_left, or_assoc]
  rfl

/-! ### The two commands (R9, R166) -/

theorem exec_statusWriteIssue (ch : ChannelId) (s : State) : exec (.statusWriteIssue ch) s =
    .next (issueStep (isStatusOf ch)
      (fun s => reportChannel ch (forBelow ch reportChannel (whenRunning settleSweep s))) s) := rfl

theorem exec_coalesceTime (ch : ChannelId) (s : State) : exec (.coalesceTime ch) s =
    .next (coalesceStep ch (forBelow ch reportChannel (whenRunning settleSweep s))) := rfl

/-- R166: the issue tests leave the coalesce times as they are. -/
theorem forBelow_reportChannel_settings (n : Nat) (s : State) : (forBelow n reportChannel s).settings = s.settings :=
  (forBelow_touches s n _ fun ch s => reportChannel_touches s ch).settings (by decide)

/-- Settles O26: the test by `issueDue_iff`, the block by `issueStatus_eq`, the commands by the steps they are. -/
theorem dueChannelsIssueTheirBlocks : Obligations.DueChannelsIssueTheirBlocks := by
  refine ⟨fun s ch => ⟨reportChannel_due_eq, reportChannel_not_due⟩, fun s => ⟨fun running => ?_, fun closed => ?_, rfl,
    sweepPending_iff⟩, fun s ch e rest waiting room kind => ?_, fun s u ch done before => ?_⟩
  · exact whenRunning_running _ running
  · exact whenRunning_closed _ closed
  · rw [exec_statusWriteIssue, issueStep_cons _ waiting room (by simp [isStatusOf, kind]),
      addEntry_eq (by rw [kind]; rfl)]
    rfl
  · have tests : forBelow ch reportChannel (whenRunning settleSweep s) = u := by
      rw [whenRunning_settleSweep_of done, before]
      rfl
    have settings : u.settings = s.settings := by
      rw [before]
      exact forBelow_reportChannel_settings ch s
    have store : (ch.val = 4) = (ch = 4) := propext (Fin.ext_iff (b := 4)).symm
    rw [exec_coalesceTime, tests]
    refine ⟨fun turn => ?_, fun idle => ?_, fun due dirty reached => ?_, fun still => ?_⟩
    · have none : ∀ e ∈ s.path.waiting.head?, isStatusOf ch e.kind = false ∨ 32 ≤ s.path.queue.length := fun e head =>
        (turn e head).imp_left fun other => by simpa [isStatusOf] using other
      rw [exec_statusWriteIssue, issueStep_of none, tests]
    · rw [before]
      exact forBelow_of fun v below => reportChannel_not_due (idle v below)
    · rw [coalesceStep_reached due]
      rw [coalesceReached_iff, settings]
      simp only [store]
      exact ⟨dirty, reached⟩
    · rw [coalesceStep_of]
      rw [coalesceReached_iff, settings]
      simp only [store]
      obtain idle | clean | early := still
      · exact .inl idle
      · exact .inr fun both => by simp [clean] at both
      · exact .inr fun both => by omega

end Sys2Proof.Proofs
end

section
/-! SUPPORT. What a return word acknowledges, in its channel and, for STORE, in the lane table (R82, R172 to R174). -/

namespace Sys2Proof.Proofs

open Sys2Proof Sys2Proof.Machine Sys2Proof.Laws

variable {s : State} {b : Beat} {rest : List ShownReturn} {tag : Nat} {c : Channel}

/-! ### The channel (R172 to R174) -/

theorem tagMatches_iff : tagMatches tag c = true ↔ tag = c.reportedTag ∧ c.reportedTag ≠ 0 := by
  simp [tagMatches]

theorem acknowledgeCondition_eq (c : Condition) : acknowledgeCondition c = if c = .reported then .clear else c := by
  cases c <;> rfl

/-- Of the three conditions only PENDING outlives an acknowledgement. -/
theorem acknowledgeCondition_eq_pending (c : Condition) :
    acknowledgeCondition c = if c = .pending then .pending else .clear := by
  cases c <;> rfl

/-- R173: the tag of the content that was last taken. -/
theorem returnTaken_matching (names : tag = c.reportedTag ∧ c.reportedTag ≠ 0) : returnTaken tag c = { c with
    pending := false
    armed := true
    counts := reduceCounts c.counts c.snapshot
    snapshot := ⟨0, 0, 0, 0, 0, 0, 0, 0, 0⟩
    returnIgnored := if c.returnIgnored = .pending then .pending else .clear
    writeFault := if c.writeFault = .pending then .pending else .clear } := by
  rw [returnTaken, if_pos (tagMatches_iff.mpr names), acknowledgeCondition_eq_pending,
    acknowledgeCondition_eq_pending]
  rfl

/-- R174: any other tag. -/
theorem returnTaken_stale (stale : ¬(tag = c.reportedTag ∧ c.reportedTag ≠ 0)) : returnTaken tag c = { c with
    pending := false
    armed := true
    owed := c.owed || c.dirty } := by
  rw [returnTaken, if_neg (mt tagMatches_iff.mp stale)]
  cases dirty : c.dirty <;> simp

/-! ### STORE (R82) -/

theorem acknowledgeLane_eq (l : Lane) : acknowledgeLane l = { l with
    enrolment := if l.enrolment = .reported then .clear else l.enrolment
    fault := if l.fault = .reported then .clear else l.fault
    silent := if l.silent = .reported then .clear else l.silent
    latch := if l.silent = .reported then false else l.latch } := by
  simp only [acknowledgeLane, acknowledgeCondition_eq]

/-- R82: a STORE return word whose tag matches reaches the lanes. -/
theorem takeReturn_store_matching
    (names : beatNat b 0 1 = (channelAt s 4).reportedTag ∧ (channelAt s 4).reportedTag ≠ 0) :
    takeReturn 4 b s = onChannel 4 (returnTaken (beatNat b 0 1)) (acknowledgeLanes s) :=
  congrArg (onChannel 4 _) (if_pos ⟨rfl, tagMatches_iff.mpr names⟩)

/-- R82: any other reaches none. -/
theorem takeReturn_store_stale
    (stale : ¬(beatNat b 0 1 = (channelAt s 4).reportedTag ∧ (channelAt s 4).reportedTag ≠ 0)) :
    takeReturn 4 b s = onChannel 4 (returnTaken (beatNat b 0 1)) s :=
  congrArg (onChannel 4 _) (if_neg fun both => stale (tagMatches_iff.mp both.2))

/-- Settles O15: the channel by the two cases of `returnTaken`, STORE by `takeReturn_store_matching` and
`takeReturn_store_stale`. -/
theorem returnWordsAcknowledgeTheBlock : Obligations.ReturnWordsAcknowledgeTheBlock := by
  refine ⟨fun c tag => ⟨fun same named => returnTaken_matching ⟨same, named⟩, fun stale => returnTaken_stale ?_⟩,
    countsList_reduceCounts, fun s b rest quiet shown full present => ?_⟩
  · exact fun both => stale.elim (· both.1) both.2
  · have run : exec .returnWord s = .next (reportDue (takeReturn 4 b (withReturns rest s))) := by
      rw [exec_returnWord quiet, returnStep_shown shown, if_pos ⟨full, present⟩]
    refine ⟨fun names => ?_, fun stale => ?_⟩
    · rw [run, takeReturn_store_matching (s := withReturns rest s) names, acknowledgeLanes,
        funext acknowledgeLane_eq]
      rfl
    · rw [run, takeReturn_store_stale (s := withReturns rest s) stale]
      rfl

end Sys2Proof.Proofs
end

section
/-! SUPPORT. The index word and the beats of the directive ring, in full (R51, R177, R178). -/

namespace Sys2Proof.Proofs

open Sys2Proof Sys2Proof.Machine Sys2Proof.Laws

variable {s : State} {offset : Nat} {b : Beat} {rest : List ShownBeat}

/-- The shown directive beats that are left when one is taken. -/
def withDirectiveBeats (rest : List ShownBeat) (s : State) : State :=
  onPath (fun p => { p with shownDirectives := rest }) s

/-! ### The index word (R51, R178) -/

theorem exec_directiveIndexWord (quiet : Quiet s) : exec .directiveIndexWord s = .next (indexStep s) :=
  congrArg Host.Outcome.next (event_of_kept quiet (indexStep_touches s))

theorem producerFor_eq (d : DirectiveUnit) (p : BitVec 16) : producerFor d p =
    if p - d.done = 0 ∧ d.inProgress.isSome = true then d.done + 1
    else if (p - d.done).toNat ≤ 16 then p else d.done + 16 := by
  simp only [producerFor, sub_eq_zero, and_comm]

/-- R51, R178: a shown index word is taken, and acts with all strobes set. -/
theorem indexStep_shown (shown : s.path.shownDirectives = ⟨0x2A8, b⟩ :: rest) : indexStep s =
    onDirectives (fun d => { d with
      producer := if b.strobes ≠ 255 then d.producer else producerFor d (BitVec.ofNat 16 (beatNat b 0 2)) })
      (withDirectiveBeats rest s) := by
  unfold indexStep
  rw [shown]
  simp only [if_true, beatFull_iff, ne_eq, ite_not]
  split <;> rfl

theorem indexStep_other (other : ∀ x ∈ s.path.shownDirectives.head?, x.offset ≠ 0x2A8) : indexStep s = s := by
  unfold indexStep
  split
  · next shown =>
    rw [shown] at other
    exact if_neg (other _ rfl)
  · rfl

/-! ### The ring (R177) -/

theorem exec_directiveSlotWrite (quiet : Quiet s) : exec .directiveSlotWrite s = .next (captureStep s) :=
  congrArg Host.Outcome.next (event_of_kept quiet (captureStep_touches s))

/-- R177: a shown beat of the ring enters the capture of its slot. -/
theorem captureStep_shown (shown : s.path.shownDirectives = ⟨offset, b⟩ :: rest) (ring : 0x400 ≤ offset) :
    captureStep s =
      onDirectives (fun d => { d with captures := updAt d.captures (ringSlotOf offset) (captureBeat offset b) })
        (withDirectiveBeats rest s) := by
  unfold captureStep
  rw [shown]
  exact if_neg (by omega)

theorem captureStep_other (other : ∀ x ∈ s.path.shownDirectives.head?, x.offset = 0x2A8) : captureStep s = s := by
  unfold captureStep
  split
  · next shown =>
    rw [shown] at other
    exact if_pos (other _ rfl)
  · rfl

theorem updAt_getD {α : Type} {l : List α} {i j : Nat} (inside : j < l.length) (f : α → α) (d : α) :
    (updAt l i f).getD j d = if i = j then f (l.getD j d) else l.getD j d := by
  simp only [List.getD_eq_getElem?_getD, updAt_getElem?, List.getElem?_eq_getElem inside]
  split <;> rfl

/-- R177: a capture takes the strobed bytes of a beat at their places, as a hold does. -/
theorem captureBeat_getD (c : List (Option Byte)) {i : Nat} (inside : i < c.length) :
    (captureBeat offset b c).getD i none =
      if (offset - 0x400) % 32 ≤ i ∧ i < (offset - 0x400) % 32 + 8 ∧
        beatStrobe b (i - (offset - 0x400) % 32) = true then some (beatByte b (i - (offset - 0x400) % 32))
      else c.getD i none := by
  rw [List.getD_eq_getElem?_getD, List.getD_eq_getElem?_getD]
  change ((mergeBeat c ((offset - 0x400) % 32, b))[i]?).getD none = _
  rw [mergeBeat_getElem? c _ b inside]
  split <;> rfl

/-- R177: after a beat of the ring each byte of each capture: those of the beat that are strobed are its own, and every
other stays. -/
theorem captures_after_beat {captures : List (List (Option Byte))} (sixteen : captures.length = 16)
    (bytes : ∀ c ∈ captures, c.length = 32) (ring : 0x400 ≤ offset) (aligned : offset % 8 = 0) {slot i : Nat}
    (listed : slot < 16) (inside : i < 32) :
    ((updAt captures (ringSlotOf offset) (captureBeat offset b)).getD slot []).getD i none =
      if 0x400 + 32 * slot + i < offset ∨ offset + 8 ≤ 0x400 + 32 * slot + i then (captures.getD slot []).getD i none
      else if beatStrobe b (0x400 + 32 * slot + i - offset) then
        some (beatByte b (0x400 + 32 * slot + i - offset))
      else (captures.getD slot []).getD i none := by
  have within : slot < captures.length := by omega
  have size : (captures.getD slot []).length = 32 := by
    rw [List.getD_eq_getElem _ _ within]
    exact bytes _ (List.getElem_mem within)
  rw [updAt_getD within, ringSlotOf]
  split
  · next here =>
    have place : 0x400 + 32 * slot + i - offset = i - (offset - 0x400) % 32 := by omega
    rw [captureBeat_getD _ (by omega), place]
    by_cases outside : 0x400 + 32 * slot + i < offset ∨ offset + 8 ≤ 0x400 + 32 * slot + i
    · rw [if_pos outside, if_neg (by omega)]
    · rw [if_neg outside]
      have low : (offset - 0x400) % 32 ≤ i ∧ i < (offset - 0x400) % 32 + 8 := by omega
      simp only [low, true_and]
  · next elsewhere => rw [if_pos (by omega)]

/-- Settles O16: the index word by `indexStep_shown`, the beats of the ring by `captures_after_beat`. -/
theorem directiveBeatsAreTaken : Obligations.DirectiveBeatsAreTaken := by
  refine ⟨fun s b rest quiet shown => ?_, fun s quiet other => ?_,
    fun s offset b rest quiet shown low high aligned sixteen bytes => ?_, fun s quiet other => ?_⟩
  · rw [exec_directiveIndexWord quiet, indexStep_shown shown]
    simp only [producerFor_eq]
    rfl
  · rw [exec_directiveIndexWord quiet, indexStep_other other]
  · have step := captureStep_shown shown low
    refine ⟨captureStep s, exec_directiveSlotWrite quiet, fun slot listed i inside => ?_, ?_⟩
    · rw [step]
      exact captures_after_beat sixteen bytes low aligned listed inside
    · rw [step]
      rfl
  · rw [exec_directiveSlotWrite quiet, captureStep_other other]

end Sys2Proof.Proofs
end

section
/-! SUPPORT. The acknowledgements of status blocks, of the batch summary and of directive results, in full (R12, R157,
R158, R169, R170, R179). -/

namespace Sys2Proof.Proofs

open Sys2Proof Sys2Proof.Machine Sys2Proof.Laws

variable {s : State} {ch : Nat} {okay : Bool} {before after : List Ack}

/-! ### Taking an acknowledgement (R11) -/

theorem takeFirst_none {α : Type} {p : α → Bool} {l : List α} (miss : ∀ x ∈ l, p x = false) : takeFirst p l = none := by
  induction l with
  | nil => rfl
  | cons x l ih =>
    obtain ⟨first, others⟩ := List.forall_mem_cons.mp miss
    simp [takeFirst, first, ih others]

theorem takeAck_none {p : EntryKind → Bool} (miss : ∀ a ∈ s.path.acks, p a.kind = false) : takeAck p s = none := by
  rw [takeAck, takeFirst_none miss]
  rfl

/-- With no acknowledgement of its kind delivered, none of the five takings does anything. -/
theorem ackSteps_of_none :
    ((∀ a ∈ s.path.acks, isWriteBack a.kind = false) → writeBackAckStep s = s) ∧
    ((∀ a ∈ s.path.acks, isVoid a.kind = false) → voidAckStep s = s) ∧
    ((∀ a ∈ s.path.acks, isStatus a.kind = false) → statusAckStep s = s) ∧
    ((∀ a ∈ s.path.acks, isSummary a.kind = false) → summaryAckStep s = s) ∧
    ((∀ a ∈ s.path.acks, isResult a.kind = false) → resultAckStep s = s) := by
  refine ⟨fun none => ?_, fun none => ?_, fun none => ?_, fun none => ?_, fun none => ?_⟩
  · rw [writeBackAckStep, takeAck_none none]
  · rw [voidAckStep, takeAck_none none]
  · rw [statusAckStep, takeAck_none none]
  · rw [summaryAckStep, takeAck_none none]
  · rw [resultAckStep, takeAck_none none]

/-- An event that does nothing in a quiet state leaves it as it is. -/
theorem event_of_idle {f : State → State} (quiet : Quiet s) (idle : f s = s) : event f s = s := by
  rw [event_of f quiet, idle, reportDue_of (quiet_reports quiet).2]

/-! ### The status write (R163, R169, R170) -/

theorem updAt_congr {α : Type} {l : List α} {i : Nat} {f g : α → α} (same : ∀ x, l[i]? = some x → f x = g x) :
    updAt l i f = updAt l i g := by
  refine List.ext_getElem? fun j => ?_
  rw [updAt_getElem?, updAt_getElem?]
  split
  · next here =>
    subst here
    exact Option.map_congr fun x found => same x found
  · rfl

/-- R163, R169: what the acknowledgement makes of the channel, armed or pending before. -/
theorem statusAcknowledged_eq {c : Channel} (protocol : c.armed = !c.pending) (isStore okay : Bool) :
    statusAcknowledged isStore okay c = (if okay then id else raiseWriteFault isStore) { c with
      inFlight := false
      pending := true
      armed := false
      nextTag := c.nextTag % 255 + 1 } := by
  have pending : (c.armed || c.pending) = true := by
    rw [protocol]
    exact Bool.not_or_self _
  unfold statusAcknowledged
  dsimp only
  rw [pending]
  cases okay <;> rfl

theorem raiseWriteFault_pending (isStore : Bool) (c : Channel) : (raiseWriteFault isStore c).pending = c.pending := by
  unfold raiseWriteFault
  split
  · split
    · cases isStore <;> simp [markDirty_eq]
    · rfl
  · rfl

theorem statusAckStep_append (acks : s.path.acks = before ++ ⟨.statusBlock ch, okay⟩ :: after)
    (none : ∀ a ∈ before, isStatus a.kind = false) :
    statusAckStep s = onChannel ch (statusAcknowledged (ch == 4) okay) (withAcks (before ++ after) s) := by
  rw [statusAckStep, takeAck_append acks none rfl]

/-- R170: the interrupt line is asserted when a channel that there is becomes pending. -/
theorem interruptLine_updAt {report : List Channel} {f : Channel → Channel} (inside : ch < report.length)
    (pending : ∀ c, (f c).pending = true) : interruptLine (updAt report ch f) = true := by
  refine List.any_eq_true.mpr ⟨f report[ch], List.mem_of_getElem? (i := ch) ?_, pending _⟩
  rw [updAt_getElem?, if_pos rfl, List.getElem?_eq_getElem inside, Option.map_some]

/-! ### The summary and the result (R12, R157, R179) -/

/-- R12: STORE becomes dirty, and its WRITE_FAULT is raised by an ERROR. -/
theorem storeFaultUnless_dirtyOn (okay : Bool) (s : State) : storeFaultUnless okay (onChannel 4 dirtyOn s) =
    onChannel 4 (fun ch => if okay then dirtyOn ch else raiseWriteFault true (dirtyOn ch)) s := by
  cases okay with
  | true => rfl
  | false =>
    simp only [storeFaultUnless, onChannel, onReport, updAt_updAt, Bool.false_eq_true, if_false]
    rfl

/-- R157: the summary's acknowledgement ends the close with its result. -/
theorem summaryAckStep_append {c : Close} (acks : s.path.acks = before ++ ⟨.summary, okay⟩ :: after)
    (none : ∀ a ∈ before, isSummary a.kind = false) (close : s.totals.close = some c) :
    summaryAckStep s = giveResult (closeResult c)
      (onChannel 4 (fun ch => if okay then dirtyOn ch else raiseWriteFault true (dirtyOn ch))
        (onTotals (summaryWritten c) (withAcks (before ++ after) s))) := by
  have closing : (withAcks (before ++ after) s).totals.close = some c := close
  rw [summaryAckStep, takeAck_append acks none rfl]
  simp only [closing, storeFaultUnless_dirtyOn]

/-- R179: the result's acknowledgement ends the directive. -/
theorem resultAckStep_append (acks : s.path.acks = before ++ ⟨.directiveResult, okay⟩ :: after)
    (others : ∀ a ∈ before, isResult a.kind = false) :
    resultAckStep s = onChannel 4 (fun ch => if okay then dirtyOn ch else raiseWriteFault true (dirtyOn ch))
      (onDirectives (fun d => { d with done := d.done + 1, inProgress := none })
        (withAcks (before ++ after) s)) := by
  rw [resultAckStep, takeAck_append acks others rfl]
  exact storeFaultUnless_dirtyOn okay _

/-- Settles O18: each acknowledgement by the step it is, and none by `ackSteps_of_none`. -/
theorem reportingAcknowledgementsAreTaken : Obligations.ReportingAcknowledgementsAreTaken := by
  refine ⟨fun s ch okay before after quiet acks none inside protocol => ⟨_, rfl, ?_, ?_⟩,
    fun s okay before after c quiet acks none close => ?_, fun s okay before after quiet acks none => ?_,
    fun s c mine quiet listed none => ?_⟩
  · refine interruptLine_updAt inside fun c => ?_
    cases okay with
    | true => rfl
    | false => exact raiseWriteFault_pending _ _
  · have channel : updAt s.report ch (statusAcknowledged (ch == 4) okay) = updAt s.report ch fun c =>
        (if okay then id else raiseWriteFault (ch == 4)) { c with
          inFlight := false
          pending := true
          armed := false
          nextTag := c.nextTag % 255 + 1 } :=
      updAt_congr fun c found => by
        have here : channelAt s ch = c := by
          rw [channelAt, List.getD_eq_getElem?_getD, found, Option.getD_some]
        exact statusAcknowledged_eq (here ▸ protocol) _ _
    rw [← channel]
    exact congrArg Host.Outcome.next ((event_of _ quiet).trans (congrArg reportDue (statusAckStep_append acks none)))
  · have others : ∀ a ∈ before, isSummary a.kind = false := fun a mem => by simpa [isSummary] using none a mem
    exact congrArg Host.Outcome.next
      ((event_of _ quiet).trans (congrArg reportDue (summaryAckStep_append acks others close)))
  · have others : ∀ a ∈ before, isResult a.kind = false := fun a mem => by simpa [isResult] using none a mem
    exact congrArg Host.Outcome.next
      ((event_of _ quiet).trans (congrArg reportDue (resultAckStep_append acks others)))
  · obtain ⟨writeBack, void, status, summary, result⟩ := ackSteps_of_none (s := s)
    simp only [List.mem_cons, Prod.mk.injEq, List.not_mem_nil, or_false] at listed
    obtain ⟨rfl, rfl⟩ | ⟨rfl, rfl⟩ | ⟨rfl, rfl⟩ | ⟨rfl, rfl⟩ | ⟨rfl, rfl⟩ := listed
    · exact congrArg Host.Outcome.next (event_of_idle quiet (writeBack none))
    · exact congrArg Host.Outcome.next (event_of_idle quiet (void none))
    · exact congrArg Host.Outcome.next (event_of_idle quiet (status none))
    · exact congrArg Host.Outcome.next (event_of_idle quiet (summary none))
    · exact congrArg Host.Outcome.next (event_of_idle quiet (result none))

end Sys2Proof.Proofs
end

section
/-! SUPPORT. The codes of whole captures, and the directives that end at once (R53, R179, R181). -/

namespace Sys2Proof.Proofs

open Sys2Proof Sys2Proof.Machine Sys2Proof.Laws

variable {s : State} {code : DirectiveCode}

/-! ### The code of a capture (R53, R179) -/

theorem captureWhole_iff {c : List (Option Byte)} :
    captureWhole c = true ↔ ∀ i < 8, (c.getD i none).isSome = true := by
  simp only [captureWhole, List.all_eq_true, List.mem_range]

theorem codeOf_missing {c : List (Option Byte)} (missing : ∃ i < 8, c.getD i none = none) :
    codeOf c = .incomplete := by
  obtain ⟨i, lt, absent⟩ := missing
  refine if_pos ?_
  rw [Bool.not_eq_true', Bool.eq_false_iff, ne_eq, captureWhole_iff]
  intro whole
  have := whole i lt
  rw [absent] at this
  cases this

/-- R53: the table of codes. -/
theorem codeOf_whole {c : List (Option Byte)} {b : Byte} (whole : ∀ i < 8, (c.getD i none).isSome = true)
    (first : c.getD 0 none = some b) :
    codeOf c = if b = 1 then .batchClose else if b = 2 then .laneSuspend else if b = 3 then .laneResume
      else if b = 4 then .laneForget else if b = 5 then .statusNow else .unknown := by
  have byte : captureByte c 0 = b := by rw [captureByte, first, Option.getD_some]
  rw [codeOf, captureWhole_iff.mpr whole, byte]
  simp only [← BitVec.toNat_inj (x := b)]
  generalize b.toNat = n
  by_cases listed : n = 1 ∨ n = 2 ∨ n = 3 ∨ n = 4 ∨ n = 5
  · obtain rfl | rfl | rfl | rfl | rfl := listed <;> rfl
  · simp only [not_or] at listed
    obtain ⟨close, suspend, resume, forget, now⟩ := listed
    simp [close, suspend, resume, forget, now]

/-! ### One directive command (R179) -/

/-- R181: a channel that exists comes to owe a write. -/
theorem oweOn_eq (c : Channel) : oweOn c = { c with owed := c.owed || c.present } := by
  obtain ⟨present, _, _, _, _, _, owed, _⟩ := c
  cases present <;> simp [oweOn]

theorem directiveCommand_of_code (done : TakeDone s) (due : directiveDue s.directives = true)
    (is : codeOf (doneCapture s.directives) = code) : directiveCommand code s = reportDue (runDirective code s) :=
  is ▸ directiveCommand_due done due

/-- R179: a directive that is not at index done, or cannot be taken, does nothing. -/
theorem directiveCommand_idle (done : TakeDone s) (idle : s.directives.done = s.directives.producer ∨
    s.directives.inProgress.isSome = true ∨ codeOf (doneCapture s.directives) ≠ code) :
    directiveCommand code s = s := by
  have still : directiveStep code s = s := by
    refine if_neg ?_
    rw [Bool.and_eq_true, directiveDue_iff, beq_iff_eq]
    rintro ⟨⟨waits, none⟩, is⟩
    obtain empty | busy | other := idle
    · exact waits empty
    · simp [none] at busy
    · exact other is
  rw [directiveCommand, whenRunning_settleTake_of done, still, reportDue_of done.1.2]

/-- Settles O21: the three directives by `runDirective`, the codes by `codeOf_whole`, and the rest by
`directiveCommand_idle`. -/
theorem otherDirectivesEndAtOnce : Obligations.OtherDirectivesEndAtOnce := by
  refine ⟨fun s done waits idle taken is => ?_, fun c b whole first => codeOf_whole whole first,
    fun s c code listed done idle => ?_⟩
  · have due : directiveDue s.directives = true := directiveDue_iff.mpr ⟨waits, idle⟩
    have ends (r : DirectiveResult) : takeDirective (some r) s = { s with directives := taken r } := by
      rw [is]
      rfl
    have silent (r : DirectiveResult) : reportDue (takeDirective (some r) s) = { s with directives := taken r } :=
      (reportDue_of_kept done.1 (takeDirective_touches s _)).trans (ends r)
    refine ⟨fun code => ?_, fun code => ?_, fun missing => ?_⟩
    · refine congrArg Host.Outcome.next ((directiveCommand_of_code done due code).trans ?_)
      rw [runDirective, ends, oweAll, funext oweOn_eq]
      rfl
    · exact congrArg Host.Outcome.next ((directiveCommand_of_code done due code).trans (silent _))
    · exact congrArg Host.Outcome.next
        ((directiveCommand_of_code done due (codeOf_missing missing)).trans (silent _))
  · have run : exec c s = .next (directiveCommand code s) := by
      simp only [List.mem_cons, Prod.mk.injEq, List.not_mem_nil, or_false] at listed
      obtain ⟨rfl, rfl⟩ | ⟨rfl, rfl⟩ | ⟨rfl, rfl⟩ | ⟨rfl, rfl⟩ | ⟨rfl, rfl⟩ | ⟨rfl, rfl⟩ | ⟨rfl, rfl⟩ := listed <;> rfl
    rw [run, directiveCommand_idle done idle]

end Sys2Proof.Proofs
end

section
/-! SUPPORT. The state after power-on meets every invariant of the part (R13, R14, R57, R146, R162, R194). -/

namespace Sys2Proof.Proofs

open Sys2Proof Sys2Proof.Machine Sys2Proof.Laws

/-- R194: power-on of a part that has never been loaded leaves it as it was: what a reset establishes holds of it. -/
theorem resetPart_reset : resetPart .starting .powerOn State.reset = State.reset := rfl

/-- Every key store of a part that has never been loaded is EMPTY. -/
theorem keyStores_reset {c : KeyStore} (mem : c ∈ keyStores State.reset) : c = KeyStore.empty :=
  List.eq_of_mem_replicate (n := 2) mem

theorem reset_acquirersLegal : AcquirersLegal State.reset := fun _ mem => keyStores_reset mem ▸ empty_legal

theorem reset_marksHold : MarksHold State.reset := by
  refine marksHold_of (fun _ => rfl) reset_within (empty_covers KeyStore.empty).positive (fun c other => ?_)
    none_reserves
  exact keyStores_reset (mem_keyStores.mpr (.inr other)) ▸ empty_covers _

theorem reset_channelsSound : ChannelsSound State.reset :=
  ⟨rfl, fun c mem => (List.eq_of_mem_replicate mem : c = Channel.reset false) ▸ channel_reset_sound _⟩

theorem reset_buffersFit : BuffersFit State.reset :=
  ⟨Nat.zero_le _, Nat.zero_le _, Nat.zero_le _, Nat.zero_le _⟩

/-- R13, R14, R162: a reset leaves nothing on the memory path, an empty map, and no reporting. -/
theorem resetPart_pathSound (ph : Phase) (cause : ResetCause) (s : State) : PathSound (resetPart ph cause s) := by
  have path := resetPart_pathIdle ph cause s
  have units := resetPart_unitsIdle ph cause s
  have absent := resetPart_absent ph cause s
  obtain ⟨stream, kinds, waiting, head, gone⟩ : Carries (resetPart ph cause s) (resetPart ph cause s).path :=
    .of_idle path.stream path.queue path.waiting path.outstanding
  refine ⟨emptyMap_legal, fun _ => ?_, fun _ => absent, ?_, ?_, stream, kinds, waiting, head, gone⟩
  · exact ⟨path.stream, path.queue, path.waiting, path.outstanding, units.work, units.holds, units.slots⟩
  · simp [absent.close]
  · simp [units.work]

/-- Settles O51: of each invariant, what a reset establishes. -/
theorem resetMeetsTheInvariants : Obligations.ResetMeetsTheInvariants :=
  ⟨rfl, reset_lanesSound rfl, reset_acquirersLegal, reset_marksHold, reset_channelsSound, reset_buffersFit,
    intakeSound_iff.mpr (resetPart_reset ▸ resetPart_parts .starting .powerOn State.reset),
    resetPart_reset ▸ resetPart_pathSound .starting .powerOn State.reset,
    resetPart_reset ▸ resetPart_workSound .starting .powerOn State.reset⟩

end Sys2Proof.Proofs
end

section
/-! SUPPORT. The judgement of a frame by its bytes, and the frames of a closed port (R182, R183, R185). -/

namespace Sys2Proof.Proofs

open Sys2Proof Sys2Proof.Machine Sys2Proof.Laws

variable {s : State} {command length : Byte} {clocked : List Byte} {wanted : Nat}

/-! ### Frames at an open port (R182, R185) -/

/-- R182: a frame of at least one byte at an open port with nothing due. -/
theorem event_takeFrame_open (quiet : Quiet s) (running : s.phase = .running) {bytes : List Byte} (some : bytes ≠ []) :
    event (takeFrame bytes) s = reportDue (actOnFrame bytes s) := by
  rw [event_of _ quiet, takeFrame, if_neg some, if_pos running]

/-- R183: such a frame that is answered with a status alone does nothing else. -/
theorem event_takeFrame_answered (quiet : Quiet s) (running : s.phase = .running) {bytes : List Byte}
    (some : bytes ≠ []) {n st : Nat} (answered : actOnFrame bytes s = frameAnswered s n st) :
    event (takeFrame bytes) s = frameAnswered s n st := by
  rw [event_takeFrame_open quiet running some, answered, reportDue_frameAnswered quiet]

/-- R185: the same of a frame with a command byte and a length byte. -/
theorem event_takeFrame_command (quiet : Quiet s) (running : s.phase = .running) {n st : Nat}
    (answered : actOnCommand command length clocked s = frameAnswered s n st) :
    event (takeFrame (command :: length :: clocked)) s = frameAnswered s n st :=
  event_takeFrame_answered quiet running (List.cons_ne_nil _ _) answered

/-- R185: a frame with fewer bytes than its length byte says. -/
theorem actOnCommand_cut (cut : clocked.length < length.toNat) :
    actOnCommand command length clocked s = frameAnswered s (clocked.length + 2) 3 := if_pos cut

/-- R185: a command byte that the table does not list. -/
theorem actOnCommand_unlisted (unlisted : command = 0 ∨ 5 < command.toNat) (whole : ¬clocked.length < length.toNat) :
    actOnCommand command length clocked s = frameAnswered s (clocked.length + 2) 4 := by
  have beyond : command.toNat = 0 ∨ 5 < command.toNat := unlisted.imp_left (congrArg BitVec.toNat)
  rw [actOnCommand, if_neg whole]
  split
  case h_6 => rfl
  all_goals omega

/-- R185: a length byte that is wrong for the command. -/
theorem judgedFrame_wrong (wrong : length.toNat ≠ wanted) (act : State → State) :
    judgedFrame wanted length clocked act s = frameAnswered s (clocked.length + 2) 3 := by
  rw [judgedFrame, frameRefusal, if_pos wrong]
  rfl

/-- R185: a well-formed frame while a write of the port is outstanding. -/
theorem judgedFrame_busy (fits : length.toNat = wanted) (busy : s.port.outstanding = true) (act : State → State) :
    judgedFrame wanted length clocked act s = frameAnswered s (clocked.length + 2) 2 := by
  rw [judgedFrame, frameRefusal, if_neg (not_not_intro fits), if_pos busy]
  rfl

/-- R185: the commands of one payload length: each is a frame of its command byte, judged by that length. -/
theorem exec_judged {c : Instr} (listed : (c, wanted) ∈ [(Instr.query length clocked, 0), (.loadKey length clocked, 21),
      (.lockImage length clocked, 0), (.erase length clocked, 0)]) :
    ∃ (command : Byte) (act : State → State),
      exec c s = .next (event (takeFrame (command :: length :: clocked)) s) ∧
      (¬clocked.length < length.toNat →
        actOnCommand command length clocked s = judgedFrame wanted length clocked act s) := by
  simp only [List.mem_cons, Prod.mk.injEq, List.not_mem_nil, or_false] at listed
  obtain ⟨rfl, rfl⟩ | ⟨rfl, rfl⟩ | ⟨rfl, rfl⟩ | ⟨rfl, rfl⟩ := listed
  · exact ⟨1, queryFrame clocked, rfl, fun whole => if_neg whole⟩
  · exact ⟨2, loadKeyFrame clocked, rfl, fun whole => if_neg whole⟩
  · exact ⟨4, lockFrame clocked, rfl, fun whole => if_neg whole⟩
  · exact ⟨5, eraseFrame clocked, rfl, fun whole => if_neg whole⟩

/-- R185: a frame of one byte, or cut short after its length byte. -/
theorem actOnFrame_bad (bad : clocked.length = 1 ∨
      ∃ command length rest, clocked = command :: length :: rest ∧ rest.length < length.toNat) :
    clocked ≠ [] ∧ actOnFrame clocked s = frameAnswered s clocked.length 3 := by
  obtain one | ⟨command, length, rest, rfl, cut⟩ := bad
  · obtain ⟨byte, rfl⟩ := List.length_eq_one_iff.mp one
    exact ⟨List.cons_ne_nil _ _, rfl⟩
  · exact ⟨List.cons_ne_nil _ _, actOnCommand_cut cut⟩

/-! ### Frames at a closed port (R182) -/

/-- R182: a frame of at least one byte at a closed port. -/
theorem event_takeFrame_closed (closed : s.phase ≠ .running) {bytes : List Byte} (some : 0 < bytes.length) :
    event (takeFrame bytes) s = { s with port := { s.port with shiftedOut := List.replicate bytes.length 0 } } := by
  have settled : settle s = s := whenRunning_closed _ closed
  rw [event, settled, takeFrame, if_neg (List.ne_nil_of_length_pos some), if_neg closed]
  exact whenRunning_closed (s := closedFrame bytes.length s) _ closed

/-- R182: every command of the port that clocks bytes takes them as one frame. -/
theorem exec_frame {c : Instr} {n : Nat} (listed : (c, n) ∈ [(Instr.query length clocked, clocked.length + 2),
      (.loadKey length clocked, clocked.length + 2), (.loadImage length clocked, clocked.length + 2),
      (.lockImage length clocked, clocked.length + 2), (.erase length clocked, clocked.length + 2),
      (.badCommand command length clocked, clocked.length + 2), (.badFrame clocked, clocked.length)]) :
    ∃ bytes : List Byte, bytes.length = n ∧ exec c s = .next (event (takeFrame bytes) s) := by
  simp only [List.mem_cons, Prod.mk.injEq, List.not_mem_nil, or_false] at listed
  obtain ⟨rfl, rfl⟩ | ⟨rfl, rfl⟩ | ⟨rfl, rfl⟩ | ⟨rfl, rfl⟩ | ⟨rfl, rfl⟩ | ⟨rfl, rfl⟩ | ⟨rfl, rfl⟩ := listed
  all_goals exact ⟨_, rfl, rfl⟩

/-- Settles O41: each refusal by its judgement, and none of them makes a status write due. -/
theorem framesAreJudgedAndRefused : Obligations.FramesAreJudgedAndRefused := by
  refine ⟨fun s length clocked c wanted listed quiet running => ?_,
    fun s command length clocked quiet running unlisted => ?_,
    fun s length clocked => ⟨rfl, rfl, rfl, rfl, rfl, fun command => rfl⟩,
    fun s clocked quiet running bad => ?_, fun s command length clocked c bytes listed closed some => ?_,
    fun s => rfl, fun s quiet => congrArg Host.Outcome.next (event_of_idle quiet rfl)⟩
  · obtain ⟨command, act, run, judged⟩ := exec_judged (s := s) listed
    have answered {st : Nat} (acted : actOnCommand command length clocked s = frameAnswered s (clocked.length + 2) st) :
        exec c s = .next (frameAnswered s (clocked.length + 2) st) := by
      rw [run, event_takeFrame_command quiet running acted]
    refine ⟨fun bad => answered ?_, fun whole fits busy => answered ?_⟩
    · by_cases cut : clocked.length < length.toNat
      · exact actOnCommand_cut cut
      · rw [judged cut, judgedFrame_wrong (bad.resolve_left cut)]
    · rw [judged (Nat.not_lt.mpr whole), judgedFrame_busy fits busy]
  · refine congrArg Host.Outcome.next (event_takeFrame_command quiet running ?_)
    split
    · next cut => exact actOnCommand_cut cut
    · next whole => exact actOnCommand_unlisted unlisted whole
  · obtain ⟨some, answered⟩ := actOnFrame_bad (s := s) bad
    exact congrArg Host.Outcome.next (event_takeFrame_answered quiet running some answered)
  · obtain ⟨frame, rfl, run⟩ := exec_frame (s := s) listed
    rw [run, event_takeFrame_closed closed some]

end Sys2Proof.Proofs
end

section
/-! SUPPORT. LOAD_IMAGE and LOCK_IMAGE: their answers and the writes that they request (R185, R188, R189). -/

namespace Sys2Proof.Proofs

open Sys2Proof Sys2Proof.Machine Sys2Proof.Laws

variable {s : State} {length : Byte} {clocked : List Byte}

/-! ### The words of a payload (R188) -/

/-- R188: word `i` of bytes is at bytes `2 * i` and `2 * i + 1`, the low one first. -/
theorem wordsOf_eq (n : Nat) {bytes : List Byte} (two : bytes.length = 2 * n) : wordsOf bytes =
    (List.range n).map fun i =>
      BitVec.ofNat 16 ((bytes.getD (2 * i) 0).toNat + 256 * (bytes.getD (2 * i + 1) 0).toNat) := by
  induction n generalizing bytes with
  | zero =>
    rw [List.length_eq_zero_iff.mp two]
    rfl
  | succ n ih =>
    match bytes, two with
    | a :: b :: rest, two =>
      rw [wordsOf, ih (by simpa [Nat.mul_succ] using two), List.range_succ_eq_map, List.map_cons, List.map_map]
      rfl

/-- R185: the words of a LOAD_IMAGE payload of `n` words stand behind its group byte. -/
theorem imageWords_eq {n : Nat} (fits : length.toNat = 1 + 2 * n) (whole : length.toNat ≤ clocked.length) :
    imageWords length clocked = (List.range n).map fun i =>
      BitVec.ofNat 16 ((clocked.getD (1 + 2 * i) 0).toNat + 256 * (clocked.getD (2 + 2 * i) 0).toNat) := by
  have payload (j : Nat) (inside : j < 2 * n) :
      ((clocked.take length.toNat).drop 1).getD j 0 = clocked.getD (1 + j) 0 := by
    rw [List.getD_eq_getElem?_getD, List.getD_eq_getElem?_getD, List.getElem?_drop, List.getElem?_take_of_lt (by omega)]
  rw [imageWords, wordsOf_eq n (by simp; omega)]
  refine List.map_congr_left fun i listed => ?_
  have : i < n := List.mem_range.mp listed
  rw [payload _ (by omega), payload _ (by omega), show 1 + (2 * i + 1) = 2 + 2 * i by omega]

/-! ### The judgement of a LOAD_IMAGE (R185, R189) -/

/-- R185: a LOAD_IMAGE at an open port with nothing due. -/
theorem exec_loadImage (quiet : Quiet s) (running : s.phase = .running) (whole : length.toNat ≤ clocked.length) :
    exec (.loadImage length clocked) s = .next (loadImageFrame length clocked s) := by
  have acts : actOnFrame (3 :: length :: clocked) s = loadImageFrame length clocked s :=
    if_neg (Nat.not_lt.mpr whole)
  have run := event_takeFrame_open quiet running (bytes := 3 :: length :: clocked) (List.cons_ne_nil _ _)
  rw [acts, reportDue_of_kept (quiet_reports quiet) (loadImageFrame_touches s length clocked)] at run
  exact congrArg Host.Outcome.next run

/-- R189: a LOAD_IMAGE that is not OK is answered, and does nothing else. -/
theorem loadImageFrame_refused {st : PortStatus} (refuses : st ≠ .ok) (judged : imageAnswer length clocked s = st) :
    loadImageFrame length clocked s = frameAnswered s (clocked.length + 2) (statusCode st) := by
  rw [loadImageFrame, judged, if_neg refuses, answerFrame_status]
  rfl

/-- R189: a LOAD_IMAGE that is OK, in full. -/
theorem loadImageFrame_ok (judged : imageAnswer length clocked s = .ok) :
    loadImageFrame length clocked s = { frameAnswered s (clocked.length + 2) 1 with
      nv := { s.nv with requests :=
        s.nv.requests ++ [.imageGroup (imageGroupNumber clocked) (imageWords length clocked)] }
      port := { (frameAnswered s (clocked.length + 2) 1).port with outstanding := true } } := by
  rw [loadImageFrame, judged, if_pos rfl]
  rfl

section answer

variable (some : 0 < length.toNat)
include some

theorem imageAnswer_badGroup (above : 4 < imageGroupNumber clocked) : imageAnswer length clocked s = .badGroup := by
  rw [imageAnswer, if_neg some.ne', if_pos above]

variable (group : imageGroupNumber clocked ≤ 4)
include group

theorem imageAnswer_badFrame (wrong : length.toNat ≠ imageLength (imageGroupNumber clocked)) :
    imageAnswer length clocked s = .badFrame := by
  rw [imageAnswer, if_neg some.ne', if_neg group.not_gt, if_pos wrong]

/-- R189: a well-formed LOAD_IMAGE of a group. -/
theorem imageAnswer_fits (fits : length.toNat = imageLength (imageGroupNumber clocked)) :
    imageAnswer length clocked s = if s.port.outstanding then .busy else if s.nv.locked then .locked
      else if !groupSound (imageWords length clocked) then .badCheck else .ok := by
  rw [imageAnswer, if_neg some.ne', if_neg group.not_gt, if_neg (not_not_intro fits)]

end answer

/-! ### LOCK_IMAGE (R189) -/

/-- R189: what a LOCK_IMAGE does, in full. -/
theorem lockFrame_eq (clocked : List Byte) (s : State) : lockFrame clocked s =
    if s.nv.locked then frameAnswered s (clocked.length + 2) 1
    else { frameAnswered s (clocked.length + 2) 1 with
      nv := { s.nv with requests := s.nv.requests ++ [.imageLock] }
      port := { (frameAnswered s (clocked.length + 2) 1).port with outstanding := true } } := rfl

theorem exec_lockImage (port : PortFree s) (clocked : List Byte) :
    exec (.lockImage 0 clocked) s = .next (lockFrame clocked s) := by
  have acts : actOnCommand 4 0 clocked s = lockFrame clocked s :=
    (if_neg (Nat.not_lt_zero _)).trans (judgedFrame_acts rfl port.free clocked _)
  have silent := reportDue_of_kept (quiet_reports port.quiet) (lockFrame_touches s clocked)
  exact congrArg Host.Outcome.next ((event_takeFrame port 4 0 clocked).trans (by rw [acts, silent]))

/-- Settles O44: the answers in their order, each with its effect. -/
theorem imageFramesAreJudgedAndTaken : Obligations.ImageFramesAreJudgedAndTaken := by
  refine ⟨fun s length clocked group count words answered quiet running answers isGroup isCount isWords => ?_,
    fun s clocked port => by rw [exec_lockImage port, lockFrame_eq]⟩
  obtain rfl : group = imageGroupNumber clocked := isGroup
  have isLength : imageLength (imageGroupNumber clocked) = 1 + 2 * count := by
    rw [isCount]
    rfl
  have refused (whole : length.toNat ≤ clocked.length) {st : PortStatus} (refuses : st ≠ .ok)
      (judged : imageAnswer length clocked s = st) :
      exec (.loadImage length clocked) s = .next (answered (statusCode st)) := by
    rw [exec_loadImage quiet running whole, loadImageFrame_refused refuses judged, answers]
  refine ⟨fun bad => ?_, fun some whole => ⟨fun above => ?_, fun low wrong => ?_, fun low fits => ?_⟩⟩
  · by_cases cut : clocked.length < length.toNat
    · rw [answers]
      exact congrArg Host.Outcome.next (event_takeFrame_command quiet running (actOnCommand_cut cut))
    · exact refused (Nat.not_lt.mp cut) (st := .badFrame) (by decide) (if_pos (bad.resolve_left cut))
  · exact refused whole (by decide) (imageAnswer_badGroup some above)
  · exact refused whole (by decide) (imageAnswer_badFrame some low (isLength ▸ wrong))
  · have judged := imageAnswer_fits (s := s) some low (fits.trans isLength.symm)
    have areWords : imageWords length clocked = words := (imageWords_eq fits whole).trans isWords.symm
    rw [areWords] at judged
    refine ⟨fun busy => ?_, fun free locked => ?_, fun free unlocked unsound => ?_, fun free unlocked sound => ?_⟩
    · exact refused whole (st := .busy) (by decide) (by rw [judged, if_pos busy])
    · exact refused whole (st := .locked) (by decide) (by simp [judged, free, locked])
    · exact refused whole (st := .badCheck) (by decide) (by simp [judged, free, unlocked, groupSound, unsound])
    · have ok : imageAnswer length clocked s = .ok := by simp [judged, free, unlocked, groupSound, sound]
      rw [exec_loadImage quiet running whole, loadImageFrame_ok ok, areWords, answers]

end Sys2Proof.Proofs
end

section
/-! SUPPORT. The QUERY answer as a layout, and what a QUERY leaves (R183, R186). -/

namespace Sys2Proof.Proofs

open Sys2Proof Sys2Proof.Machine Sys2Proof.Laws

/-! ### Bytes and tables of a layout -/

/-- A one-byte field is the byte at its offset. -/
theorem Shows.byte {out : List Byte} {i v : Nat} (shows_ : Shows out [(i, 1, v)]) (inside : i < out.length) :
    out[i]? = some (byteOf v) := by
  have one : slice out i 1 = [out[i]] := by
    rw [slice, List.drop_eq_getElem_cons inside, List.take_succ_cons, List.take_zero]
  have value : leNat (slice out i 1) = v % 256 ^ 1 := shows_ _ List.mem_cons_self
  rw [one, leNat, leNat] at value
  rw [List.getElem?_eq_getElem inside, Option.some_inj]
  exact BitVec.eq_of_toNat_eq (by rw [byteOf, BitVec.toNat_ofNat]; omega)

/-- Entry `i` of a table of entries of one size. -/
theorem slice_flatMap {α β : Type} {f : α → List β} {size : Nat} (sizes : ∀ y, (f y).length = size) {l : List α}
    {i : Nat} {x : α} (at_i : l[i]? = some x) : slice (l.flatMap f) (size * i) size = f x := by
  induction l generalizing i with
  | nil => simp at at_i
  | cons y l ih =>
    rw [List.flatMap_cons]
    cases i with
    | zero =>
      obtain rfl : y = x := by simpa using at_i
      exact List.take_left' (sizes y)
    | succ i =>
      rw [slice, Nat.mul_succ, Nat.add_comm, ← sizes y, List.drop_length_add_append, sizes y]
      exact ih (by simpa using at_i)

/-! ### The fields (R186) -/

/-- R186: the fields before the start-up outcomes. -/
def queryFront (p : Port) (nv : NvStore) : List (Nat × Nat) :=
  [(1, 1), (4, 0x00300A31), (1, bit nv.locked), (1, nv.control.toNat), (1, writeOutcomeCode p.lastOutcome)]

/-- R186: the fields between the start-up outcomes and the key slots. -/
def queryMiddle (cfg : Settings) (k : KeyUnit) (nv : NvStore) : List (Nat × Nat) :=
  [(1, flagsNat cfg.overlap), (1, k.store.highestId), (4, nv.lastClosed), (4, k.currentC), (4, k.store.currentMark),
    (4, k.nextC), (4, k.store.nextMark)]

/-- R186: the fields of a key slot. -/
def slotLayout (k : KeySlot) : List (Nat × Nat) :=
  if k.state = .empty then [(5, 0)] else [(1, keyStateCode k.state), (1, k.id), (3, leNat k.check)]

variable {cfg : Settings} {k : KeyUnit} {p : Port} {nv : NvStore}

theorem slotAnswer_eq (k : KeySlot) : slotAnswer k = encode (slotLayout k) := by
  unfold slotAnswer slotLayout
  split
  · simp [leBytes_zero]
  · simp [leBytes_one, leBytes_leNat]

theorem slotLayout_width (k : KeySlot) : width (slotLayout k) = 5 := by
  unfold slotLayout
  split <;> rfl

/-- R183, R186: every byte of the answer. -/
theorem queryAnswer_eq : queryAnswer cfg k p nv = encode
    (queryFront p nv ++ (outcomesLayout cfg ++ (queryMiddle cfg k nv ++ (allSlots k.store).flatMap slotLayout))) := by
  rw [encode_append, encode_append, encode_append, encode_flatMap, ← funext slotAnswer_eq]
  simp [queryAnswer, queryFront, outcomesLayout, encode_bytes, queryMiddle, leBytes_one, byteOf]

theorem queryFront_width : width (queryFront p nv) = 8 := rfl

theorem queryMiddle_width : width (queryMiddle cfg k nv) = 22 := rfl

section answer

variable (outcomes : cfg.outcomes.length = 5)
include outcomes

theorem outcomesLayout_width : width (outcomesLayout cfg) = 5 := (width_bytes _ _).trans outcomes

theorem queryAnswer_shows :
    Shows (queryAnswer cfg k p nv) (placed 0 (queryFront p nv) ++ placed 13 (queryMiddle cfg k nv)) := by
  rw [queryAnswer_eq]
  apply shows_encode
  simp only [placed_append, queryFront_width, outcomesLayout_width outcomes]
  intro f listed
  simp only [List.mem_append] at listed ⊢
  exact listed.imp_right fun middle => .inr (.inl middle)

/-- R186: the start-up outcomes, a byte each. -/
theorem queryAnswer_outcomes :
    slice (queryAnswer cfg k p nv) 8 5 = cfg.outcomes.map fun o => byteOf (outcomeCode o) := by
  have front : (encode (queryFront p nv)).length = 8 := encode_length _
  rw [queryAnswer_eq, encode_append, slice_append_right _ _ front, encode_append, outcomesLayout, encode_bytes]
  exact List.take_left' (by rw [List.length_map, outcomes])

/-- R186: the 52 key slots, 5 bytes each. -/
theorem queryAnswer_slot {n : Nat} {slot : KeySlot} (listed : (allSlots k.store)[n]? = some slot) :
    slice (queryAnswer cfg k p nv) (35 + 5 * n) 5 = slotAnswer slot := by
  have split : queryAnswer cfg k p nv = encode (queryFront p nv ++ (outcomesLayout cfg ++ queryMiddle cfg k nv)) ++
      (allSlots k.store).flatMap slotAnswer := by
    rw [queryAnswer_eq, funext slotAnswer_eq, ← encode_flatMap, ← encode_append, List.append_assoc, List.append_assoc]
  have before : (encode (queryFront p nv ++ (outcomesLayout cfg ++ queryMiddle cfg k nv))).length = 35 := by
    simp only [encode_length, width_append, queryFront_width, outcomesLayout_width outcomes, queryMiddle_width]
  rw [split, slice, ← before, List.drop_length_add_append]
  exact slice_flatMap (fun k => by rw [slotAnswer_eq, encode_length, slotLayout_width]) listed

variable (lanes : k.store.lanes.length = 48)
include lanes

theorem queryAnswer_length : (queryAnswer cfg k p nv).length = 295 := by
  have slots : (allSlots k.store).length = 52 := by simp [allSlots, lanes]
  rw [queryAnswer_eq, encode_length, width_append, width_append, width_append, width_flatMap slotLayout_width, slots,
    queryFront_width, outcomesLayout_width outcomes, queryMiddle_width]

/-- R186: the fields of one byte. -/
theorem queryAnswer_byte {i v : Nat}
    (listed : (i, 1, v) ∈ placed 0 (queryFront p nv) ++ placed 13 (queryMiddle cfg k nv)) (inside : i < 295) :
    (queryAnswer cfg k p nv)[i]? = some (byteOf v) :=
  ((queryAnswer_shows outcomes).mono (List.cons_subset.mpr ⟨listed, List.nil_subset _⟩)).byte
    (inside.trans_eq (queryAnswer_length outcomes lanes).symm)

end answer

/-! ### The command (R183, R186) -/

/-- R183: a QUERY at an open port with nothing outstanding. -/
theorem exec_query {s : State} (port : PortFree s) (clocked : List Byte) :
    exec (.query 0 clocked) s = .next (queryFrame clocked s) := by
  have acts : actOnCommand 1 0 clocked s = queryFrame clocked s :=
    (if_neg (Nat.not_lt_zero _)).trans (judgedFrame_acts rfl port.free clocked _)
  have silent : reportDue (queryFrame clocked s) = queryFrame clocked s :=
    reportDue_of_kept (quiet_reports port.quiet) (answerFrame_touches s _ _)
  exact congrArg Host.Outcome.next ((event_takeFrame port 1 0 clocked).trans (by rw [acts, silent]))

/-- Settles O42: the numbers and bytes by `queryAnswer_shows`, the two tables each by its entries. -/
theorem queryShowsTheStores : Obligations.QueryShowsTheStores := by
  intro s clocked port lanes outcomes
  have shown := queryAnswer_shows (k := s.keys) (p := s.port) (nv := s.nv) outcomes
  have byte {i v : Nat}
      (listed : (i, 1, v) ∈ placed 0 (queryFront s.port s.nv) ++ placed 13 (queryMiddle s.settings s.keys s.nv))
      (inside : i < 295) := queryAnswer_byte outcomes lanes listed inside
  refine ⟨queryFrame clocked s, queryAnswer s.settings s.keys s.port s.nv, exec_query port clocked, rfl, rfl,
    queryAnswer_length outcomes lanes, byte (by simp [queryFront]) (by decide),
    shown (1, 4, 0x00300A31) (by simp [queryFront]), ?_, byte (by simp [queryFront]) (by decide), ?_, ?_,
    ⟨_, byte (v := flagsNat s.settings.overlap) (by simp [queryMiddle]) (by decide), fun w four => ?_⟩,
    byte (by simp [queryMiddle]) (by decide),
    shown (15, 4, _) (by simp [queryMiddle]), shown (19, 4, _) (by simp [queryMiddle]),
    shown (23, 4, _) (by simp [queryMiddle]), shown (27, 4, _) (by simp [queryMiddle]),
    shown (31, 4, _) (by simp [queryMiddle]), fun n slot listed three => ?_⟩
  · rw [byte (v := bit s.nv.locked) (by simp [queryFront]) (by decide)]
    cases s.nv.locked <;> rfl
  · rw [byte (v := writeOutcomeCode s.port.lastOutcome) (by simp [queryFront]) (by decide)]
    cases s.port.lastOutcome <;> rfl
  · rw [queryAnswer_outcomes outcomes]
    exact List.map_congr_left fun o _ => by cases o <;> rfl
  · rw [byteOf, BitVec.getLsbD_ofNat, flagsNat_testBit, decide_eq_true (by omega), Bool.true_and]
  · rw [queryAnswer_slot outcomes listed, slotAnswer, padTo_of_length three]
    cases slot.state <;> rfl

end Sys2Proof.Proofs
end

section
/-! SUPPORT. The issue tests of a part with nothing in the internal write queue, and what acceptance leaves of that queue
(R1, R9, R166). -/

namespace Sys2Proof.Proofs

open Sys2Proof Sys2Proof.Machine Sys2Proof.Laws

variable {s t u : State} {n : Nat}

/-! ### The issue tests, from an empty queue (R9, R166) -/

theorem entryIssued_room {p : PathFront} (room : p.queue.length < 32) (none : p.waiting = []) (e : Entry) :
    entryIssued p e = { p with queue := p.queue ++ [e] } := if_pos ⟨room, none⟩

/-- The issue of a block leaves the other channels. -/
theorem channelAt_blockIssued_other {ch c : Nat} (other : ch ≠ c) (s : State) :
    channelAt (blockIssued s ch) c = channelAt s c := by
  simp only [channelAt, blockIssued, List.getD_eq_getElem?_getD, updAt_getElem?, if_neg other]

/-- From `u` to `t` the channels below `n` have made their issue tests: the blocks of those that were due stand in the
queue, as their owners stood before. The lane table changes with STORE alone, which comes last. -/
structure TestsMade (u t : State) (n : Nat) : Prop where
  rest     : t = { u with path := t.path, lanes := t.lanes, report := t.report }
  lanes    : n ≤ 4 → t.lanes = u.lanes
  channels : ∀ c, n ≤ c → channelAt t c = channelAt u c
  waiting  : t.path.waiting = []
  queue    : t.path.queue =
    ((List.range n).filter fun ch => issueDue u.settings ch (channelAt u ch)).map (blockEntry u)

theorem TestsMade.blockEntry_eq (made : TestsMade u t n) (low : n < 5) : blockEntry t n = blockEntry u n := by
  have lanes := made.lanes (Nat.le_of_lt_succ low)
  have own := made.channels n le_rfl
  have content : blockContent t n = blockContent u n := by
    unfold blockContent
    split
    · next store =>
      subst store
      rw [own, lanes, made.rest]
    · rw [own, made.rest]
      rfl
  rw [blockEntry, content, made.rest]
  rfl

theorem TestsMade.next (made : TestsMade u t n) (low : n < 5) : TestsMade u (reportChannel n t) (n + 1) := by
  have same : issueDue t.settings n (channelAt t n) = issueDue u.settings n (channelAt u n) := by
    rw [made.channels n le_rfl, made.rest]
  have entry := made.blockEntry_eq low
  obtain ⟨rest, lanes, channels, waiting, queue⟩ := made
  by_cases due : issueDue u.settings n (channelAt u n) = true
  · have issued : reportChannel n t = blockIssued t n := reportChannel_due_eq (issueDue_iff.mp (same.trans due))
    have short : t.path.queue.length < 32 := by
      have := List.length_filter_le (fun ch => issueDue u.settings ch (channelAt u ch)) (List.range n)
      rw [List.length_range] at this
      rw [queue, List.length_map]
      omega
    have path : (blockIssued t n).path = { t.path with queue := t.path.queue ++ [blockEntry u n] } :=
      entry ▸ entryIssued_room short waiting (blockEntry t n)
    rw [issued]
    refine ⟨?_, fun window => ?_, fun c above => ?_, ?_, ?_⟩
    · rw [blockIssued, rest]
    · exact (if_neg (by omega : ¬n = 4)).trans (lanes (by omega))
    · exact (channelAt_blockIssued_other (by omega) t).trans (channels c (by omega))
    · rw [path]
      exact waiting
    · rw [path, queue, List.range_succ, List.filter_append, List.filter_singleton, due, List.map_append]
      rfl
  · have still : reportChannel n t = t := reportChannel_of (same.trans (Bool.not_eq_true _ ▸ due))
    rw [still]
    refine ⟨rest, fun window => lanes (by omega), fun c above => channels c (by omega), waiting, ?_⟩
    rw [queue, List.range_succ, List.filter_append, List.filter_singleton, Bool.eq_false_iff.mpr due]
    simp

/-- R9, R166: from an empty queue the issue tests leave the blocks of the channels that are due, W0 to W3 and then
STORE. -/
theorem reportDue_queue (running : u.phase = .running) (empty : u.path.queue = []) (none : u.path.waiting = []) :
    (reportDue u).path.queue =
      ((List.range 5).filter fun ch => issueDue u.settings ch (channelAt u ch)).map (blockEntry u) := by
  have made (n : Nat) (low : n ≤ 5) : TestsMade u (forBelow n reportChannel u) n := by
    induction n with
    | zero => exact ⟨rfl, fun _ => rfl, fun _ _ => rfl, none, empty⟩
    | succ n ih =>
      rw [forBelow_succ]
      exact (ih (by omega)).next low
  rw [reportDue, whenRunning_running _ running]
  exact (made 5 le_rfl).queue

/-! ### Acceptance adds to the internal write queue alone (R1, R9) -/

theorem entryIssued_queue_grows (p : PathFront) (e : Entry) : p.queue <+: (entryIssued p e).queue := by
  unfold entryIssued
  split
  · exact ⟨_, rfl⟩
  · rfl

theorem reportDue_queue_grows (s : State) : s.path.queue <+: (reportDue s).path.queue := by
  have one (ch : Nat) (s : State) : s.path.queue <+: (reportChannel ch s).path.queue := by
    rw [reportChannel_path]
    split
    · exact entryIssued_queue_grows _ _
    · rfl
  have tests (n : Nat) : s.path.queue <+: (forBelow n reportChannel s).path.queue := by
    induction n with
    | zero => rfl
    | succ n ih =>
      rw [forBelow_succ]
      exact ih.trans (one n _)
  unfold reportDue whenRunning
  split
  · exact tests 5
  · rfl

theorem takeSlotWrites_queue_grows (l : List SlotWrite) (s : State) :
    s.path.queue <+: (takeSlotWrites l s).1.path.queue := by
  induction l generalizing s with
  | nil => rfl
  | cons sw rest ih =>
    have taken : (takeSlotWrite sw s).path = s.path := (takeSlotWrite_touches s sw).path (by decide)
    exact taken ▸ (reportDue_queue_grows (takeSlotWrite sw s)).trans (ih _)

theorem acceptOne_queue_grows (o : Offered) (s : State) : s.path.queue <+: (acceptOne o s).path.queue := by
  cases o with
  | write addr beats =>
    change s.path.queue <+: (acceptWrite addr beats s).path.queue
    rw [acceptWrite_eq]
    exact takeSlotWrites_queue_grows _ s
  | read addr length => rfl

theorem acceptFrom_queue_grows (l : List Offered) (s : State) : s.path.queue <+: (acceptFrom l s).path.queue := by
  induction l generalizing s with
  | nil => rfl
  | cons o os ih =>
    unfold acceptFrom
    split
    · exact (acceptOne_queue_grows o s).trans (ih _)
    · rfl

theorem acceptOffered_queue_grows (s : State) : s.path.queue <+: (acceptOffered s).path.queue :=
  acceptFrom_queue_grows _ s

end Sys2Proof.Proofs
end

section
/-! SUPPORT. The end of start-up: the state that the blocks begin in, the first status blocks, and the key unit (R146,
R162, R166, R193). -/

namespace Sys2Proof.Proofs

open Sys2Proof Sys2Proof.Machine Sys2Proof.Laws

variable {s : State} {ch : Nat}

/-! ### The blocks begin (R15, R146, R152, R162, R184, R193) -/

/-- R193: the part at the end of start-up, before the first status blocks: every block has begun, and the store write of
a start-up exhaustion is requested. -/
def started (s : State) : State :=
  { s with
    phase := .running
    settings := imageSettings s.nv
    intake := ⟨(imageSettings s.nv).map.intake.map startSlots, [], 0⟩
    keys := startKeys s.nv.keys
    totals := Totals.reset s.nv.lastClosed
    report := (List.range 5).map fun ch =>
      { Channel.reset (channelExists (imageSettings s.nv).map ch) with
        owed := channelExists (imageSettings s.nv).map ch }
    port := Port.reset
    nv := if exhaustedAtStart s.nv.keys then { s.nv with requests := s.nv.requests ++ [.keyStore none false] }
      else s.nv }

theorem startChannels_eq (map : WindowMap) : startChannels map = (List.range 5).map fun ch =>
    { Channel.reset (channelExists map ch) with owed := channelExists map ch } := by
  simp only [startChannels, oweOn_eq]
  rfl

theorem startBlocks_requested (s : State) :
    (if exhaustedAtStart s.nv.keys then requestKeyWrite (startBlocks s) else startBlocks s) = started s := by
  unfold startBlocks started
  rw [startChannels_eq]
  split <;> rfl

theorem exec_startUpEnd (starting : s.phase = .starting) :
    exec .startUpEnd s = .next (acceptOffered (reportDue (started s))) := by
  rw [← startBlocks_requested]
  exact congrArg Host.Outcome.next (if_pos starting)

theorem started_channelAt (listed : ch < 5) (s : State) : channelAt (started s) ch =
    { Channel.reset (channelExists (imageSettings s.nv).map ch) with
      owed := channelExists (imageSettings s.nv).map ch } := by
  simp [channelAt, started, listed]

/-- R162, R166: the channels that exist are due, as each owes a write. -/
theorem started_issueDue (listed : ch < 5) (s : State) : issueDue (started s).settings ch (channelAt (started s) ch) =
    channelExists (imageSettings s.nv).map ch := by
  rw [started_channelAt listed, issueDue]
  cases channelExists (imageSettings s.nv).map ch <;> rfl

/-! ### The first status blocks (R9, R15, R57, R83, R162, R166) -/

/-- R15: the slot table of a window whose channel exists. -/
theorem started_windowSlots (exists_ : channelExists (imageSettings s.nv).map ch = true) (window : ch ≠ 4) :
    windowSlots (started s) ch =
      ⟨List.replicate (windowAt (imageSettings s.nv).map ch).count .free, 0, 0, 0⟩ := by
  have enabled : (windowAt (imageSettings s.nv).map ch).enabled = true := by
    simpa [window] using (Bool.and_eq_true_iff.mp exists_).2
  have table : windowSlots (started s) ch = startSlots (windowAt (imageSettings s.nv).map ch) :=
    List.getD_map _ IntakeWindow.disabled startSlots
  rw [table, startSlots, if_pos enabled]

/-- R162: the first block of a channel, from the blocks' reset states. -/
theorem started_blockContent (listed : ch < 5) (lanes : s.lanes = LaneTable.reset)
    (exists_ : channelExists (imageSettings s.nv).map ch = true) : blockContent (started s) ch =
      if ch = 4 then
        storeBlock (Channel.reset true) s.cause s.sweepCount (imageSettings s.nv) (startKeys s.nv.keys)
          s.directives.done (Totals.reset s.nv.lastClosed) LaneTable.reset
      else windowBlock (Channel.reset true) ch s.cause
        ⟨List.replicate (windowAt (imageSettings s.nv).map ch).count .free, 0, 0, 0⟩ := by
  have channel := started_channelAt listed s
  rw [exists_] at channel
  unfold blockContent
  split
  · next store =>
    subst store
    rw [channel, ← lanes]
    rfl
  · next window =>
    rw [channel, started_windowSlots exists_ window]
    rfl

/-- R57, R83: over the reset lane table bytes 40 to 127 of a STORE block are 0. -/
theorem storeBlock_reset_lanes {cfg : Settings} (outcomes : cfg.outcomes.length = 5) (c : Channel) (cause : ResetCause)
    (sweepCount : BitVec 32) (k : KeyUnit) (done : BitVec 16) (t : Totals) :
    slice (storeBlock c cause sweepCount cfg k done t LaneTable.reset) 40 88 = List.replicate 88 0 := by
  have split : storeLayout c cause sweepCount cfg k done t LaneTable.reset ++ [(32, 0)] =
      (storeFront c cause sweepCount ++ (outcomesLayout cfg ++ (storeMiddle c cfg k done t LaneTable.reset).take 13)) ++
        ([(6, flagsNat (LaneTable.reset.entries.map laneEventShown)), (2, 0)] ++
          (laneStatesLayout LaneTable.reset ++ [(32, 0)])) := by
    simp [storeLayout, storeMiddle]
  have before : (encode (storeFront c cause sweepCount ++
      (outcomesLayout cfg ++ (storeMiddle c cfg k done t LaneTable.reset).take 13))).length = 40 := by
    simp [storeFront, storeMiddle, outcomesLayout_width outcomes]
  rw [storeBlock_eq outcomes rfl, split, encode_append, slice_append_right _ _ before]
  decide

/-- R9, R166, R193: the first status blocks lead the queue. -/
theorem startUp_firstBlocks (first : Nat → List Byte) (empty : s.path.queue = []) (none : s.path.waiting = [])
    (content : ∀ ch < 5, channelExists (imageSettings s.nv).map ch = true → blockContent (started s) ch = first ch) :
    ((List.range 5).filter (channelExists (imageSettings s.nv).map)).map (fun ch =>
      entryOfBytes (.statusBlock ch) ((imageSettings s.nv).map.statusBase + 128 * ch) (first ch)) <+:
        (acceptOffered (reportDue (started s))).path.queue := by
  have due : (List.range 5).filter (fun ch => issueDue (started s).settings ch (channelAt (started s) ch)) =
      (List.range 5).filter (channelExists (imageSettings s.nv).map) :=
    List.filter_congr fun ch listed => started_issueDue (List.mem_range.mp listed) s
  have blocks := reportDue_queue (u := started s) rfl empty none
  rw [due, List.map_congr_left fun ch listed => ?_] at blocks
  · exact blocks ▸ acceptOffered_queue_grows (reportDue (started s))
  · obtain ⟨low, exists_⟩ := List.mem_filter.mp listed
    rw [blockEntry, content ch (List.mem_range.mp low) exists_]
    rfl

/-! ### The key unit (R139, R146) -/

theorem exhaustedAtStart_iff {k : KeyStore} :
    exhaustedAtStart k = true ↔ k.current.state = .active ∧ k.currentMark = 1048576 := by
  simp [exhaustedAtStart, counterEnd]

theorem startKeys_of_value {k : KeyStore} (value : k.current.state ≠ .active ∨ k.currentMark ≠ 1048576) :
    startKeys k = rebuildKeys k := by
  refine if_neg fun exhausted => ?_
  obtain ⟨active, mark⟩ := exhaustedAtStart_iff.mp exhausted
  exact value.elim (· active) (· mark)

section exhausted

variable {k : KeyStore} (active : k.current.state = .active) (mark : k.currentMark = 1048576)
include active mark

/-- R139, R146: an exhausted key is replaced by the staged one. -/
theorem startKeys_promoted (staged : k.next.state = .loaded) : startKeys k = { rebuildKeys k with
    store := { k with
      current := { k.next with state := .active }
      currentMark := 1
      next := KeySlot.empty
      nextMark := 0
      highestId := k.next.id }
    currentC := 1
    nextC := 0 } := (if_pos (exhaustedAtStart_iff.mpr ⟨active, mark⟩)).trans (if_pos staged)

/-- R139, R146: an exhausted key with none staged is SPENT. -/
theorem startKeys_spent (none : k.next.state ≠ .loaded) : startKeys k = { rebuildKeys k with
    store := { k with current := { k.current with state := .spent } }
    currentC := 1048576 } := (if_pos (exhaustedAtStart_iff.mpr ⟨active, mark⟩)).trans (if_neg none)

end exhausted

theorem startKeys_counterStore (k : KeyStore) : (startKeys k).counterStore = false := by
  unfold startKeys exhaustKey
  split
  · dsimp only
    split <;> rfl
  · rfl

/-- R193: what waits at the port and the first blocks leave the key unit as it begins. -/
theorem startUp_keys (s : State) : (acceptOffered (reportDue (started s))).keys = startKeys s.nv.keys :=
  ((acceptOffered_touches _).keys (by decide)).trans ((reportDue_touches _).keys (by decide))

/-- Settles O4: the state by `exec_startUpEnd`, the first blocks by `startUp_firstBlocks`, the key unit case by case. -/
theorem startUpEndBeginsEveryBlock : Obligations.StartUpEndBeginsEveryBlock := by
  refine ⟨fun s starting => exec_startUpEnd starting, fun s other => congrArg Host.Outcome.next (if_neg other),
    fun s first starting empty none lanes content => ⟨?_, ?_⟩,
    fun s starting => ⟨_, exec_startUpEnd starting, ?_⟩⟩
  · rw [content 4, if_pos rfl]
    exact storeBlock_reset_lanes rfl _ _ _ _ _ _
  · obtain ⟨more, queue⟩ := startUp_firstBlocks first empty none fun ch listed exists_ =>
      (started_blockContent listed lanes exists_).trans (content ch).symm
    exact ⟨_, more, exec_startUpEnd starting, queue.symm⟩
  · rw [startUp_keys]
    refine ⟨startKeys_counterStore _, startKeys_waiting _, fun value => ?_, fun active mark staged => ?_,
      fun active mark none => ?_⟩
    · rw [startKeys_of_value value]
      exact ⟨rfl, rfl, rfl⟩
    · rw [startKeys_promoted active mark staged]
      exact ⟨rfl, rfl, rfl⟩
    · rw [startKeys_spent active mark none]
      exact ⟨rfl, rfl⟩

end Sys2Proof.Proofs
end

section
/-! SUPPORT. What a step does with the queue, by whether a command waits (log 1). -/

namespace Sys2Proof.Proofs

open Sys2Proof Sys2Proof.Machine

variable {s : State}

/-- Log 1: the command at the front leaves the queue before it is executed. -/
theorem step_of_pending_cons {c : Instr} {rest : List Instr} (front : s.pending = c :: rest) :
    step s = exec c { s with pending := rest } := by
  rw [step, front]

/-- Log 1: the part idles while no command waits. -/
theorem step_of_pending_nil (empty : s.pending = []) : step s = .next s := by
  rw [step, empty]

/-- Settles O1, by whether a command waits. -/
theorem stepTakesTheFrontCommand : Obligations.StepTakesTheFrontCommand :=
  ⟨fun _ _ _ => step_of_pending_cons rfl, fun _ => step_of_pending_nil⟩

end Sys2Proof.Proofs
end
